-- ==== Sys2Proof/Word.lean ====
section
/-! DEFINITION. The words of the part, the containers "one for each eye", "one for each camera" and "one for each axis",
and an answer of the IMU. -/

namespace Sys2Proof

/-- One byte of a packet or record. -/
abbrev Byte := BitVec 8

/-- A value of the 48-bit device tick counter (R25). -/
abbrev Tick := BitVec 48

/-- A 64-bit count of host microseconds (00, Time). -/
abbrev HostTime := BitVec 64

/-- The two eyes, L and R. -/
inductive Eye where
  | left
  | right
deriving DecidableEq, Repr

/-- Cameras are numbered 0 to 3. -/
abbrev Camera := Fin 4

/-- One value for each eye. -/
structure PerEye (α : Type) where
  left : α
  right : α
deriving DecidableEq, Repr

/-- One value for each camera. -/
structure PerCam (α : Type) where
  c0 : α
  c1 : α
  c2 : α
  c3 : α
deriving DecidableEq, Repr

/-- One value for each head axis. -/
structure PerAxis (α : Type) where
  yaw : α
  pitch : α
  roll : α
deriving DecidableEq, Repr

/-- An answer of the IMU to a read (R71): its status says whether the sample is new, and the values that arrived stand in
the order gyro 0, 1, 2, accelerometer 0, 1, 2, temperature. -/
structure ImuAnswer where
  fresh : Bool
  values : List (BitVec 16)
deriving DecidableEq, Repr

end Sys2Proof
end

