-- ==== Sys2Proof/Config.lean ====
section
/-! DEFINITION. The values the manual leaves open. Each is a constant without a body: a claim about the model holds
whatever it is. -/

namespace Sys2Proof.Config

/-- DESIGN CHOICE (log 3): which of several events due at the same device tick comes first. The argument is the
number of free choices made before. The rules say "either may come first" (R33, R47, R51, R58, R125, R151 ...). -/
opaque chooseEvent : Nat → Nat

/-- DESIGN CHOICE (log 9): the length in bytes of the body of the `n`-th reply queued, of the given kind code and status
code, where the manual names the content without a byte layout (R167: 0..112 bytes). It is used modulo 113. -/
opaque replyBodyLength : (n : Nat) → (kind status : Nat) → Nat

/-- DESIGN CHOICE (log 9): byte number `i` of the body of the `n`-th reply queued, where the manual gives no layout. -/
opaque replyBodyByte : (n : Nat) → (i : Nat) → Byte

/-- DESIGN CHOICE (log 10): the time taken that a deferred TAG_IN_USE reply carries; it stands for several requests
(R166). The argument is the number of replies queued before. -/
opaque duplicateTaken : Nat → Tick

/-- DESIGN CHOICE (log 11): what the Request Controller reads as byte `i` of a request header that its CTRL packet
does not carry (R179 gives no rule for a payload of fewer than four bytes). -/
opaque absentHeaderByte : Nat → Byte

/-- DESIGN CHOICE (log 12): the factor a computation keeps when the fixed loads exceed the contract and the ladder is
not run (R129, R131). It is used modulo 17. -/
opaque unusedFactor : Nat → Nat

end Sys2Proof.Config
end

