-- ==== Sys2Proof/Syntax.lean ====
section
/-! DEFINITION. The commands of the part: one constructor for each row of spec/opcode_table.json, in its order. -/

namespace Sys2Proof

/-- The steps of the part, "each whole and indivisible" (95). A packet command is a packet already judged by its
CRC-32 and class (R149, `Packet.decode`), and its operand is its payload. A request command is the taking of the oldest
request in the intake (R162) when that request is of its kind. -/
inductive Instr where
  /-- START_UP (R176): mv: the input voltage in mV at the end of settling -/
  | startUp (mv : Nat)
  /-- POWER_ON_RESET (R136): mv: the input voltage in mV -/
  | powerOnReset (mv : Nat)
  /-- FRAME_HEAD (R50) -/
  | frameHead (payload : List Byte)
  /-- ROW (R52) -/
  | row (payload : List Byte)
  /-- AUDIO_BLOCK (R109) -/
  | audioBlock (payload : List Byte)
  /-- TIME_MARK (R26): age: how many ticks ago its first byte arrived, from which the capture follows (R26; log 46) -/
  | timeMark (age : Nat) (payload : List Byte)
  /-- SYNC_LOCK (R32): e: the prediction error of the mark (R32, R34) -/
  | syncLock (e : Int)
  /-- CTRL (R161) -/
  | ctrl (payload : List Byte)
  /-- FILL (R149): the payload is not examined (R178) -/
  | fill (payload : List Byte)
  /-- UNKNOWN_CLASS_PACKET (R149) -/
  | unknownClassPacket
  /-- BAD_PACKET (R149) -/
  | badPacket
  /-- SESSION_START (R146) -/
  | sessionStart
  /-- SILENCE_TIMER_EXPIRY (R144) -/
  | silenceTimerExpiry
  /-- HOLD_TIMER_EXPIRY (R145) -/
  | holdTimerExpiry
  /-- SUPERFRAME_START (R152) -/
  | superframeStart
  /-- BAD_PACKET_WINDOW_END (R151) -/
  | badPacketWindowEnd
  /-- UPSTREAM_SLOT (R154) -/
  | upstreamSlot
  /-- UNKNOWN_KIND (R163) -/
  | unknownKind
  /-- DEVICE_IDENTIFY (R174) -/
  | deviceIdentify
  /-- DEVICE_STATUS (R174) -/
  | deviceStatus
  /-- SYSTEM_RESET (R175) -/
  | systemReset
  /-- GRANT_SET (R169) -/
  | grantSet
  /-- FAULT_READ (R171) -/
  | faultRead
  /-- FAULT_CLEAR (R171) -/
  | faultClear
  /-- LINK_SLOTS (R153) -/
  | linkSlots
  /-- LINK_STATUS (R158) -/
  | linkStatus
  /-- TIME_STATUS (R40) -/
  | timeStatus
  /-- TIMELINE_SET (R6) -/
  | timelineSet
  /-- TIMELINE_COMMIT (R11) -/
  | timelineCommit
  /-- TIMELINE_RUN (R13) -/
  | timelineRun
  /-- TIMELINE_STOP (R14) -/
  | timelineStop
  /-- FRAME_ANCHOR (R15) -/
  | frameAnchor
  /-- TIMELINE_STATUS (R21) -/
  | timelineStatus
  /-- DISPLAY_CONFIG (R48) -/
  | displayConfig
  /-- DISPLAY_DRIVE (R49) -/
  | displayDrive
  /-- PANEL_POWER_ON (R44) -/
  | panelPowerOn
  /-- PANEL_POWER_OFF (R46) -/
  | panelPowerOff
  /-- DISPLAY_BLANK (R59) -/
  | displayBlank
  /-- DISPLAY_RESUME (R60) -/
  | displayResume
  /-- DISPLAY_STATUS (R64) -/
  | displayStatus
  /-- LATE_SHIFT (R93) -/
  | lateShift
  /-- MOTION_CONFIG (R68) -/
  | motionConfig
  /-- CAMERA_CONFIG (R78) -/
  | cameraConfig
  /-- MOTION_STATUS (R86) -/
  | motionStatus
  /-- AUDIO_CONFIG (R108) -/
  | audioConfig
  /-- AUDIO_START (R111) -/
  | audioStart
  /-- AUDIO_STOP (R112) -/
  | audioStop
  /-- AUDIO_VOLUME (R116) -/
  | audioVolume
  /-- AUDIO_MUTE_ON (R117) -/
  | audioMuteOn
  /-- AUDIO_MUTE_OFF (R117) -/
  | audioMuteOff
  /-- CAPTURE_START (R119) -/
  | captureStart
  /-- CAPTURE_STOP (R119) -/
  | captureStop
  /-- AUDIO_STATUS (R122) -/
  | audioStatus
  /-- POWER_CONTRACT (R125) -/
  | powerContract
  /-- POWER_POLICY (R137) -/
  | powerPolicy
  /-- POWER_STATUS (R140) -/
  | powerStatus
  /-- FRAME_START (R2) -/
  | frameStart
  /-- PHASE_LOCKED (R17) -/
  | phaseLocked
  /-- FRAME_RECORD_DUE (R19) -/
  | frameRecordDue
  /-- DERATE_UP (R133) -/
  | derateUp
  /-- DERATE_DOWN (R133) -/
  | derateDown
  /-- LATCH (R53) -/
  | latch (eye : Eye)
  /-- VIDEO_STALL (R54) -/
  | videoStall (eye : Eye)
  /-- SCAN_WINDOW_OPEN (R55) -/
  | scanWindowOpen (eye : Eye)
  /-- SCAN_ROW (R56) -/
  | scanRow (eye : Eye)
  /-- STROBE_WINDOW_OPEN (R61) -/
  | strobeWindowOpen (eye : Eye)
  /-- STROBE_WINDOW_CLOSE (R61) -/
  | strobeWindowClose (eye : Eye)
  /-- EXPOSURE_WINDOW_OPEN (R79) -/
  | exposureWindowOpen (cam : Camera)
  /-- EXPOSURE_WINDOW_CLOSE (R79) -/
  | exposureWindowClose (cam : Camera)
  /-- EXPOSURE_DEADLINE (R81) -/
  | exposureDeadline (cam : Camera)
  /-- FRAME_VALID_RISE (R80) -/
  | frameValidRise (cam : Camera)
  /-- FRAME_VALID_FALL (R80) -/
  | frameValidFall (cam : Camera)
  /-- WAKE_TIMER_EXPIRY (R45) -/
  | wakeTimerExpiry (eye : Eye)
  /-- START_TIMER_EXPIRY (R68) -/
  | startTimerExpiry
  /-- DATA_READY_EDGE (R70) -/
  | dataReadyEdge
  /-- IMU_READ_ANSWER (R71): began: the tick at which the read it answers began (log 51) -/
  | imuReadAnswer (began : Tick) (answer : ImuAnswer)
  /-- IMU_READ_TIMEOUT (R71) -/
  | imuReadTimeout
  /-- IMU_PORT_FAILED (R72) -/
  | imuPortFailed
  /-- SENSOR_DUE (R76) -/
  | sensorDue
  /-- PROXIMITY_SAMPLE (R85): active: the level at the proximity input -/
  | proximitySample (active : Bool)
  /-- WEAR_CHANGED (R85) -/
  | wearChanged
  /-- SLEEP_TIMER_EXPIRY (R138) -/
  | sleepTimerExpiry
  /-- HOLDOVER_COARSE (R33) -/
  | holdoverCoarse
  /-- HOLDOVER_UNSYNCED (R33) -/
  | holdoverUnsynced
  /-- AUDIO_FRAME_BOUNDARY (R106): slots: the eight capture slots of the frame just completed, each right-aligned in 32 bits -/
  | audioFrameBoundary (slots : List (BitVec 32))
  /-- DIVIDER_RECOMPUTE (R107) -/
  | dividerRecompute
  /-- MUTE_RAMP_END (R114) -/
  | muteRampEnd
  /-- GAIN_STEP (R118) -/
  | gainStep
  /-- CODEC_FAULT_ASSERT (R113) -/
  | codecFaultAssert
  /-- CODEC_FAULT_DEASSERT (R113) -/
  | codecFaultDeassert
  /-- INPUT_MONITOR_SAMPLE (R132): mv, ma: the input voltage in mV and current in mA -/
  | inputMonitorSample (mv ma : Nat)
  /-- BROWNOUT_BEGIN (R134) -/
  | brownoutBegin
  /-- BROWNOUT_END (R135) -/
  | brownoutEnd
  /-- MALFORMED_VIDEO_PACKET (R179) -/
  | malformedVideoPacket
deriving DecidableEq, Repr

end Sys2Proof
end

