-- ==== Sys2Proof/Machine/Types.lean ====
section
/-! DEFINITION. The plain data of the nine blocks: modes and codes as inductive types, records and block states as
structures. A field the manual does not name is marked as the model's own. -/

namespace Sys2Proof.Machine

/-! ## Names shared by the blocks -/

/-- Link states (R143 to R147). -/
inductive LinkState where
  | down | acquire | up | hold | lost
deriving DecidableEq, Repr

/-- Discipline states (R27 to R34). -/
inductive Sync where
  | unsynced | coarse | locked
deriving DecidableEq, Repr

/-- Causes of a change of discipline state (R34). -/
inductive SyncCause where
  | firstMark | lock | error | step | restart | holdover | sessionStart
deriving DecidableEq, Repr

/-- Phase modes (R17). -/
inductive PhaseMode where
  | free | acquiring | locked
deriving DecidableEq, Repr

/-- The six blank causes (R57). -/
inductive Cause where
  | link | power | wear | stallLeft | stallRight | host
deriving DecidableEq, Repr

/-- The four mute causes (R113). -/
inductive MuteCause where
  | host | link | codec | power
deriving DecidableEq, Repr

/-- Panel states (R44 to R47). -/
inductive Panel where
  | off | waking | on
deriving DecidableEq, Repr

/-- Wear states (R85). -/
inductive Wear where
  | unknown | worn | removed
deriving DecidableEq, Repr

/-- IMU port states (section 4.1). -/
inductive Port where
  | off | starting | running | failed
deriving DecidableEq, Repr

/-- Why a read failed (R71). -/
inductive ReadCause where
  | timeout | malformed
deriving DecidableEq, Repr

/-- Camera channel states (section 4.6). -/
inductive Channel where
  | disabled | idle | opened | closing
deriving DecidableEq, Repr

/-- Playback states (section 6.3). -/
inductive Playback where
  | stopped | priming | playing | muting | muted
deriving DecidableEq, Repr

/-- Audio levels L0 to L4 (R118, R127). -/
inductive Level where
  | l0 | l1 | l2 | l3 | l4
deriving DecidableEq, Repr

/-- Causes of a change of sleep state (R138, R139). -/
inductive SleepCause where
  | timeout | worn | policy
deriving DecidableEq, Repr

/-- Shift modes of a frame head (R50). -/
inductive ShiftMode where
  | auto | host | none
deriving DecidableEq, Repr

/-- Sources of a shift (R91). -/
inductive ShiftSource where
  | none | host | hostLate | auto
deriving DecidableEq, Repr

/-- Classes of the slot table (R153). -/
inductive SlotClass where
  | opened | sensor | capture | reply | event
deriving DecidableEq, Repr

/-- Request groups (R168). -/
inductive Group where
  | device | link | display | motion | audio | power
deriving DecidableEq, Repr

/-- Permissions (R168). -/
inductive Perm where
  | none | read | write
deriving DecidableEq, Repr

/-- Reply statuses (R167). -/
inductive Status where
  | ok | late | busy | tagInUse | noAccess | outOfRange | wrongState | unknownKind | badLength | cancelled
deriving DecidableEq, Repr

/-- Event sources (R172, section 10.5). -/
inductive Source where
  | linkController | requestController | timebase | frameTimeline | displayOutput | motionHub | audioEngine
  | powerManager
  | eye (e : Eye)
  | camera (c : Camera)
deriving DecidableEq, Repr

/-- Request kinds (section 9.8). -/
inductive Kind where
  | deviceIdentify | deviceStatus | systemReset | grantSet | faultRead | faultClear
  | linkSlots | linkStatus | timeStatus
  | timelineSet | timelineCommit | timelineRun | timelineStop | frameAnchor | timelineStatus
  | displayConfig | displayDrive | panelPower | displayBlank | displayResume | displayStatus | lateShift
  | motionConfig | cameraConfig | motionStatus
  | audioConfig | audioStart | audioStop | audioVolume | audioMute | captureStart | captureStop | audioStatus
  | powerContract | powerPolicy | powerStatus
deriving DecidableEq, Repr

/-! ## Frame Timeline (chapter 1) -/

/-- A channel of a bank or an effective window: enabled, and open over the counter values [start, stop) (R3). -/
structure Window where
  on : Bool
  start : Nat
  stop : Nat
deriving DecidableEq, Repr

/-- The eight channels SCAN_L, SCAN_R, STROBE_L, STROBE_R, EXPOSE_0..EXPOSE_3. -/
structure Windows where
  scan : PerEye Window
  strobe : PerEye Window
  expose : PerCam Window
deriving DecidableEq, Repr

/-- A bank (section 1.2). -/
structure Bank where
  period : Nat
  guard : Nat
  divider : Nat
  win : Windows
deriving DecidableEq, Repr

/-- The clamp flags of a channel (R8). -/
structure ClampFlags where
  endClamped : Bool
  zeroWidth : Bool
  movedToScanEnd : Bool
deriving DecidableEq, Repr

/-- The outcome of guard trimming for an exposure (R9). -/
inductive Trim where
  | unchanged | shortened | removed
deriving DecidableEq, Repr

/-- What a commit computes at its taking (R8 to R10) and reports in its reply. -/
structure Commit where
  windows : Windows
  scanFlags : PerEye ClampFlags
  strobeFlags : PerEye ClampFlags
  exposeFlags : PerCam ClampFlags
  trims : PerCam Trim
  leads : PerEye (Option Nat)
  leadClamped : PerEye Bool
deriving DecidableEq, Repr

/-- The checks of R7. -/
inductive CommitCheck where
  | period | guard | divider | scan (e : Eye)
deriving DecidableEq, Repr

/-- Where a strobe or exposure window stands in the current frame (the model's own; R3). -/
inductive WindowPhase where
  | before | opened | closed
deriving DecidableEq, Repr

/-- A shift result record (R89). -/
structure Shift where
  sx : Int
  sy : Int
  source : ShiftSource
  clamp : Bool
  short : Bool
  limit : Bool
  noData : Bool
  noSync : Bool
deriving DecidableEq, Repr

/-- The per-eye fields of a FRAME record, as handed over at the frame's end (R20, R63, R104). -/
structure EyeFrame where
  id : Option (BitVec 16)
  shift : Shift
  repeats : Nat
  lit : Bool
deriving DecidableEq, Repr

/-- The fields of a FRAME record (R20). -/
structure FrameRecord where
  frame : BitVec 32
  tick : Tick
  length : Nat
  period : Nat
  adj : Int
  phase : PhaseMode
  error : Option Int
  cutShort : Bool
  newBank : Bool
  eyes : PerEye EyeFrame
deriving DecidableEq, Repr

/-- The frame just ended: its record and the report divider of its bank (R19). -/
structure EndedFrame where
  record : FrameRecord
  divider : Nat
deriving DecidableEq, Repr

/-- The Frame Timeline's state (section 1.1). -/
structure Timeline where
  running : Bool
  counter : Nat
  frame : BitVec 32
  startTick : Tick
  adj : Int
  active : Bank
  pendingBank : Bank
  windows : Windows
  leads : PerEye (Option Nat)
  waiting : Option Commit
  phase : PhaseMode
  anchor : Option HostTime
  lockRun : Nat
  lastError : Option Int
  reportCount : Nat
  /-- The phase error computed at this frame's start, absent if none was (R20). -/
  frameError : Option Int
  /-- A commit took effect at this frame's start (R20, NEW_BANK). -/
  newBank : Bool
  /-- The frame just ended, as handed over (R20). -/
  ended : Option EndedFrame
  /-- The eye's latch has been signalled in this frame (the model's own, R4). -/
  latched : PerEye Bool
  /-- The eye's scan window has opened in this frame (the model's own, R3). -/
  scanOpened : PerEye Bool
  strobe : PerEye WindowPhase
  expose : PerCam WindowPhase
deriving DecidableEq, Repr

/-! ## Timebase (chapter 2) -/

/-- The four kinds stamped with host time (R38). -/
inductive Stamped where
  | sensor | exposure | frame | capture
deriving DecidableEq, Repr

/-- The last-reported host times (R38). -/
structure Reported where
  sensor : HostTime
  exposure : HostTime
  frame : HostTime
  capture : HostTime
deriving DecidableEq, Repr

/-- The Timebase's state (chapter 2, Discipline state). The holdover timer is `Timebase.elapsed`. -/
structure Timebase where
  sync : Sync
  dRef : Tick
  hRef : HostTime
  rate : Int
  dLast : Tick
  hLast : HostTime
  lockCount : Nat
  reported : Reported
  accepted : BitVec 32
  tooClose : BitVec 32
  rejected : BitVec 32
  restarts : BitVec 32
  steps : BitVec 32
deriving DecidableEq, Repr

/-! ## Display Output (chapter 3) and Late Shift Unit (chapter 5) -/

/-- A late shift stored on a pending head (R93). -/
structure LateShift where
  sx : Int
  sy : Int
  clampX : Bool
  clampY : Bool
deriving DecidableEq, Repr

/-- A frame head (R50). -/
structure Head where
  id : BitVec 16
  pose : HostTime
  mode : ShiftMode
  late : Option LateShift
deriving DecidableEq, Repr

/-- A row held in a line store slot: its tag (host frame id, source row) and its pixels, three bytes each (R52). -/
structure StoredRow where
  id : BitVec 16
  row : Nat
  pixels : List Byte
deriving DecidableEq, Repr

/-- A line store: the filled slots in rising order; a slot not listed is empty (R52). -/
abbrev LineStore := List (Nat × StoredRow)

/-- The display configuration (R48). -/
structure DisplayConfig where
  columns : Nat
  rows : Nat
  marginX : Nat
  marginY : Nat
  ppdX : Nat
  ppdY : Nat
  lead : Nat
  wearBlanking : Bool
deriving DecidableEq, Repr

/-- One flag or condition for each blank cause (R57). -/
structure Causes where
  link : Bool
  power : Bool
  wear : Bool
  stallLeft : Bool
  stallRight : Bool
  host : Bool
deriving DecidableEq, Repr

/-- What the Display Output keeps per eye (chapter 3). -/
structure EyeDisplay where
  panel : Panel
  wake : Nat
  sleepMark : Bool
  lines : LineStore
  pending : Option Head
  bound : Option Head
  shift : Shift
  /-- The next panel row to be scanned; `none` is idle. -/
  scan : Option Nat
  /-- The previously output row of this scan: its panel row and its pixels (R56). -/
  lastRow : Option (Nat × List Byte)
  repeats : Nat
  lit : Bool
  missed : Nat
  request : Nat
  drive : Nat
deriving DecidableEq, Repr

/-- The Display Output's state (chapter 3). -/
structure Display where
  eyes : PerEye EyeDisplay
  present : Causes
  latches : Causes
  config : DisplayConfig
  headsReceived : BitVec 32
  headsDropped : BitVec 32
  rowsStored : BitVec 32
  strayRows : BitVec 32
  malformed : BitVec 32
deriving DecidableEq, Repr

/-- The Late Shift Unit's state (chapter 5). -/
structure ShiftUnit where
  record : PerEye Shift
  latched : PerEye Bool
deriving DecidableEq, Repr

/-! ## Motion Hub (chapter 4) -/

/-- The motion configuration (R67). -/
structure MotionConfig where
  gyroRange : Nat
  accelRange : Nat
  rate : Nat
  axis : PerAxis Nat
  negative : PerAxis Bool
  bias : PerAxis Int
  decimation : Nat
  reporting : Bool
deriving DecidableEq, Repr

/-- A sample of the sensor ring (section 4.4). -/
structure Sample where
  tick : Tick
  gyro : PerAxis Int
  accel : PerAxis Int
  temperature : Int
deriving DecidableEq, Repr

/-- A read in flight: the tick of the edge being read and the tick the read began (R71). -/
structure ReadInFlight where
  edge : Tick
  began : Tick
deriving DecidableEq, Repr

/-- An exposure context (section 4.6). `deadline` counts in CLOSING only. -/
structure Exposure where
  frame : BitVec 32
  trigger : Tick
  start : Option Tick
  stop : Option Tick
  drive : Nat
  recorded : Bool
  lateStart : Bool
  deadline : Tick
deriving DecidableEq, Repr

/-- A camera channel (section 4.6). The enable is `state ≠ disabled`; the trigger is asserted in `opened`. -/
structure Cam where
  state : Channel
  request : Nat
  context : Option Exposure
  drive : Nat
deriving DecidableEq, Repr

/-- The Motion Hub's state (chapter 4). -/
structure Motion where
  port : Port
  start : Nat
  config : MotionConfig
  read : Option ReadInFlight
  edge : Option Tick
  failures : Nat
  missed : Nat
  ring : List Sample
  decimation : Nat
  cams : PerCam Cam
  /-- The last proximity level sampled. -/
  level : Option Bool
  levelRun : Nat
  wear : Wear
  /-- A brownout has ended in the current frame (R84). -/
  darkened : Bool
  stored : BitVec 32
  edgesMissed : BitVec 32
  readFailures : BitVec 32
  strayEdges : BitVec 32
deriving DecidableEq, Repr

/-! ## Audio Engine (chapter 6) -/

/-- The mute-cause set (R113). -/
structure Mutes where
  host : Bool
  link : Bool
  codec : Bool
  power : Bool
deriving DecidableEq, Repr

/-- The audio configuration (R108): slot width, channel count and the slot of each channel up to the count. -/
structure AudioConfig where
  width : Nat
  channels : Nat
  slots : List Nat
deriving DecidableEq, Repr

/-- A stereo playback frame of 24-bit samples. -/
structure Stereo where
  left : BitVec 24
  right : BitVec 24
deriving DecidableEq, Repr

/-- A capture frame (R120). -/
structure CaptureFrame where
  tick : Tick
  samples : List (BitVec 24)
deriving DecidableEq, Repr

/-- Playback slots 0 and 1 as sent in an audio frame, right-aligned in 32 bits (R106, R115). -/
structure AudioLine where
  width : Nat
  left : BitVec 32
  right : BitVec 32
deriving DecidableEq, Repr

/-- The Audio Engine's state (chapter 6). Gains are in half-dB steps, −180..0. -/
structure Audio where
  playback : Playback
  fromPlaying : Bool
  ramp : Nat
  mute : Mutes
  fifo : List Stereo
  expected : Option (BitVec 16)
  config : AudioConfig
  divider : Nat
  remainder : Nat
  recompute : Nat
  /-- Oscillator cycles from the current tick to the next frame boundary (the model's own, R107). -/
  cycles : Nat
  requested : Int
  ceiling : Level
  gain : Int
  capturing : Bool
  /-- The first boundary after CAPTURE_START has still to pass (R119). -/
  skip : Bool
  captured : List CaptureFrame
  discard : Nat
  played : BitVec 32
  underruns : BitVec 32
  overflowed : BitVec 32
  gaps : BitVec 32
  blocksDiscarded : BitVec 32
  malformed : BitVec 32
  captureLost : BitVec 32
  line : AudioLine
deriving DecidableEq, Repr

/-! ## Power Manager (chapter 7) -/

/-- A line of the consumer table: requested code, granted code, cost in mW (R127). In the Power Manager's state the
request is the one that its last computation read (R128; log 19). -/
structure Consumer where
  request : Nat
  grant : Nat
  cost : Nat
deriving DecidableEq, Repr

/-- One sample of the input monitor (R132). -/
structure InputSample where
  mv : Nat
  ma : Nat
  mw : Nat
deriving DecidableEq, Repr

/-- The Power Manager's state (chapter 7). -/
structure Power where
  contract : Nat
  strobe : PerEye Consumer
  illum : PerCam Consumer
  audioRequest : Level
  audioGrant : Level
  audioCost : Nat
  fs : Nat
  fi : Nat
  limited : Bool
  overContract : Bool
  derate : Nat
  overdraw : Nat
  recovery : Nat
  sample : Option InputSample
  sum : Nat
  count : Nat
  average : Nat
  brownout : Bool
  lowRun : Nat
  highRun : Nat
  asleep : Bool
  timeout : Nat
  /-- Ticks since the wear state became REMOVED; `none` is stopped. -/
  sleepTimer : Option Nat
deriving DecidableEq, Repr

/-- A fixed load: present, and its cost in mW (R126). -/
structure FixedLoad where
  present : Bool
  cost : Nat
deriving DecidableEq, Repr

/-- The five fixed loads (R126). -/
structure FixedLoads where
  core : FixedLoad
  panelLeft : FixedLoad
  panelRight : FixedLoad
  sensors : FixedLoad
  cameras : FixedLoad
deriving DecidableEq, Repr

/-! ## Events (R172, section 10.5) -/

/-- What an event's detail carries; the constructor is the event's kind. -/
inductive Detail where
  | linkUp (session : BitVec 8) (resumed : Bool) (held : Nat)
  | linkHold (last : Tick)
  | linkLost (session : BitVec 8) (requests replies reports : Nat)
  | linkDegraded (count : Nat) (first : BitVec 16)
  | syncChanged (before after : Sync) (cause : SyncCause) (error : Option Int)
  | markRejected (spacing difference : Int)
  | phaseLockChanged (mode : PhaseMode) (error : Option Int)
  | displayBlanked (cause : Cause)
  | videoStall (run : Nat)
  | frameDropped (dropped new : BitVec 16)
  | wearChanged (before after : Wear)
  | cameraNoResponse (frame : BitVec 32) (trigger : Tick)
  | imuFault (cause : ReadCause) (count : Nat) (port : Port)
  | audioUnderrun (underruns : BitVec 32)
  | audioOverflow (sequence : BitVec 16) (discarded : Nat)
  | audioFault (tick : Tick)
  | captureDiscard (tick : Tick)
  | powerLimited (fs fi : Nat) (level : Level) (derate : Nat) (available : Int) (overContract : Bool)
  | brownout (mv : Nat)
  | overdraw (average contract derate : Nat)
  | sleepChanged (asleep : Bool) (cause : SleepCause)
  | accessFault (client : BitVec 2) (kind : Byte) (group : Group)
  | ctrlOverrun (discarded : BitVec 32)
deriving DecidableEq, Repr

/-- A record of the event queue (R172). -/
structure Event where
  source : Source
  detail : Detail
  count : Nat
  first : Tick
  last : Tick
deriving DecidableEq, Repr

/-! ## Report records (R20, R77, R83) and the upstream lane (R152 to R157, R180) -/

/-- A SENSOR record before its placing (R77). -/
structure SensorRecord where
  sample : Sample
  missed : Nat
deriving DecidableEq, Repr

/-- An EXPOSURE record before its placing (R83). -/
structure ExposureRecord where
  camera : Camera
  frame : BitVec 32
  start : Tick
  trigger : Tick
  stop : Option Tick
  drive : Nat
  noResponse : Bool
  noEnd : Bool
  cutShort : Bool
  lateStart : Bool
deriving DecidableEq, Repr

/-- A report record (R156). -/
inductive Report where
  | sensor (r : SensorRecord)
  | exposure (r : ExposureRecord)
  | frame (r : FrameRecord)
deriving DecidableEq, Repr

/-- A report record as placed in a slot (R157). -/
structure Placed where
  report : Report
  host : HostTime
  adjusted : Bool
  sync : Sync
  tally : Nat
deriving DecidableEq, Repr

/-- A CAPTURE block as placed in a slot (R121). -/
structure CaptureBlock where
  tick : Tick
  channels : Nat
  frames : List (List (BitVec 24))
  discard : Nat
  host : HostTime
  adjusted : Bool
  sync : Sync
deriving DecidableEq, Repr

/-- The drop tallies (R156). -/
structure Tallies where
  sensor : Nat
  exposure : Nat
  frame : Nat
deriving DecidableEq, Repr

/-- The counters of valid packets of the five classes (R149). -/
structure ValidCounts where
  video : BitVec 32
  audio : BitVec 32
  ctrl : BitVec 32
  mark : BitVec 32
  fill : BitVec 32
deriving DecidableEq, Repr

/-- The superframe header (R152, R180). -/
structure SuperframeHeader where
  session : BitVec 8
  sync : Sync
  number : BitVec 16
  tick : Tick
deriving DecidableEq, Repr

/-! ## Requests and replies (chapter 9) -/

/-- The permissions of one client in the six groups (R168). -/
structure Perms where
  device : Perm
  link : Perm
  display : Perm
  motion : Perm
  audio : Perm
  power : Perm
deriving DecidableEq, Repr

/-- The client grant table: clients 1, 2 and 3 (R168). -/
structure Grants where
  client1 : Perms
  client2 : Perms
  client3 : Perms
deriving DecidableEq, Repr

/-- The fault record when it holds a refusal (R170). -/
structure FaultRecord where
  client : BitVec 2
  tag : BitVec 4
  kind : Byte
  tick : Tick
  more : Bool
  count : Nat
deriving DecidableEq, Repr

/-- A request as the Request Controller decodes it (section 10.2). -/
structure Request where
  client : BitVec 2
  tag : BitVec 4
  kind : Byte
  length : Nat
  body : List Byte
  /-- The bytes the packet carries after its header: payload length less 4 (R179). -/
  carried : Int
  taken : Tick
deriving DecidableEq, Repr

/-- What a waiting request waits for: TIMELINE_COMMIT, PANEL_POWER naming eyes, or MOTION_CONFIG with the clamp flags
of its bias axes (R164). -/
inductive Wait where
  | commit
  | panels (left right : Bool)
  | motion (clamped : PerAxis Bool)
deriving DecidableEq, Repr

/-- A request table entry (R164, R166). `dupKind` is the kind of the last refused duplicate. -/
structure Entry where
  client : BitVec 2
  tag : BitVec 4
  kind : Byte
  taken : Tick
  dups : Nat
  dupKind : Byte
  wait : Wait
deriving DecidableEq, Repr

/-- The fields a refusal OUT_OF_RANGE can name (R48, R67, R108). -/
inductive Field where
  | panelColumns | panelRows | ppdX | ppdY
  | gyroRange | accelRange | sampleRate | axisMap | decimation
  | slotWidth | channelCount | channelSlot (channel : Nat)
deriving DecidableEq, Repr

/-- How LATE_SHIFT judges a named eye (R93), with what the reply gives for it. -/
inductive LateOutcome where
  | stored (late : LateShift) (mode : ShiftMode)
  | late (record : Shift)
  | notFound
deriving DecidableEq, Repr

/-- TIMELINE_STATUS (R21). -/
structure TimelineStatus where
  running : Bool
  counter : Nat
  frame : BitVec 32
  startTick : Tick
  adj : Int
  phase : PhaseMode
  anchor : Option HostTime
  lockRun : Nat
  lastError : Option Int
  waiting : Bool
  period : Nat
  guard : Nat
  divider : Nat
  reportCount : Nat
  windows : Windows
  latchPoints : PerEye (Option Nat)
deriving DecidableEq, Repr

/-- TIME_STATUS (R40). -/
structure TimeStatus where
  tick : Tick
  hostNow : HostTime
  sync : Sync
  dRef : Tick
  hRef : HostTime
  rate : Int
  dLast : Tick
  hLast : HostTime
  lockCount : Nat
  sinceLast : Int
  reported : Reported
  accepted : BitVec 32
  tooClose : BitVec 32
  rejected : BitVec 32
  restarts : BitVec 32
  steps : BitVec 32
deriving DecidableEq, Repr

/-- The per-eye part of DISPLAY_STATUS (R64). -/
structure EyeStatus where
  panel : Panel
  wake : Nat
  sleepMark : Bool
  pending : Option (BitVec 16 × HostTime × ShiftMode × Bool)
  bound : Option (BitVec 16)
  shift : Shift
  scan : Option Nat
  repeats : Nat
  lit : Bool
  missed : Nat
  stalled : Bool
  rowsHeld : Nat
  request : Nat
  grant : Nat
  drive : Nat
deriving DecidableEq, Repr

/-- DISPLAY_STATUS (R64). -/
structure DisplayStatus where
  eyes : PerEye EyeStatus
  present : Causes
  latches : Causes
  config : DisplayConfig
  headsReceived : BitVec 32
  headsDropped : BitVec 32
  rowsStored : BitVec 32
  strayRows : BitVec 32
  malformed : BitVec 32
deriving DecidableEq, Repr

/-- The per-camera part of MOTION_STATUS (R86). -/
structure CamStatus where
  enabled : Bool
  request : Nat
  grant : Nat
  drive : Nat
  state : Channel
  context : Option (BitVec 32 × Tick)
deriving DecidableEq, Repr

/-- MOTION_STATUS (R86). -/
structure MotionStatus where
  port : Port
  start : Nat
  config : MotionConfig
  reading : Bool
  edgePending : Bool
  failures : Nat
  missed : Nat
  samples : Nat
  oldest : Option Tick
  newest : Option Sample
  decimation : Nat
  cams : PerCam CamStatus
  wear : Wear
  level : Option Bool
  levelRun : Nat
  stored : BitVec 32
  edgesMissed : BitVec 32
  readFailures : BitVec 32
  strayEdges : BitVec 32
deriving DecidableEq, Repr

/-- AUDIO_STATUS (R122). -/
structure AudioStatus where
  playback : Playback
  /-- Ramp origin (from PLAYING) and ramp count, in MUTING. -/
  ramp : Option (Bool × Nat)
  mute : Mutes
  fill : Nat
  expected : Option (BitVec 16)
  config : AudioConfig
  divider : Nat
  remainder : Nat
  recompute : Nat
  requested : Int
  requestedLevel : Level
  ceiling : Level
  target : Int
  gain : Int
  capturing : Bool
  captured : Nat
  discard : Nat
  played : BitVec 32
  underruns : BitVec 32
  overflowed : BitVec 32
  gaps : BitVec 32
  blocksDiscarded : BitVec 32
  malformed : BitVec 32
  captureLost : BitVec 32
deriving DecidableEq, Repr

/-- The reply body of POWER_CONTRACT (R125). -/
structure ContractReply where
  contract : Nat
  available : Int
  fs : Nat
  fi : Nat
  strobe : PerEye Consumer
  illum : PerCam Consumer
  audioGrant : Level
  audioCost : Nat
  limited : Bool
  overContract : Bool
deriving DecidableEq, Repr

/-- POWER_STATUS (R140). -/
structure PowerStatus where
  contract : Nat
  loads : FixedLoads
  fixedSum : Nat
  available : Int
  strobe : PerEye Consumer
  illum : PerCam Consumer
  audioRequest : Level
  audioGrant : Level
  audioCost : Nat
  variableTotal : Nat
  fs : Nat
  fi : Nat
  limited : Bool
  overContract : Bool
  derate : Nat
  overdraw : Nat
  recovery : Nat
  sample : Option InputSample
  count : Nat
  average : Nat
  brownout : Bool
  lowRun : Nat
  highRun : Nat
  asleep : Bool
  timeout : Nat
  sleepMs : Nat
deriving DecidableEq, Repr

/-- LINK_STATUS (R158). -/
structure LinkStatus where
  state : LinkState
  session : BitVec 8
  run : Nat
  sinceValid : Int
  held : Nat
  superframe : BitVec 16
  table : List SlotClass
  pendingTable : Option (List SlotClass)
  fill : Nat
  sensors : Nat
  exposures : Nat
  frames : Nat
  tallies : Tallies
  badCount : Nat
  valid : ValidCounts
  bad : BitVec 32
  unknown : BitVec 32
deriving DecidableEq, Repr

/-- DEVICE_IDENTIFY (R174): part code, revision and capacities. -/
structure Identity where
  part : Nat
  revision : Nat
  sensorRing : Nat
  reportQueue : Nat
  requestTable : Nat
  replyQueue : Nat
  eventQueue : Nat
  intake : Nat
  slots : Nat
  cameras : Nat
  lineStore : Nat
  playbackFifo : Nat
  captureFifo : Nat
deriving DecidableEq, Repr

/-- DEVICE_STATUS (R174). -/
structure DeviceStatus where
  link : LinkState
  session : BitVec 8
  sync : Sync
  running : Bool
  frame : BitVec 32
  phase : PhaseMode
  waiting : Bool
  panels : PerEye Panel
  latches : Causes
  port : Port
  camerasEnabled : Nat
  wear : Wear
  playback : Playback
  mute : Mutes
  capturing : Bool
  contract : Nat
  derate : Nat
  brownout : Bool
  asleep : Bool
  limited : Bool
  entries : Nat
  replies : Nat
  reserved : Nat
  intake : Nat
  events : Nat
  faultHeld : Bool
  taken : BitVec 32
  refused : BitVec 32
  discarded : BitVec 32
deriving DecidableEq, Repr

/-- The content of a reply's body, as the owner of its kind states it. -/
inductive ReplyBody where
  | empty
  /-- BAD_LENGTH: the body length the kind requires (R163). -/
  | required (length : Nat)
  /-- NO_ACCESS: the group and the permission the kind needs (R163). -/
  | needs (group : Group) (perm : Perm)
  /-- BUSY at check 5: the number of request table entries (R163). -/
  | entries (n : Nat)
  /-- TAG_IN_USE: the duplicate count (R166). -/
  | duplicates (n : Nat)
  | field (f : Field)
  | identity (i : Identity)
  | deviceStatus (v : DeviceStatus)
  /-- SYSTEM_RESET: waiting requests discarded (R175). -/
  | discarded (n : Nat)
  /-- GRANT_SET: the permissions before and after, or the client or the first group refused (R169). -/
  | grants (before after : Perms)
  | client (c : Nat)
  | group (g : Group)
  | fault (f : Option FaultRecord)
  /-- LINK_SLOTS: the superframe at which the table comes into force, or the first slot refused (R153). -/
  | superframe (n : BitVec 16)
  | slot (n : Nat)
  | linkStatus (v : LinkStatus)
  | timeStatus (v : TimeStatus)
  | commitCheck (c : CommitCheck)
  /-- TIMELINE_COMMIT: the outcomes, the activation frame and whether it took effect at a frame start (R10). -/
  | committed (c : Commit) (activation : BitVec 32) (atFrameStart : Bool)
  /-- TIMELINE_RUN: the first frame and the latch leads (R13). -/
  | run (frame : BitVec 32) (leads : PerEye (Option Nat))
  | timelineStatus (v : TimelineStatus)
  /-- DISPLAY_CONFIG: the configuration, the clamp flags of M_x, M_y and L, the heads discarded (R48). -/
  | displayConfig (c : DisplayConfig) (clampX clampY clampLead : Bool) (heads : Nat)
  /-- DISPLAY_DRIVE: the codes held and the clamp flags (R49). -/
  | drive (codes : PerEye Nat) (clamped : PerEye Bool)
  /-- PANEL_POWER on: the state of each named eye (R44). -/
  | panels (states : PerEye (Option Panel))
  /-- DISPLAY_BLANK and DISPLAY_RESUME: causes latched and conditions present (R59, R60). -/
  | causes (latches present : Causes)
  | displayStatus (v : DisplayStatus)
  | lateShift (outcomes : PerEye (Option LateOutcome))
  | motionConfig (c : MotionConfig) (clamped : PerAxis Bool)
  /-- CAMERA_CONFIG: the enable and drive request held, the clamp flag (R78). -/
  | camera (enabled : Bool) (request : Nat) (clamped : Bool)
  | motionStatus (v : MotionStatus)
  /-- AUDIO_CONFIG: the configuration and the capture frames per block (R108). -/
  | audioConfig (c : AudioConfig) (framesPerBlock : Nat)
  /-- AUDIO_START and AUDIO_MUTE: the playback state and the mute-cause set (R111, R117). -/
  | playback (p : Playback) (m : Mutes)
  /-- AUDIO_STOP and CAPTURE_STOP: frames emptied (R112, R119). -/
  | emptied (n : Nat)
  /-- AUDIO_VOLUME: requested gain, clamp flag, requested level, ceiling, target gain (R116). -/
  | volume (requested : Int) (clamped : Bool) (level ceiling : Level) (target : Int)
  /-- CAPTURE_START: channel count and frames per block (R119). -/
  | capture (channels framesPerBlock : Nat)
  | audioStatus (v : AudioStatus)
  | contract (v : ContractReply)
  /-- POWER_POLICY: timeout, asleep, the sleep timer's elapsed time in ms (R137). -/
  | policy (timeout : Nat) (asleep : Bool) (elapsedMs : Nat)
  | powerStatus (v : PowerStatus)
deriving DecidableEq, Repr

/-- A reply (R167). `length` is its body's length in bytes and `serial` the index of its free body bytes (log 9). -/
structure Reply where
  client : BitVec 2
  tag : BitVec 4
  kind : Byte
  status : Status
  body : ReplyBody
  taken : Tick
  length : Nat
  serial : Nat
deriving DecidableEq, Repr

/-- The Request Controller's state (chapter 9). -/
structure Requests where
  intake : List (List Byte)
  table : List Entry
  replies : List Reply
  grants : Grants
  fault : Option FaultRecord
  events : List Event
  taken : BitVec 32
  refused : BitVec 32
  discarded : BitVec 32
  /-- Replies queued so far (the model's own, log 9). -/
  serial : Nat
deriving DecidableEq, Repr

/-! ## Link Controller (chapter 8) -/

/-- What a slot carries (R154, R155). -/
inductive Content where
  | filler
  | replies (rs : List Reply)
  | events (es : List Event)
  | reports (rs : List Placed)
  | capture (b : CaptureBlock)
deriving DecidableEq, Repr

/-- A slot sent on the upstream lane (R180). -/
structure Slot where
  number : Nat
  cls : SlotClass
  content : Content
deriving DecidableEq, Repr

/-- The Link Controller's state (chapter 8). -/
structure Link where
  state : LinkState
  run : Nat
  session : BitVec 8
  silence : Nat
  hold : Nat
  /-- The tick at which the last valid packet's check completed (R144). -/
  lastValid : Tick
  superframe : BitVec 16
  badCount : Nat
  /-- The superframe with which the current bad-packet window began (R151). -/
  windowFirst : Option (BitVec 16)
  table : List SlotClass
  pendingTable : Option (List SlotClass)
  reports : List Report
  tallies : Tallies
  valid : ValidCounts
  bad : BitVec 32
  unknown : BitVec 32
  /-- The start tick of the superframe on the lane and its next slot, 16 when all have begun (the model's own, R152). -/
  superframeTick : Tick
  nextSlot : Nat
  /-- The header of the superframe on the lane and the slots of it sent so far (outputs). -/
  header : Option SuperframeHeader
  slots : List Slot
deriving DecidableEq, Repr

/-! ## Clock and pins -/

/-- The device tick counter (R25), and the model's own: whether the counter has wrapped since power-on (log 46), and
which of the events that come at a multiple of ticks have been done at this tick, a data-ready edge among them (log
41). -/
structure Clock where
  tick : Tick
  wrapped : Bool
  superframeDone : Bool
  proximityDone : Bool
  gainDone : Bool
  monitorDone : Bool
  edgeDone : Bool
deriving DecidableEq, Repr

/-- The levels at the sampled inputs (log 8). -/
structure Pins where
  mv : Nat
  ma : Nat
  proximity : Bool
  codecFault : Bool
  capture : List (BitVec 32)
deriving DecidableEq, Repr

end Sys2Proof.Machine
end

