-- ==== Sys2Proof/Machine/Arith.lean ====
section
/-! DEFINITION. The manual's arithmetic (00, Arithmetic), tick and host time differences, saturating counts, and the
reading and writing of the per-eye, per-camera, per-cause and per-client containers. -/

namespace Sys2Proof

def PerEye.get {α : Type} (p : PerEye α) : Eye → α
  | .left => p.left
  | .right => p.right

def PerEye.set {α : Type} (p : PerEye α) (e : Eye) (x : α) : PerEye α :=
  match e with
  | .left => { p with left := x }
  | .right => { p with right := x }

def PerEye.map {α β : Type} (p : PerEye α) (f : α → β) : PerEye β := ⟨f p.left, f p.right⟩

/-- The same value for both eyes. -/
def PerEye.both {α : Type} (x : α) : PerEye α := ⟨x, x⟩

def PerCam.get {α : Type} (p : PerCam α) (c : Camera) : α :=
  match c with
  | 0 => p.c0
  | 1 => p.c1
  | 2 => p.c2
  | 3 => p.c3

def PerCam.set {α : Type} (p : PerCam α) (c : Camera) (x : α) : PerCam α :=
  match c with
  | 0 => { p with c0 := x }
  | 1 => { p with c1 := x }
  | 2 => { p with c2 := x }
  | 3 => { p with c3 := x }

def PerCam.map {α β : Type} (p : PerCam α) (f : α → β) : PerCam β := ⟨f p.c0, f p.c1, f p.c2, f p.c3⟩

/-- The same value for all four cameras. -/
def PerCam.all {α : Type} (x : α) : PerCam α := ⟨x, x, x, x⟩

def PerCam.toList {α : Type} (p : PerCam α) : List α := [p.c0, p.c1, p.c2, p.c3]

/-- The eyes, left first. -/
def eyes : List Eye := [.left, .right]

/-- The cameras in order. -/
def cameras : List Camera := [0, 1, 2, 3]

namespace Machine

/-! ## Rounding, clamping, saturating -/

/-- `n / d` rounded to the nearest integer, halves away from zero (00, Arithmetic); `d` is positive. -/
def roundDiv (n : Int) (d : Int) : Int :=
  if 0 ≤ n then (2 * n + d) / (2 * d) else -((2 * -n + d) / (2 * d))

/-- `n / d` rounded toward zero (00, Arithmetic: truncated). -/
def truncDiv (n : Int) (d : Int) : Int := Int.tdiv n d

/-- A value clamped to the range `lo..hi` (00, Arithmetic). -/
def clampInt (lo hi x : Int) : Int := if x < lo then lo else if hi < x then hi else x

/-- A natural clamped to `lo..hi`. -/
def clampNat (lo hi x : Nat) : Nat := if x < lo then lo else if hi < x then hi else x

/-- A count incremented by one, saturating at `top`. -/
def bump (top n : Nat) : Nat := if n < top then n + 1 else top

/-- A value saturated to the signed 32-bit range (R29, section 10.5). -/
def saturate32 (x : Int) : Int := clampInt (-2147483648) 2147483647 x

/-! ## Ticks and host times -/

/-- The signed difference of two device ticks (R25). -/
def tickDiff (a b : Tick) : Int := (a - b).toInt

/-- The signed 64-bit difference of two host times (R29, R36). -/
def hostDiff (a b : HostTime) : Int := (a - b).toInt

/-- A tick moved by a signed number of ticks, modulo 2^48. -/
def addTick (t : Tick) (n : Int) : Tick := t + BitVec.ofInt 48 n

/-- The tick is a multiple of `n` (R85, R118, R132, R152). -/
def multipleOf (n : Nat) (t : Tick) : Bool := t.toNat % n == 0

/-- Slot `n` of a superframe begins `n × 15.625` µs after its start: in whole ticks, the tick that holds the beginning
(R152, R181; log 23). -/
def slotOffset (n : Nat) : Nat := n * 125 / 8

/-! ## Levels and gains (R116, R118, R127) -/

def Level.rank : Level → Nat
  | .l0 => 0
  | .l1 => 1
  | .l2 => 2
  | .l3 => 3
  | .l4 => 4

/-- The amplifier's cost in mW by granted level (R127). -/
def Level.cost : Level → Nat
  | .l0 => 0
  | .l1 => 85
  | .l2 => 130
  | .l3 => 220
  | .l4 => 400

/-- The ceiling's gain in half-dB steps (R118). -/
def Level.gain : Level → Int
  | .l0 => -180
  | .l1 => -36
  | .l2 => -24
  | .l3 => -12
  | .l4 => 0

/-- The requested level of a requested gain in half-dB steps (R116). -/
def levelOf (gain : Int) : Level :=
  if -12 < gain then .l4 else if -24 < gain then .l3 else if -36 < gain then .l2 else .l1

/-- The levels below a level, downward, no further than L1 (R129 step 4). -/
def Level.below : Level → List Level
  | .l4 => [.l3, .l2, .l1]
  | .l3 => [.l2, .l1]
  | .l2 => [.l1]
  | .l1 => []
  | .l0 => []

/-- `g` is at most the rounded value of 65,536 × 10^(−n/40), the gain of `n` half-dB steps down (R115), said without
roots: (2g − 1)^40 × 10^n ≤ 131,072^40. -/
def gainReaches (n g : Nat) : Bool := decide ((2 * g - 1) ^ 40 * 10 ^ n ≤ 131072 ^ 40)

/-- The greatest `g` below `base + 2^k` that `gainReaches`, found bit by bit. -/
def gainSearch (n : Nat) : (k : Nat) → (base : Nat) → Nat
  | 0, base => base
  | k + 1, base => gainSearch n k (if gainReaches n (base + 2 ^ k) then base + 2 ^ k else base)

/-- G = rounded(65,536 × 10^(gain/20)) for a gain in half-dB steps, −180..0 (R115). -/
def gainFactor (gain : Int) : Nat := gainSearch (-gain).toNat 17 0

/-! ## Causes, groups, classes, clients -/

def Causes.get (c : Causes) : Cause → Bool
  | .link => c.link
  | .power => c.power
  | .wear => c.wear
  | .stallLeft => c.stallLeft
  | .stallRight => c.stallRight
  | .host => c.host

def Causes.set (c : Causes) (k : Cause) (b : Bool) : Causes :=
  match k with
  | .link => { c with link := b }
  | .power => { c with power := b }
  | .wear => { c with wear := b }
  | .stallLeft => { c with stallLeft := b }
  | .stallRight => { c with stallRight := b }
  | .host => { c with host := b }

/-- Some cause of the set. -/
def Causes.any (c : Causes) : Bool := c.link || c.power || c.wear || c.stallLeft || c.stallRight || c.host

/-- The causes of both sets. -/
def Causes.inter (a b : Causes) : Causes :=
  ⟨a.link && b.link, a.power && b.power, a.wear && b.wear, a.stallLeft && b.stallLeft, a.stallRight && b.stallRight,
    a.host && b.host⟩

/-- The VIDEO_STALL cause of an eye (R54). -/
def stallCause : Eye → Cause
  | .left => .stallLeft
  | .right => .stallRight

def Mutes.get (m : Mutes) : MuteCause → Bool
  | .host => m.host
  | .link => m.link
  | .codec => m.codec
  | .power => m.power

def Mutes.set (m : Mutes) (k : MuteCause) (b : Bool) : Mutes :=
  match k with
  | .host => { m with host := b }
  | .link => { m with link := b }
  | .codec => { m with codec := b }
  | .power => { m with power := b }

/-- Some mute cause is present. -/
def Mutes.any (m : Mutes) : Bool := m.host || m.link || m.codec || m.power

def Perms.get (p : Perms) : Group → Perm
  | .device => p.device
  | .link => p.link
  | .display => p.display
  | .motion => p.motion
  | .audio => p.audio
  | .power => p.power

/-- Every group at one permission. -/
def Perms.all (p : Perm) : Perms := ⟨p, p, p, p, p, p⟩

/-- The permissions of a client: client 0 has WRITE in every group (R168). -/
def Grants.get (g : Grants) (client : Nat) : Perms :=
  match client with
  | 0 => Perms.all .write
  | 1 => g.client1
  | 2 => g.client2
  | _ => g.client3

/-- Replaces the permissions of a client 1..3 (R169). -/
def Grants.set (g : Grants) (client : Nat) (p : Perms) : Grants :=
  match client with
  | 0 => g
  | 1 => { g with client1 := p }
  | 2 => { g with client2 := p }
  | _ => { g with client3 := p }

def Reported.get (r : Reported) : Stamped → HostTime
  | .sensor => r.sensor
  | .exposure => r.exposure
  | .frame => r.frame
  | .capture => r.capture

def Reported.set (r : Reported) (k : Stamped) (h : HostTime) : Reported :=
  match k with
  | .sensor => { r with sensor := h }
  | .exposure => { r with exposure := h }
  | .frame => { r with frame := h }
  | .capture => { r with capture := h }

/-- A zero shift of source NONE without flags (R54, R105). -/
def Shift.zero : Shift := ⟨0, 0, .none, false, false, false, false, false⟩

/-- The width of an effective window, 0 for a disabled channel (R127). -/
def Window.width (w : Window) : Nat := if w.on then w.stop - w.start else 0

/-- A disabled channel with start and end 0 (R5). -/
def Window.off : Window := ⟨false, 0, 0⟩

/-! ## The line store (R52) -/

/-- The row a slot holds; `none` is an empty slot. -/
def LineStore.read (l : LineStore) (slot : Nat) : Option StoredRow :=
  match l with
  | [] => none
  | (k, r) :: t => if k = slot then some r else LineStore.read t slot

/-- Overwrites one slot, keeping the slots in rising order. -/
def LineStore.write (l : LineStore) (slot : Nat) (row : StoredRow) : LineStore :=
  match l with
  | [] => [(slot, row)]
  | (k, r) :: t =>
    if slot < k then (slot, row) :: (k, r) :: t
    else if slot = k then (slot, row) :: t
    else (k, r) :: LineStore.write t slot row

/-- Slots rise strictly from above `low`, and each is below 96. -/
def LineStore.risesFrom (low : Nat) : LineStore → Bool
  | [] => true
  | (k, _) :: t => decide (low ≤ k) && decide (k < 96) && LineStore.risesFrom (k + 1) t

/-- The canonical form of a line store: slots strictly rising, each below 96. -/
def LineStore.wf (l : LineStore) : Bool := LineStore.risesFrom 0 l

/-! ## Bytes -/

/-- Byte `i` of a payload, 0 past its end (callers check the length first). -/
def byteAt (l : List Byte) (i : Nat) : Byte := l.getD i 0

/-- A little-endian 16-bit field (00, Byte order). -/
def u16 (l : List Byte) (i : Nat) : BitVec 16 := byteAt l (i + 1) ++ byteAt l i

/-- A little-endian 24-bit field. -/
def u24 (l : List Byte) (i : Nat) : BitVec 24 := byteAt l (i + 2) ++ u16 l i

/-- A little-endian 32-bit field. -/
def u32 (l : List Byte) (i : Nat) : BitVec 32 := u16 l (i + 2) ++ u16 l i

/-- A little-endian 64-bit field. -/
def u64 (l : List Byte) (i : Nat) : BitVec 64 := u32 l (i + 4) ++ u32 l i

/-- A value as `n` bytes, least significant first (00, Byte order). -/
def leBytes : (n : Nat) → (v : Nat) → List Byte
  | 0, _ => []
  | n + 1, v => BitVec.ofNat 8 v :: leBytes n (v / 256)

/-- A signed value as `n` bytes, two's complement, least significant first. -/
def leSigned (n : Nat) (v : Int) : List Byte := leBytes n (BitVec.ofInt (8 * n) v).toNat

/-! ## CRC-32 (R178) -/

/-- One bit of the CRC register: bytes are taken least significant bit first, so the register runs reflected and the
generator polynomial reads 0xEDB88320. -/
def crcBit (r : BitVec 32) : BitVec 32 := if r.getLsbD 0 then (r >>> 1) ^^^ 0xEDB88320#32 else r >>> 1

/-- Eight bits of the CRC register. -/
def crcEight (r : BitVec 32) : BitVec 32 := crcBit (crcBit (crcBit (crcBit (crcBit (crcBit (crcBit (crcBit r)))))))

/-- The CRC register after a list of bytes. -/
def crcRun (r : BitVec 32) : List Byte → BitVec 32
  | [] => r
  | b :: t => crcRun (crcEight (r ^^^ b.setWidth 32)) t

/-- CRC-32: register preset to all ones, result complemented. -/
def crc32 (bytes : List Byte) : BitVec 32 := ~~~ (crcRun 0xFFFFFFFF#32 bytes)

end Machine

end Sys2Proof
end

