-- ==== Sys2Proof/Machine/Reset.lean ====
section
/-! DEFINITION. The values the blocks take at power-on and at SYSTEM_RESET (R22, R43, R65, R87, R105, R123, R141, R159,
R176). -/

namespace Sys2Proof.Machine

/-- All eight channels disabled with start and end 0 (R5). -/
def Windows.off : Windows := ⟨.both .off, .both .off, .all .off⟩

/-- The default bank (R5). -/
def Bank.default : Bank := ⟨11111, 200, 1, .off⟩

/-- The Frame Timeline after power-on and SYSTEM_RESET (R22; the model's own fields: log 16). -/
def Timeline.reset : Timeline where
  running := false
  counter := 0
  frame := 0
  startTick := 0
  adj := 0
  active := .default
  pendingBank := .default
  windows := .off
  leads := .both none
  waiting := none
  phase := .free
  anchor := none
  lockRun := 0
  lastError := none
  reportCount := 0
  frameError := none
  newBank := false
  ended := none
  latched := .both false
  scanOpened := .both false
  strobe := .both .before
  expose := .all .before

/-- The Timebase after power-on (R43). -/
def Timebase.powerOn : Timebase where
  sync := .unsynced
  dRef := 0
  hRef := 0
  rate := 0
  dLast := 0
  hLast := 0
  lockCount := 0
  reported := ⟨0, 0, 0, 0⟩
  accepted := 0
  tooClose := 0
  rejected := 0
  restarts := 0
  steps := 0

/-- One eye of the Display Output after power-on and SYSTEM_RESET (R65). -/
def EyeDisplay.reset : EyeDisplay where
  panel := .off
  wake := 0
  sleepMark := false
  lines := []
  pending := none
  bound := none
  shift := .zero
  scan := none
  lastRow := none
  repeats := 0
  lit := false
  missed := 0
  request := 0
  drive := 0

/-- No cause. -/
def Causes.none : Causes := ⟨false, false, false, false, false, false⟩

/-- The default display configuration (R65). -/
def DisplayConfig.default : DisplayConfig := ⟨1920, 1920, 64, 32, 5120, 5120, 1000, true⟩

/-- The Display Output after power-on and SYSTEM_RESET (R65). -/
def Display.reset : Display where
  eyes := .both .reset
  present := .none
  latches := .none
  config := .default
  headsReceived := 0
  headsDropped := 0
  rowsStored := 0
  strayRows := 0
  malformed := 0

/-- The Late Shift Unit after power-on and SYSTEM_RESET (R105). -/
def ShiftUnit.reset : ShiftUnit := ⟨.both .zero, .both false⟩

/-- The default motion configuration (R87). -/
def MotionConfig.default : MotionConfig :=
  ⟨2000, 8, 1000, ⟨0, 1, 2⟩, ⟨false, false, false⟩, ⟨0, 0, 0⟩, 1, false⟩

/-- A camera channel after power-on and SYSTEM_RESET (R87). -/
def Cam.reset : Cam := ⟨.disabled, 0, none, 0⟩

/-- The Motion Hub after power-on and SYSTEM_RESET (R87). -/
def Motion.reset : Motion where
  port := .off
  start := 0
  config := .default
  read := none
  edge := none
  failures := 0
  missed := 0
  ring := []
  decimation := 0
  cams := .all .reset
  level := none
  levelRun := 0
  wear := .unknown
  darkened := false
  stored := 0
  edgesMissed := 0
  readFailures := 0
  strayEdges := 0

/-- No mute cause. -/
def Mutes.none : Mutes := ⟨false, false, false, false⟩

/-- The default audio configuration (R123): slot width 24, one channel in slot 2. -/
def AudioConfig.default : AudioConfig := ⟨24, 1, [2]⟩

/-- The Audio Engine after power-on (R123). `cycles` is 0: the first frame begins at tick 0 (log 15). -/
def Audio.reset : Audio where
  playback := .stopped
  fromPlaying := false
  ramp := 0
  mute := .none
  fifo := []
  expected := none
  config := .default
  divider := 65536000
  remainder := 0
  recompute := 0
  cycles := 0
  requested := -180
  ceiling := .l4
  gain := -180
  capturing := false
  skip := false
  captured := []
  discard := 0
  played := 0
  underruns := 0
  overflowed := 0
  gaps := 0
  blocksDiscarded := 0
  malformed := 0
  captureLost := 0
  line := ⟨24, 0, 0⟩

/-- The Power Manager after power-on (R141; consumer table and factors before the first computation: log 16). -/
def Power.powerOn : Power where
  contract := 2500
  strobe := .both ⟨0, 0, 0⟩
  illum := .all ⟨0, 0, 0⟩
  audioRequest := .l1
  audioGrant := .l1
  audioCost := 0
  fs := 16
  fi := 16
  limited := false
  overContract := false
  derate := 0
  overdraw := 0
  recovery := 0
  sample := none
  sum := 0
  count := 0
  average := 0
  brownout := false
  lowRun := 0
  highRun := 0
  asleep := false
  timeout := 0
  sleepTimer := none

/-- The Power Manager after SYSTEM_RESET: the last sample and the brownout's state are kept (R141). -/
def Power.systemReset (p : Power) : Power :=
  { Power.powerOn with sample := p.sample, brownout := p.brownout, lowRun := p.lowRun, highRun := p.highRun }

/-- The default slot table (R153). -/
def defaultSlots : List SlotClass :=
  [.capture, .opened, .reply, .opened, .sensor, .opened, .event, .opened,
   .capture, .opened, .reply, .opened, .sensor, .opened, .event, .opened]

/-- The Link Controller after power-on (R159; the model's own fields: log 16). -/
def Link.powerOn : Link where
  state := .down
  run := 0
  session := 0
  silence := 0
  hold := 0
  lastValid := 0
  superframe := 65535
  badCount := 0
  windowFirst := none
  table := defaultSlots
  pendingTable := none
  reports := []
  tallies := ⟨0, 0, 0⟩
  valid := ⟨0, 0, 0, 0, 0⟩
  bad := 0
  unknown := 0
  superframeTick := 0
  nextSlot := 16
  header := none
  slots := []

/-- Clients 1 to 3 at NONE in every group (R168). -/
def Grants.none : Grants := ⟨.all .none, .all .none, .all .none⟩

/-- The Request Controller after power-on (R176). -/
def Requests.powerOn : Requests where
  intake := []
  table := []
  replies := []
  grants := .none
  fault := none
  events := []
  taken := 0
  refused := 0
  discarded := 0
  serial := 0

/-- The clock at the end of settling: tick 0, no wrap yet, nothing done at this tick yet (R25, R176). -/
def Clock.powerOn : Clock := ⟨0, false, false, false, false, false, false⟩

end Sys2Proof.Machine
end

