-- ==== Sys2Proof/Machine/State.lean ====
section
/-! DEFINITION. The machine's state, its reset, and the reasons a step can stop. -/

namespace Sys2Proof.Machine

/-- The reasons a step stops with a fault. There is none: no rule of the manual calls a behaviour undefined or
unpredictable, and every step has an effect the manual gives. Safe: a model that never stops proves nothing from a stop. -/
inductive Fault where
deriving DecidableEq, Repr

/-- The reasons a step is refused. -/
inductive Refusal where
  /-- A command without a meaning yet. Raised by no arm of `exec`: every row has its meaning. Safe. -/
  | notModelled (mnemonic : String)
deriving DecidableEq, Repr

/-- Everything the part holds, and the queue of the commands that are waiting, first in, first out. -/
structure State where
  /-- The commands waiting (the block form's own). -/
  pending : List Instr
  /-- The part has started and is not held in power-on reset (R136, R176). -/
  powered : Bool
  pins : Pins
  clock : Clock
  link : Link
  req : Requests
  time : Timebase
  tl : Timeline
  disp : Display
  shift : ShiftUnit
  motion : Motion
  audio : Audio
  power : Power
  /-- How many free choices and free values of log 3 and log 12 have been used (the model's own). -/
  free : Nat
deriving DecidableEq, Repr

/-- The machine right after power is applied: every block at its power-on values, held until START_UP ends the
oscillator's settling (R136, R176; log 5). -/
def State.reset : State where
  pending := []
  powered := false
  pins := ⟨0, 0, false, false, [0, 0, 0, 0, 0, 0, 0, 0]⟩
  clock := .powerOn
  link := .powerOn
  req := .powerOn
  time := .powerOn
  tl := .reset
  disp := .reset
  shift := .reset
  motion := .reset
  audio := .reset
  power := .powerOn
  free := 0

/-! The updates of a state, one for each part of it. Every operation on a state is made of these; their lemmas are in
Sys2Proof/Laws/State.lean. -/

def State.mapPins (f : Pins → Pins) (s : State) : State := { s with pins := f s.pins }
def State.mapClock (f : Clock → Clock) (s : State) : State := { s with clock := f s.clock }
def State.mapLink (f : Link → Link) (s : State) : State := { s with link := f s.link }
def State.mapReq (f : Requests → Requests) (s : State) : State := { s with req := f s.req }
def State.mapTime (f : Timebase → Timebase) (s : State) : State := { s with time := f s.time }
def State.mapTl (f : Timeline → Timeline) (s : State) : State := { s with tl := f s.tl }
def State.mapDisp (f : Display → Display) (s : State) : State := { s with disp := f s.disp }
def State.mapShift (f : ShiftUnit → ShiftUnit) (s : State) : State := { s with shift := f s.shift }
def State.mapMotion (f : Motion → Motion) (s : State) : State := { s with motion := f s.motion }
def State.mapAudio (f : Audio → Audio) (s : State) : State := { s with audio := f s.audio }
def State.mapPower (f : Power → Power) (s : State) : State := { s with power := f s.power }
def State.mapFree (f : Nat → Nat) (s : State) : State := { s with free := f s.free }

/-- One eye of the Display Output. -/
def State.mapEye (e : Eye) (f : EyeDisplay → EyeDisplay) (s : State) : State :=
  s.mapDisp fun d => { d with eyes := d.eyes.set e (f (d.eyes.get e)) }

/-- One camera channel. -/
def State.mapCam (c : Camera) (f : Cam → Cam) (s : State) : State :=
  s.mapMotion fun m => { m with cams := m.cams.set c (f (m.cams.get c)) }

/-- The queue of waiting commands replaced. -/
def State.withPending (q : List Instr) (s : State) : State := { s with pending := q }

end Sys2Proof.Machine
end

