-- ==== Sys2Proof/Machine/Operands.lean ====
section
/-! DEFINITION. What the bytes of a command mean: packet payloads (section 10.2), the CTRL request header, the request
kinds with their codes, groups, access and body lengths (sections 9.8 and 10.5), and the request bodies. -/

namespace Sys2Proof.Machine

/-! ## Request kinds -/

/-- A row of the table of request kinds (sections 9.8 and 10.5). -/
structure KindRow where
  code : Nat
  kind : Kind
  group : Group
  perm : Perm
  length : Nat
deriving DecidableEq, Repr

/-- The request kinds: code, kind, group, the permission the kind needs, body length (sections 9.8 and 10.5). -/
def kindRows : List KindRow :=
  [⟨16, .deviceIdentify, .device, .read, 0⟩, ⟨17, .deviceStatus, .device, .read, 0⟩,
   ⟨18, .systemReset, .device, .write, 0⟩, ⟨19, .grantSet, .device, .write, 7⟩,
   ⟨20, .faultRead, .device, .read, 0⟩, ⟨21, .faultClear, .device, .write, 0⟩,
   ⟨32, .linkSlots, .link, .write, 16⟩, ⟨33, .linkStatus, .link, .read, 0⟩,
   ⟨34, .timeStatus, .link, .read, 0⟩,
   ⟨48, .timelineSet, .display, .write, 45⟩, ⟨49, .timelineCommit, .display, .write, 0⟩,
   ⟨50, .timelineRun, .display, .write, 0⟩, ⟨51, .timelineStop, .display, .write, 0⟩,
   ⟨52, .frameAnchor, .display, .write, 8⟩, ⟨53, .timelineStatus, .display, .read, 0⟩,
   ⟨54, .displayConfig, .display, .write, 15⟩, ⟨55, .displayDrive, .display, .write, 4⟩,
   ⟨56, .panelPower, .display, .write, 2⟩, ⟨57, .displayBlank, .display, .write, 0⟩,
   ⟨58, .displayResume, .display, .write, 0⟩, ⟨59, .displayStatus, .display, .read, 0⟩,
   ⟨60, .lateShift, .display, .write, 7⟩,
   ⟨64, .motionConfig, .motion, .write, 25⟩, ⟨65, .cameraConfig, .motion, .write, 4⟩,
   ⟨66, .motionStatus, .motion, .read, 0⟩,
   ⟨80, .audioConfig, .audio, .write, 6⟩, ⟨81, .audioStart, .audio, .write, 0⟩,
   ⟨82, .audioStop, .audio, .write, 0⟩, ⟨83, .audioVolume, .audio, .write, 2⟩,
   ⟨84, .audioMute, .audio, .write, 1⟩, ⟨85, .captureStart, .audio, .write, 0⟩,
   ⟨86, .captureStop, .audio, .write, 0⟩, ⟨87, .audioStatus, .audio, .read, 0⟩,
   ⟨96, .powerContract, .power, .write, 2⟩, ⟨97, .powerPolicy, .power, .write, 2⟩,
   ⟨98, .powerStatus, .power, .read, 0⟩]

/-- The row of a kind byte; `none` is an unknown kind (check 2 of R163). -/
def kindRow (code : Byte) : Option KindRow := kindRows.find? fun r => r.code == code.toNat

/-- A permission passes a need: READ or WRITE for a read, WRITE for a write (R168). -/
def Perm.passes (held need : Perm) : Bool :=
  match need, held with
  | .none, _ => true
  | .read, .none => false
  | .read, _ => true
  | .write, .write => true
  | .write, _ => false

/-! ## The CTRL request header (section 10.2) -/

/-- Byte `i` of a CTRL packet's payload; one that the packet does not carry is a free value (log 11). -/
def headerByte (payload : List Byte) (i : Nat) : Byte := (payload[i]?).getD (Config.absentHeaderByte i)

/-- A CTRL packet's payload as a request, taken at `t`: bits 0..3 of byte 0 are the tag, bits 4..5 the client, bits 6
and 7 are not examined (R179). -/
def parseRequest (t : Tick) (payload : List Byte) : Request where
  client := (headerByte payload 0).extractLsb' 4 2
  tag := (headerByte payload 0).extractLsb' 0 4
  kind := headerByte payload 1
  length := (headerByte payload 2).toNat
  body := payload.drop 4
  carried := (payload.length : Int) - 4
  taken := t

/-- The kind byte a CTRL packet carries. -/
def payloadKind (payload : List Byte) : Byte := headerByte payload 1

/-- The power field of a PANEL_POWER body is on; a body that does not carry it counts as power on (R163). -/
def powerOnField (body : List Byte) : Bool :=
  match body[1]? with
  | some b => b != 0
  | none => true

/-- The mute field of an AUDIO_MUTE body is on; a body without it (refused BAD_LENGTH) counts as on (log 29). -/
def muteOnField (body : List Byte) : Bool :=
  match body[0]? with
  | some b => b != 0
  | none => true

/-- The kinds that can wait: TIMELINE_COMMIT, MOTION_CONFIG, and PANEL_POWER with its power field on (R163). The body is
the bytes the packet carries, whatever body length its header tells (DESIGN CHOICE, log 55). -/
def canWait (kind : Kind) (body : List Byte) : Bool :=
  match kind with
  | .timelineCommit => true
  | .motionConfig => true
  | .panelPower => powerOnField body
  | _ => false

/-- An 8-bit switch: 0 is off, any other value is on (R6, R44, R48, R67, R78). -/
def switchOn (b : Byte) : Bool := b != 0

/-! ## Bodies of the Frame Timeline's requests -/

/-- Channel `i` of a TIMELINE_SET body, in the order SCAN_L, SCAN_R, STROBE_L, STROBE_R, EXPOSE_0..EXPOSE_3. The eight
enables come first, then the eight starts, then the eight ends, as the rows of R6 stand (DEDUCED, log 14). -/
def bankChannel (body : List Byte) (i : Nat) : Window :=
  ⟨switchOn (byteAt body (5 + i)), (u16 body (13 + 2 * i)).toNat, (u16 body (29 + 2 * i)).toNat⟩

/-- The bank a TIMELINE_SET body gives (R6). -/
def parseBank (body : List Byte) : Bank where
  period := (u16 body 0).toNat
  guard := (u16 body 2).toNat
  divider := (byteAt body 4).toNat
  win :=
    { scan := ⟨bankChannel body 0, bankChannel body 1⟩
      strobe := ⟨bankChannel body 2, bankChannel body 3⟩
      expose := ⟨bankChannel body 4, bankChannel body 5, bankChannel body 6, bankChannel body 7⟩ }

/-! ## Bodies of the Display Output's and Late Shift Unit's requests -/

/-- An eye mask: bit 0 names the left eye, bit 1 the right; 0 and values above 3 name nothing (R44, R92). -/
def parseEyes (b : Byte) : Option (PerEye Bool) :=
  if b = 1 then some ⟨true, false⟩
  else if b = 2 then some ⟨false, true⟩
  else if b = 3 then some ⟨true, true⟩
  else none

/-- A DISPLAY_CONFIG body as it stands (R48). -/
def parseDisplayConfig (body : List Byte) : DisplayConfig where
  columns := (u16 body 0).toNat
  rows := (u16 body 2).toNat
  marginX := (u16 body 4).toNat
  marginY := (u16 body 6).toNat
  ppdX := (u16 body 8).toNat
  ppdY := (u16 body 10).toNat
  lead := (u16 body 12).toNat
  wearBlanking := switchOn (byteAt body 14)

/-- The first refusing field of a display configuration, in the order of R48's table. -/
def displayConfigFault (c : DisplayConfig) : Option Field :=
  if c.columns < 1000 ∨ 2560 < c.columns then some .panelColumns
  else if c.rows < 1000 ∨ 2560 < c.rows then some .panelRows
  else if c.ppdX < 256 ∨ 25600 < c.ppdX then some .ppdX
  else if c.ppdY < 256 ∨ 25600 < c.ppdY then some .ppdY
  else none

/-- A display configuration with M_x, M_y and L clamped (R48). -/
def clampDisplayConfig (c : DisplayConfig) : DisplayConfig :=
  { c with
    marginX := clampNat 0 128 c.marginX
    marginY := clampNat 0 32 c.marginY
    lead := clampNat 200 3000 c.lead }

/-! ## Bodies of the Motion Hub's requests -/

/-- A MOTION_CONFIG body with its biases as they stand (R67): the three IMU axes come first, then the three signs, as the
rows of R67 stand (DEDUCED, log 40). -/
def parseMotionConfig (body : List Byte) : MotionConfig where
  gyroRange := (u16 body 0).toNat
  accelRange := (byteAt body 2).toNat
  rate := (u16 body 3).toNat
  axis := ⟨(byteAt body 5).toNat, (byteAt body 6).toNat, (byteAt body 7).toNat⟩
  negative := ⟨switchOn (byteAt body 8), switchOn (byteAt body 9), switchOn (byteAt body 10)⟩
  bias := ⟨(u32 body 11).toInt, (u32 body 15).toInt, (u32 body 19).toInt⟩
  decimation := (byteAt body 23).toNat
  reporting := switchOn (byteAt body 24)

/-- The first refusing field of a motion configuration, in the order of R67's table. -/
def motionConfigFault (c : MotionConfig) : Option Field :=
  if ¬ (c.gyroRange = 250 ∨ c.gyroRange = 500 ∨ c.gyroRange = 1000 ∨ c.gyroRange = 2000) then some .gyroRange
  else if ¬ (c.accelRange = 2 ∨ c.accelRange = 4 ∨ c.accelRange = 8 ∨ c.accelRange = 16) then some .accelRange
  else if ¬ (c.rate = 500 ∨ c.rate = 1000 ∨ c.rate = 2000) then some .sampleRate
  else if 2 < c.axis.yaw ∨ 2 < c.axis.pitch ∨ 2 < c.axis.roll ∨ c.axis.yaw = c.axis.pitch ∨ c.axis.yaw = c.axis.roll ∨
      c.axis.pitch = c.axis.roll then some .axisMap
  else if c.decimation < 1 ∨ 8 < c.decimation then some .decimation
  else none

/-- A gyro bias clamped to −50,000..+50,000 mdps (R67). -/
def clampBias (b : Int) : Int := clampInt (-50000) 50000 b

/-- A motion configuration with its biases clamped (R67). -/
def clampMotionConfig (c : MotionConfig) : MotionConfig :=
  { c with bias := ⟨clampBias c.bias.yaw, clampBias c.bias.pitch, clampBias c.bias.roll⟩ }

/-- The bias axes that were clamped (R68). -/
def biasClamped (c : MotionConfig) : PerAxis Bool :=
  ⟨clampBias c.bias.yaw != c.bias.yaw, clampBias c.bias.pitch != c.bias.pitch, clampBias c.bias.roll != c.bias.roll⟩

/-! ## Bodies of the Audio Engine's requests -/

/-- The capture frames one CAPTURE block can carry (R121). -/
def framesPerBlock (channels : Nat) : Nat := 104 / (3 * channels)

/-- The first channel, of those up to the count, whose slot is outside 2..7 (R108). -/
def badChannelSlot (body : List Byte) (count : Nat) : Option Nat :=
  (List.range count).find? fun i => (byteAt body (2 + i)).toNat < 2 || 7 < (byteAt body (2 + i)).toNat

/-- The first refusing field of an AUDIO_CONFIG body, in the order of R108's table. -/
def audioConfigFault (body : List Byte) : Option Field :=
  let width := (byteAt body 0).toNat
  let count := (byteAt body 1).toNat
  if ¬ (width = 16 ∨ width = 24 ∨ width = 32) then some .slotWidth
  else if count < 1 ∨ 4 < count then some .channelCount
  else (badChannelSlot body count).map fun i => .channelSlot (i + 1)

/-- The configuration an AUDIO_CONFIG body gives; slots of channels past the count are ignored (R108). -/
def parseAudioConfig (body : List Byte) : AudioConfig :=
  let count := (byteAt body 1).toNat
  ⟨(byteAt body 0).toNat, count, (List.range count).map fun i => (byteAt body (2 + i)).toNat⟩

/-! ## Bodies of the Link Controller's and Request Controller's requests -/

/-- A slot class code (R180). -/
def slotClass (b : Byte) : Option SlotClass :=
  if b = 0 then some .opened
  else if b = 1 then some .sensor
  else if b = 2 then some .capture
  else if b = 3 then some .reply
  else if b = 4 then some .event
  else none

/-- A permission byte (R169). -/
def permCode (b : Byte) : Option Perm :=
  if b = 0 then some .none
  else if b = 1 then some .read
  else if b = 2 then some .write
  else none

/-- The first group whose permission byte is above 2, in the order of R169. -/
def badPermGroup (body : List Byte) : Option Group :=
  if (permCode (byteAt body 1)).isNone then some .device
  else if (permCode (byteAt body 2)).isNone then some .link
  else if (permCode (byteAt body 3)).isNone then some .display
  else if (permCode (byteAt body 4)).isNone then some .motion
  else if (permCode (byteAt body 5)).isNone then some .audio
  else if (permCode (byteAt body 6)).isNone then some .power
  else none

/-- The six permissions of a GRANT_SET body (R169). -/
def parsePerms (body : List Byte) : Perms :=
  let p i := (permCode (byteAt body i)).getD .none
  ⟨p 1, p 2, p 3, p 4, p 5, p 6⟩

/-! ## Payloads of downstream packets -/

/-- The eye byte of a VIDEO payload: 0 L, 1 R (section 10.2). -/
def eyeCode (b : Byte) : Option Eye :=
  if b = 0 then some .left else if b = 1 then some .right else none

/-- The shift mode byte of a frame head: 0 AUTO, 1 HOST, 2 NONE (section 10.2). -/
def modeCode (b : Byte) : Option ShiftMode :=
  if b = 0 then some .auto else if b = 1 then some .host else if b = 2 then some .none else none

/-- A FRAME_HEAD payload; `none` is malformed: a length other than 12, an unknown eye or an unknown shift mode
(R50, R179). -/
def parseHead (p : List Byte) : Option (Eye × Head) :=
  if p.length = 12 then
    match eyeCode (byteAt p 0), modeCode (byteAt p 1) with
    | some e, some m => some (e, ⟨u16 p 2, u64 p 4, m, none⟩)
    | _, _ => none
  else none

/-- A ROW payload under a display configuration; `none` is malformed: a length that is not 8 + 3 × its pixel count, an
unknown eye, a source row above H_p + 2M_y − 1 or a pixel count other than W + 2M_x (R52, R179). -/
def parseRow (c : DisplayConfig) (p : List Byte) : Option (Eye × StoredRow) :=
  if 8 ≤ p.length ∧ p.length = 8 + 3 * (u16 p 6).toNat ∧ (u16 p 6).toNat = c.columns + 2 * c.marginX ∧
      (u16 p 4).toNat < c.rows + 2 * c.marginY then
    (eyeCode (byteAt p 0)).map fun e => (e, ⟨u16 p 2, (u16 p 4).toNat, p.drop 8⟩)
  else none

/-- The stereo frames of an AUDIO_BLOCK's sample data (section 10.2). -/
def parseFrames : (n : Nat) → (p : List Byte) → List Stereo
  | 0, _ => []
  | n + 1, p => ⟨u24 p 0, u24 p 3⟩ :: parseFrames n (p.drop 6)

/-- An AUDIO_BLOCK payload as its sequence number and frames; `none` is malformed: a frame count of 0 or above 64, or a
length other than 4 + 6 × the frame count (R109, R179). -/
def parseBlock (p : List Byte) : Option (BitVec 16 × List Stereo) :=
  let n := (byteAt p 2).toNat
  if 4 ≤ p.length ∧ 1 ≤ n ∧ n ≤ 64 ∧ p.length = 4 + 6 * n then some (u16 p 0, parseFrames n (p.drop 4)) else none

/-- A TIME_MARK payload's host time; `none` when its length is not 8 (R179). -/
def parseMark (p : List Byte) : Option HostTime := if p.length = 8 then some (u64 p 0) else none

end Sys2Proof.Machine
end

