-- ==== Sys2Proof/Machine/Flags.lean ====
section
/-! DEFINITION. The conditions the rules name: views computed from state held elsewhere (log 22), what keeps a strobe or
an illuminator lit, and when each event of the part is due. -/

namespace Sys2Proof.Machine

/-! ## Views -/

/-- The device tick now (R25). -/
def State.now (s : State) : Tick := s.clock.tick

/-- The device tick captured at the first byte of a packet that arrived `age` ticks ago, across the counter's wrap too.
Before the first wrap no packet is older than the counter, which counts from power-on (R25, R26, R149; log 46). -/
def State.capturedTick (s : State) (age : Nat) : Tick :=
  s.now - BitVec.ofNat 48 (if s.clock.wrapped then age else min age s.now.toNat)

/-- A link session is in progress: the link is UP or HOLD (section 8.2). -/
def State.session (s : State) : Bool := s.link.state == .up || s.link.state == .hold

/-- Places of the reply queue reserved by a table entry: one, and one more when it has duplicates (R164, R166). -/
def Entry.places (e : Entry) : Nat := if e.dups = 0 then 1 else 2

/-- The reserved places of the reply queue (R162). -/
def Requests.reserved (r : Requests) : Nat := (r.table.map Entry.places).sum

/-- The free places of the reply queue: 32 less the replies queued and the reserved places (R162). -/
def Requests.freePlaces (r : Requests) : Nat := 32 - (r.replies.length + r.reserved)

/-- The holdover timer: device ticks since the last accepted mark (R33). -/
def Timebase.elapsed (t : Timebase) (now : Tick) : Int := tickDiff now t.dLast

/-- The camera is enabled (R78). -/
def Cam.enabled (c : Cam) : Bool := c.state != .disabled

/-- The requested level: what the Audio Engine asks of the Power Manager (R116). -/
def Audio.requestedLevel (a : Audio) : Level := levelOf a.requested

/-- The target gain: the lower of the requested gain and the ceiling's gain (R118). -/
def Audio.target (a : Audio) : Int := min a.requested a.ceiling.gain

/-- The panel is a fixed load: WAKING or ON (R126). -/
def Panel.powered (p : Panel) : Bool := p != .off

/-- The IMU port is a fixed load: STARTING or RUNNING (R126). -/
def Port.powered (p : Port) : Bool := p == .starting || p == .running

/-- Some camera is enabled (R126). -/
def anyCamera (m : Motion) : Bool := m.cams.c0.enabled || m.cams.c1.enabled || m.cams.c2.enabled || m.cams.c3.enabled

/-- The fixed loads and their costs (R126). -/
def State.fixedLoads (s : State) : FixedLoads where
  core := ⟨true, 700⟩
  panelLeft := ⟨s.disp.eyes.left.panel.powered, 350⟩
  panelRight := ⟨s.disp.eyes.right.panel.powered, 350⟩
  sensors := ⟨s.motion.port.powered, 50⟩
  cameras := ⟨anyCamera s.motion, 400⟩

/-- What a fixed load costs now: its cost while present (R126). -/
def FixedLoad.draw (l : FixedLoad) : Nat := if l.present then l.cost else 0

/-- The fixed-load sum (R126). -/
def State.fixedSum (s : State) : Nat :=
  let l := s.fixedLoads
  l.core.draw + l.panelLeft.draw + l.panelRight.draw + l.sensors.draw + l.cameras.draw

/-- The available power A: contract less the fixed-load sum (R126). -/
def State.available (s : State) : Int := (s.power.contract : Int) - s.fixedSum

/-- The sleep timer's elapsed time in ms, or 0 when it is stopped (R137, R140; truncated: log 33). -/
def Power.sleepMs (p : Power) : Nat := p.sleepTimer.getD 0 / 1000

/-- The latch point of an eye: SCAN.start − L_eff where its effective scan window is enabled (R4). -/
def Timeline.latchPoint (t : Timeline) (e : Eye) : Option Nat :=
  if (t.windows.scan.get e).on then (t.leads.get e).map fun l => (t.windows.scan.get e).start - l else none

/-- The counter value at which panel row `k` is scanned (R55). -/
def rowInstant (w : Window) (rows k : Nat) : Nat := w.start + k * (w.stop - w.start) / rows

/-- The counter value at which the frame in progress ends: P + adj (R1). -/
def Timeline.frameEnd (t : Timeline) : Int := (t.active.period : Int) + t.adj

/-! ## Light -/

/-- What R61 asks of a lit strobe. -/
def strobeLit (s : State) (e : Eye) : Bool :=
  s.tl.running && s.tl.strobe.get e == .opened && (s.disp.eyes.get e).panel == .on &&
    (s.disp.eyes.get e).bound.isSome && s.shift.latched.get e && !s.disp.latches.any && !s.power.brownout &&
    decide (0 < (s.power.strobe.get e).grant)

/-- What R84 asks of a lit illuminator. -/
def illumLit (s : State) (c : Camera) : Bool :=
  s.tl.running && s.tl.expose.get c == .opened && (s.motion.cams.get c).state == .opened &&
    decide (0 < (s.power.illum.get c).grant) && !s.power.brownout && !s.motion.darkened && !s.power.asleep

/-! ## Events that are due

Each predicate says that its event comes now. An event's command has its effect only when it is due (log 1); the part
runs the events that are due by itself (log 2). -/

/-- A window is open. -/
def Timeline.anyOpen (t : Timeline) : Bool :=
  t.strobe.left == .opened || t.strobe.right == .opened || t.expose.c0 == .opened || t.expose.c1 == .opened ||
    t.expose.c2 == .opened || t.expose.c3 == .opened

/-- The counter has reached P + adj, and every window of the frame has closed before the frame ends (R1, R3). -/
def frameStartDue (s : State) : Bool := s.tl.running && decide (s.tl.frameEnd ≤ s.tl.counter) && !s.tl.anyOpen

/-- The counter has reached the eye's latch point and the latch has not been signalled in this frame (R4). -/
def latchDue (s : State) (e : Eye) : Bool :=
  s.tl.running && !s.tl.latched.get e &&
    match s.tl.latchPoint e with
    | some p => decide (p ≤ s.tl.counter)
    | none => false

/-- The eye's effective scan window opens; its latch comes first (R3, R4; log 18). -/
def scanOpenDue (s : State) (e : Eye) : Bool :=
  s.tl.running && (s.tl.windows.scan.get e).on && !s.tl.scanOpened.get e && s.tl.latched.get e &&
    decide ((s.tl.windows.scan.get e).start ≤ s.tl.counter)

/-- The instant of the next panel row of a scan in progress has come (R55). -/
def scanRowDue (s : State) (e : Eye) : Bool :=
  s.tl.running &&
    match (s.disp.eyes.get e).scan with
    | some k => decide (k < s.disp.config.rows) &&
        decide (rowInstant (s.tl.windows.scan.get e) s.disp.config.rows k ≤ s.tl.counter)
    | none => false

def windowOpenDue (t : Timeline) (w : Window) (p : WindowPhase) : Bool :=
  t.running && w.on && p == .before && decide (w.start ≤ t.counter)

def windowCloseDue (t : Timeline) (w : Window) (p : WindowPhase) : Bool :=
  t.running && p == .opened && decide (w.stop ≤ t.counter)

/-- The eye's effective strobe window opens (R3). -/
def strobeOpenDue (s : State) (e : Eye) : Bool := windowOpenDue s.tl (s.tl.windows.strobe.get e) (s.tl.strobe.get e)

/-- The eye's effective strobe window closes (R3). -/
def strobeCloseDue (s : State) (e : Eye) : Bool := windowCloseDue s.tl (s.tl.windows.strobe.get e) (s.tl.strobe.get e)

/-- The camera's effective exposure window opens (R3). -/
def exposeOpenDue (s : State) (c : Camera) : Bool := windowOpenDue s.tl (s.tl.windows.expose.get c) (s.tl.expose.get c)

/-- The camera's effective exposure window closes (R3). -/
def exposeCloseDue (s : State) (c : Camera) : Bool :=
  windowCloseDue s.tl (s.tl.windows.expose.get c) (s.tl.expose.get c)

/-- A CLOSING channel's deadline has come (R81). -/
def deadlineDue (s : State) (c : Camera) : Bool :=
  (s.motion.cams.get c).state == .closing &&
    match (s.motion.cams.get c).context with
    | some x => decide (0 ≤ tickDiff s.now x.deadline)
    | none => false

/-- An eye's wake timer has run out (R45). -/
def wakeDue (s : State) (e : Eye) : Bool :=
  (s.disp.eyes.get e).panel == .waking && (s.disp.eyes.get e).wake == 0

/-- The start timer has run out (R68). -/
def startDue (s : State) : Bool := s.motion.port == .starting && s.motion.start == 0

/-- A read has been in flight for 100 µs (R71). -/
def readTimeoutDue (s : State) : Bool :=
  s.motion.port == .running &&
    match s.motion.read with
    | some r => decide (100 ≤ tickDiff s.now r.began)
    | none => false

/-- The silence timer has reached 200 µs in UP (R144). -/
def silenceDue (s : State) : Bool := s.link.state == .up && decide (200 ≤ s.link.silence)

/-- The hold timer has reached 20,000 µs in HOLD (R145). -/
def holdDue (s : State) : Bool := s.link.state == .hold && decide (20000 ≤ s.link.hold)

/-- A superframe starts at this tick and has not been started yet (R152). -/
def superframeDue (s : State) : Bool := multipleOf 250 s.now && !s.clock.superframeDone

/-- The next slot of the superframe on the lane begins (R152). -/
def slotDue (s : State) : Bool :=
  decide (s.link.nextSlot < 16) && decide ((slotOffset s.link.nextSlot : Int) ≤ tickDiff s.now s.link.superframeTick)

/-- The proximity input is sampled at this tick (R85). Tick 0 at the end of start-up is a multiple too (DESIGN CHOICE,
log 54). -/
def proximityDue (s : State) : Bool := multipleOf 1000 s.now && !s.clock.proximityDone

/-- The current gain steps at this tick (R118), tick 0 among them (DESIGN CHOICE, log 54). -/
def gainDue (s : State) : Bool := multipleOf 1000 s.now && !s.clock.gainDone

/-- The input monitor samples at this tick (R132), tick 0 among them (DESIGN CHOICE, log 54). -/
def monitorDue (s : State) : Bool := multipleOf 100 s.now && !s.clock.monitorDone

/-- An audio frame boundary falls within this tick of 48 oscillator cycles (R106, R107). -/
def boundaryDue (s : State) : Bool := decide (s.audio.cycles < 48)

/-- The sleep timer has reached the timeout (R138). -/
def sleepDue (s : State) : Bool :=
  !s.power.asleep && decide (1 ≤ s.power.timeout) &&
    match s.power.sleepTimer with
    | some t => decide (s.power.timeout * 1000000 ≤ t)
    | none => false

/-- 10,000,000 ticks since the last accepted mark in LOCKED (R33). -/
def holdoverCoarseDue (s : State) : Bool := s.time.sync == .locked && decide (10000000 ≤ s.time.elapsed s.now)

/-- 60,000,000 ticks since the last accepted mark in COARSE (R33). -/
def holdoverUnsyncedDue (s : State) : Bool := s.time.sync == .coarse && decide (60000000 ≤ s.time.elapsed s.now)

/-- The oldest request of the intake can be taken: a packet waits and a place of the reply queue is free (R162). -/
def takeDue (s : State) : Bool := !s.req.intake.isEmpty && decide (0 < s.req.freePlaces)

/-! ## Thresholds reached inside another event (log 4) -/

/-- The lock count has reached 4 in COARSE (R32). -/
def lockReached (s : State) : Bool := s.time.sync == .coarse && decide (4 ≤ s.time.lockCount)

/-- The acquisition run has reached 8 (R146). -/
def sessionReached (s : State) : Bool := s.link.state == .acquire && decide (8 ≤ s.link.run)

/-- A superframe whose number is divisible by 4 has started and the window it ends is not yet judged (R151). -/
def windowEndReached (s : State) : Bool :=
  s.link.superframe.toNat % 4 == 0 && s.link.windowFirst != some s.link.superframe

/-- The lock run count has reached 8 in ACQUIRING (R17). -/
def phaseReached (s : State) : Bool := s.tl.phase == .acquiring && decide (8 ≤ s.tl.lockRun)

/-- The report divider count has reached the divider of the frame just ended (R19). -/
def recordReached (s : State) : Bool :=
  match s.tl.ended with
  | some f => decide (f.divider ≤ s.tl.reportCount)
  | none => false

/-- The missed-frame run has reached 3 and the eye's VIDEO_STALL condition is not yet present (R54). -/
def stallReached (s : State) (e : Eye) : Bool :=
  decide (3 ≤ (s.disp.eyes.get e).missed) && !s.disp.present.get (stallCause e)

/-- The consecutive failure count has reached 8 in RUNNING (R72). -/
def failureReached (s : State) : Bool := s.motion.port == .running && decide (8 ≤ s.motion.failures)

/-- The decimation count has reached the report decimation (R76). -/
def sensorReached (s : State) : Bool := decide (s.motion.config.decimation ≤ s.motion.decimation)

/-- What an accepted proximity level means (R85). -/
def wearMeaning (active : Bool) : Wear := if active then .worn else .removed

/-- The debounce run has reached 16 with a meaning that differs from the wear state (R85). -/
def wearReached (s : State) : Bool :=
  decide (16 ≤ s.motion.levelRun) &&
    match s.motion.level with
    | some a => s.motion.wear != wearMeaning a
    | none => false

/-- The recompute count has reached 48 (R107). -/
def recomputeReached (s : State) : Bool := decide (48 ≤ s.audio.recompute)

/-- The ramp count has reached 64 in MUTING (R114). -/
def rampReached (s : State) : Bool := s.audio.playback == .muting && decide (64 ≤ s.audio.ramp)

/-- The low run has reached 3 outside a brownout (R134). -/
def brownoutReached (s : State) : Bool := !s.power.brownout && decide (3 ≤ s.power.lowRun)

/-- The high run has reached 101 in a brownout (R135). -/
def recoveryReached (s : State) : Bool := s.power.brownout && decide (101 ≤ s.power.highRun)

/-- The overdraw count has reached 4 (R133). -/
def overdrawReached (s : State) : Bool := decide (4 ≤ s.power.overdraw)

/-- The recovery count has reached 16 (R133). -/
def headroomReached (s : State) : Bool := decide (16 ≤ s.power.recovery)

end Sys2Proof.Machine
end

