-- ==== Sys2Proof/Machine/Ops.lean ====
section
/-! DEFINITION. The operations the blocks share: raising an event, offering a report record, queuing a reply and ending a
waiting request, the blank causes, the mute causes, the lights, and the grant computation. -/

namespace Sys2Proof.Machine

/-! ## The event queue (R172) -/

/-- The event kind code of a detail (section 10.5). -/
def Detail.code : Detail → Nat
  | .linkUp .. => 1
  | .linkHold .. => 2
  | .linkLost .. => 3
  | .linkDegraded .. => 4
  | .syncChanged .. => 5
  | .markRejected .. => 6
  | .phaseLockChanged .. => 7
  | .displayBlanked .. => 8
  | .videoStall .. => 9
  | .frameDropped .. => 10
  | .wearChanged .. => 11
  | .cameraNoResponse .. => 12
  | .imuFault .. => 13
  | .audioUnderrun .. => 14
  | .audioOverflow .. => 15
  | .audioFault .. => 16
  | .captureDiscard .. => 17
  | .powerLimited .. => 18
  | .brownout .. => 19
  | .overdraw .. => 20
  | .sleepChanged .. => 21
  | .accessFault .. => 22
  | .ctrlOverrun .. => 23

/-- The queued record is of this kind and source. -/
def Event.matches (e : Event) (src : Source) (d : Detail) : Bool := e.source == src && e.detail.code == d.code

/-- An event enters the queue: it coalesces into the record of its kind and source, or is appended (R172). -/
def raiseInto (src : Source) (d : Detail) (t : Tick) : List Event → List Event
  | [] => [⟨src, d, 1, t, t⟩]
  | e :: es =>
    if e.matches src d then { e with count := bump 255 e.count, last := t, detail := d } :: es
    else e :: raiseInto src d t es

/-- Raises an event at the current device tick (R172). -/
def raise (src : Source) (d : Detail) (s : State) : State :=
  s.mapReq fun r => { r with events := raiseInto src d s.now r.events }

/-- Raises an event when a condition holds. -/
def raiseIf (c : Bool) (src : Source) (d : Detail) (s : State) : State := if c then raise src d s else s

/-! ## The report queue (R156) -/

/-- A record offered to the report queue: appended, or discarded and tallied when 32 are held (R156). -/
def Link.offer (r : Report) (l : Link) : Link :=
  if l.reports.length < 32 then { l with reports := l.reports ++ [r] }
  else
    match r with
    | .sensor _ => { l with tallies := { l.tallies with sensor := bump 4294967295 l.tallies.sensor } }
    | .exposure _ => { l with tallies := { l.tallies with exposure := bump 4294967295 l.tallies.exposure } }
    | .frame _ => { l with tallies := { l.tallies with frame := bump 4294967295 l.tallies.frame } }

/-- A record is created and offered while a link session is in progress, and not created otherwise (R19, R76, R82). -/
def offer (r : Report) (s : State) : State := if s.session then s.mapLink (Link.offer r) else s

/-! ## Replies and the request table (R163 to R167) -/

def Status.code : Status → Nat
  | .ok => 0
  | .late => 1
  | .busy => 2
  | .tagInUse => 3
  | .noAccess => 4
  | .outOfRange => 5
  | .wrongState => 6
  | .unknownKind => 7
  | .badLength => 8
  | .cancelled => 9

/-- The length of the body of the `n`-th reply in bytes, 0..112: 0 where its owner states no content, else a free value (log 9). -/
def bodyLength (n : Nat) (kind : Byte) (st : Status) (b : ReplyBody) : Nat :=
  match b with
  | .empty => 0
  | _ => Config.replyBodyLength n kind.toNat st.code % 113

/-- A reply joins the reply queue (R167). -/
def pushReply (client : BitVec 2) (tag : BitVec 4) (kind : Byte) (taken : Tick) (st : Status) (b : ReplyBody)
    (r : Requests) : Requests :=
  { r with
    replies := r.replies ++ [⟨client, tag, kind, st, b, taken, bodyLength r.serial kind st b, r.serial⟩]
    serial := r.serial + 1 }

/-- The requests-refused counter increments for a reply whose status is not OK (R163). -/
def countRefusal (st : Status) (r : Requests) : Requests := if st = .ok then r else { r with refused := r.refused + 1 }

/-- Answers a request: its reply is queued and a refusal is counted (R163, R167). -/
def answer (q : Request) (st : Status) (b : ReplyBody) (s : State) : State :=
  s.mapReq fun r => countRefusal st (pushReply q.client q.tag q.kind q.taken st b r)

/-- The TAG_IN_USE reply of an entry that leaves the table with duplicates; its refusals were counted at their takings
(R163, R166; the time taken: log 10). -/
def pushDuplicates (e : Entry) (r : Requests) : Requests :=
  if e.dups = 0 then r
  else pushReply e.client e.tag e.dupKind (Config.duplicateTaken r.serial) .tagInUse (.duplicates e.dups) r

/-- The entry holds this client and tag. -/
def Entry.holds (e : Entry) (client : BitVec 2) (tag : BitVec 4) : Bool := e.client == client && e.tag == tag

/-- An entry leaves the table. -/
def dropEntry (e : Entry) (r : Requests) : Requests :=
  { r with table := r.table.filter fun x => !x.holds e.client e.tag }

/-- A waiting request ends with a reply: its entry leaves, its reply is queued, then the one of its duplicates
(R164, R166). -/
def finishEntry (e : Entry) (st : Status) (b : ReplyBody) (r : Requests) : Requests :=
  pushDuplicates e (countRefusal st (pushReply e.client e.tag e.kind e.taken st b (dropEntry e r)))

/-- Ends every waiting request of a list, each with its own body. -/
def finishAll (es : List Entry) (st : Status) (b : Entry → ReplyBody) (r : Requests) : Requests :=
  es.foldl (fun r e => finishEntry e st (b e) r) r

/-- Ends the waiting requests that wait as `p` says (R164). Where one event ends several, as a PANEL_POWER off or a sleep
that cancels one request of each eye (R46, R47), their replies are queued in the table's order, the oldest first (DESIGN
CHOICE, log 48). -/
def finishWaiting (p : Wait → Bool) (st : Status) (b : Entry → ReplyBody) (s : State) : State :=
  s.mapReq fun r => finishAll (r.table.filter fun e => p e.wait) st b r

/-- Waits for a TIMELINE_COMMIT. -/
def Wait.isCommit : Wait → Bool
  | .commit => true
  | _ => false

/-- Waits for a PANEL_POWER that names one of these eyes. -/
def Wait.namesEye (eyes : PerEye Bool) : Wait → Bool
  | .panels l r => (l && eyes.left) || (r && eyes.right)
  | _ => false

/-! ## The lights (R61, R62, R84) -/

/-- The strobe of an eye follows its lighting condition: lit at its grant, and STROBE_LIT set; else dark (R61, R62). -/
def lightEye (s : State) (e : Eye) : EyeDisplay :=
  let d := s.disp.eyes.get e
  if strobeLit s e then { d with drive := (s.power.strobe.get e).grant, lit := true } else { d with drive := 0 }

/-- The illuminator of a camera follows its lighting condition (R84). -/
def lightCam (s : State) (c : Camera) : Cam :=
  { s.motion.cams.get c with drive := if illumLit s c then (s.power.illum.get c).grant else 0 }

/-- Both strobes and all four illuminators follow their lighting conditions at this instant (R61, R62, R84). -/
def lights (s : State) : State :=
  { s with
    disp := { s.disp with eyes := ⟨lightEye s .left, lightEye s .right⟩ }
    motion := { s.motion with cams := ⟨lightCam s 0, lightCam s 1, lightCam s 2, lightCam s 3⟩ } }

/-! ## Blank causes (R57) -/

/-- A blank condition becomes present: its latch is set, DISPLAY_BLANKED is raised if no latch was set before, and both
strobes go dark (R57). -/
def blank (c : Cause) (s : State) : State :=
  if s.disp.present.get c then s
  else
    lights (raiseIf (!s.disp.latches.any) .displayOutput (.displayBlanked c)
      (s.mapDisp fun d => { d with present := d.present.set c true, latches := d.latches.set c true }))

/-- A blank condition becomes absent; its latch stays (R57). -/
def unblank (c : Cause) (s : State) : State := s.mapDisp fun d => { d with present := d.present.set c false }

/-- A blank condition made present or absent by its owner. -/
def setBlank (c : Cause) (present : Bool) (s : State) : State := if present then blank c s else unblank c s

/-! ## Mute causes (R113, R114) -/

/-- A mute cause becomes present: PLAYING and PRIMING move to MUTING with the ramp count at 0 (R113). -/
def Audio.muteOn (c : MuteCause) (a : Audio) : Audio :=
  if a.mute.get c then a
  else
    let a := { a with mute := a.mute.set c true }
    match a.playback with
    | .playing => { a with playback := .muting, fromPlaying := true, ramp := 0 }
    | .priming => { a with playback := .muting, fromPlaying := false, ramp := 0 }
    | _ => a

/-- A mute cause becomes absent: MUTED moves to PRIMING when it was the last (R114). -/
def Audio.muteOff (c : MuteCause) (a : Audio) : Audio :=
  if a.mute.get c then
    let a := { a with mute := a.mute.set c false }
    if a.playback = .muted ∧ !a.mute.any then { a with playback := .priming } else a
  else a

/-- A mute cause made present or absent by its owner. -/
def setMute (c : MuteCause) (present : Bool) (s : State) : State :=
  s.mapAudio (if present then Audio.muteOn c else Audio.muteOff c)

/-! ## The grant computation (R127 to R131) -/

/-- A setting of the ladder: the strobe and illuminator factors and the audio level (R129). -/
structure Setting where
  fs : Nat
  fi : Nat
  level : Level
deriving DecidableEq, Repr

/-- What a computation reads: the requests, the camera enables, the window widths and the period (R127, R128). -/
structure Demand where
  strobe : PerEye Nat
  illum : PerCam Nat
  enabled : PerCam Bool
  strobeWidth : PerEye Nat
  exposeWidth : PerCam Nat
  period : Nat
  level : Level
  stopped : Bool
deriving DecidableEq, Repr

/-- The consumer lines a setting gives (R127, R129). -/
structure Priced where
  strobe : PerEye Consumer
  illum : PerCam Consumer
  audioCost : Nat
deriving DecidableEq, Repr

/-- What a computation reads of the state (R127, R128). -/
def demand (s : State) : Demand where
  strobe := ⟨s.disp.eyes.left.request, s.disp.eyes.right.request⟩
  illum := s.motion.cams.map Cam.request
  enabled := s.motion.cams.map Cam.enabled
  strobeWidth := s.tl.windows.strobe.map Window.width
  exposeWidth := s.tl.windows.expose.map Window.width
  period := s.tl.active.period
  level := s.audio.requestedLevel
  stopped := s.audio.playback == .stopped

/-- A strobe's line: granted code truncated(request × fs / 16), cost truncated(code × 6 × width / P) (R127, R129). -/
def strobeLine (request width period fs : Nat) : Consumer :=
  ⟨request, request * fs / 16, request * fs / 16 * 6 * width / period⟩

/-- An illuminator's line: granted code truncated(request × fi / 16), 0 for a camera not enabled, cost
truncated(code × 3 × width / P) (R127, R129). -/
def illumLine (request : Nat) (enabled : Bool) (width period fi : Nat) : Consumer :=
  if enabled then ⟨request, request * fi / 16, request * fi / 16 * 3 * width / period⟩ else ⟨request, 0, 0⟩

/-- The amplifier's cost: by granted level, 0 at every level while STOPPED (R127). -/
def audioCost (stopped : Bool) (l : Level) : Nat := if stopped then 0 else l.cost

/-- The consumer lines of a setting. -/
def price (d : Demand) (x : Setting) : Priced where
  strobe :=
    ⟨strobeLine d.strobe.left d.strobeWidth.left d.period x.fs,
     strobeLine d.strobe.right d.strobeWidth.right d.period x.fs⟩
  illum :=
    ⟨illumLine d.illum.c0 d.enabled.c0 d.exposeWidth.c0 d.period x.fi,
     illumLine d.illum.c1 d.enabled.c1 d.exposeWidth.c1 d.period x.fi,
     illumLine d.illum.c2 d.enabled.c2 d.exposeWidth.c2 d.period x.fi,
     illumLine d.illum.c3 d.enabled.c3 d.exposeWidth.c3 d.period x.fi⟩
  audioCost := audioCost d.stopped x.level

/-- The variable total: the sum of the seven consumer costs (R129). -/
def variableTotal (strobe : PerEye Consumer) (illum : PerCam Consumer) (audio : Nat) : Nat :=
  strobe.left.cost + strobe.right.cost + illum.c0.cost + illum.c1.cost + illum.c2.cost + illum.c3.cost + audio

def Priced.total (p : Priced) : Nat := variableTotal p.strobe p.illum p.audioCost

/-- The values from `hi` down to `lo`; none when `hi` is below `lo`. -/
def downTo (hi lo : Nat) : List Nat := (List.range (hi + 1 - lo)).map fun i => hi - i

/-- The lowest level the ladder has reached after step 4: L1, or the requested level while STOPPED (R129). -/
def floorLevel (level : Level) (stopped : Bool) : Level := if stopped then level else .l1

/-- The settings the ladder tries, in order, at derate level `d` (R129). -/
def ladder (d : Nat) (level : Level) (stopped : Bool) : List Setting :=
  [⟨16 - d, 16 - d, level⟩] ++
  (downTo (15 - d) 4).map (fun f => ⟨f, 16 - d, level⟩) ++
  (downTo (15 - d) 8).map (fun f => ⟨4, f, level⟩) ++
  (if stopped then [] else level.below.map fun l => ⟨4, 8, l⟩) ++
  (downTo 3 0).map (fun f => ⟨f, 8, floorLevel level stopped⟩) ++
  (downTo 7 0).map (fun f => ⟨0, f, floorLevel level stopped⟩) ++
  (if stopped then [] else [⟨0, 0, .l0⟩])

/-- The setting at which nothing is granted: every strobe and illuminator 0 and audio L0 (R129). -/
def noGrants : Setting := ⟨0, 0, .l0⟩

/-- The first setting of the ladder whose total is at or below A (R129). -/
def chooseSetting (d : Demand) (derate : Nat) (a : Nat) : Setting :=
  ((ladder derate d.level d.stopped).find? fun x => decide ((price d x).total ≤ a)).getD noGrants

/-- Some consumer is granted less than its request (R131). -/
def limitedBy (d : Demand) (p : Priced) (granted : Level) : Bool :=
  decide (p.strobe.left.grant < d.strobe.left) || decide (p.strobe.right.grant < d.strobe.right) ||
    (d.enabled.c0 && decide (p.illum.c0.grant < d.illum.c0)) ||
    (d.enabled.c1 && decide (p.illum.c1.grant < d.illum.c1)) ||
    (d.enabled.c2 && decide (p.illum.c2.grant < d.illum.c2)) ||
    (d.enabled.c3 && decide (p.illum.c3.grant < d.illum.c3)) || decide (granted.rank < d.level.rank)

/-- The Power Manager after a computation: the table, the factors and the two indications (R129, R131). -/
def Power.grant (d : Demand) (x : Setting) (fs fi : Nat) (overContract : Bool) (p : Power) : Power :=
  { p with
    strobe := (price d x).strobe
    illum := (price d x).illum
    audioRequest := d.level
    audioGrant := x.level
    audioCost := (price d x).audioCost
    fs := fs
    fi := fi
    limited := limitedBy d (price d x) x.level
    overContract := overContract }

/-- The computation's outcome in the Power Manager: with A below 0 nothing is granted, the ladder is not run and the
factors kept are free values (log 12); otherwise the ladder decides (R129). -/
def computePower (s : State) : State :=
  if s.available < 0 then
    (s.mapPower (Power.grant (demand s) noGrants (Config.unusedFactor s.free % 17) (Config.unusedFactor (s.free + 1) % 17)
      true)).mapFree (· + 2)
  else
    let x := chooseSetting (demand s) s.power.derate s.available.toNat
    s.mapPower (Power.grant (demand s) x x.fs x.fi false)

/-- POWER_LIMITED is raised when the limited indication is newly set or OVER_CONTRACT newly present (R131). -/
def raiseLimited (before : Power) (a : Int) (s : State) : State :=
  raiseIf ((s.power.limited && !before.limited) || (s.power.overContract && !before.overContract)) .powerManager
    (.powerLimited s.power.fs s.power.fi s.power.audioGrant s.power.derate a s.power.overContract) s

/-- The grants are handed over: the POWER blank condition, the gain ceiling, the POWER mute cause, and the lights
(R118, R130, R131). -/
def handGrants (s : State) : State :=
  lights (setMute .power (s.power.audioGrant == .l0 || s.power.brownout)
    ((setBlank .power (s.power.overContract || s.power.brownout) s).mapAudio fun a => { a with ceiling := s.power.audioGrant }))

/-- A grant computation: one event of the Power Manager (R128 to R131). -/
def computeGrants (s : State) : State := handGrants (raiseLimited s.power s.available (computePower s))

/-- A change of a fixed load brings about a grant computation in the same event (R126, R128). -/
def computeIf (changed : Bool) (s : State) : State := if changed then computeGrants s else s

end Sys2Proof.Machine
end

