-- ==== Sys2Proof/Machine/Requests.lean ====
section
/-! DEFINITION. The intake and the taking of a request: the five checks, duplicates, the fault record, entries and
replies (R161 to R170). The owners of the kinds are in their blocks' files. -/

namespace Sys2Proof.Machine

/-- A command acts on a part that has started, and only when its event is due (log 1, log 7). -/
def act (due : Bool) (f : State → State) (s : State) : Host.Outcome State Fault Refusal :=
  .next (if s.powered && due then f s else s)

/-! ## The intake (R161, R162) -/

/-- A valid CTRL packet is handed over: it joins the intake, or is discarded and counted when two are held (R161). -/
def admitCtrl (payload : List Byte) (s : State) : State :=
  if s.req.intake.length < 2 then s.mapReq fun r => { r with intake := r.intake ++ [payload] }
  else
    let s := s.mapReq fun r => { r with discarded := r.discarded + 1 }
    raise .requestController (.ctrlOverrun s.req.discarded) s

/-- The oldest packet leaves the intake, and the requests-taken counter increments (R162, R163). -/
def popIntake (s : State) : State := s.mapReq fun r => { r with intake := r.intake.drop 1, taken := r.taken + 1 }

/-- The oldest packet of the intake. -/
def oldest (s : State) : Option (List Byte) := s.req.intake.head?

/-- The row of the kind of the oldest packet; `none` for an unknown kind. -/
def oldestRow (s : State) : Option KindRow := (oldest s).bind fun p => kindRow (payloadKind p)

/-- The oldest request can be taken and is of this kind (R162). -/
def kindDue (k : Kind) (s : State) : Bool := takeDue s && (oldestRow s).map KindRow.kind == some k

/-- The oldest request can be taken and its kind is unknown. -/
def unknownDue (s : State) : Bool := takeDue s && (oldestRow s).isNone

/-- The body of the oldest packet. -/
def oldestBody (s : State) : List Byte := ((oldest s).getD []).drop 4

/-! ## The checks at the taking (R163) -/

/-- What the checks of R163 decide: a duplicate of a waiting request, a refusal, or a pass. -/
inductive Verdict where
  | duplicate
  | refuse (st : Status) (b : ReplyBody)
  | pass
deriving DecidableEq, Repr

/-- A table entry holds this client and tag. -/
def Requests.waits (r : Requests) (client : BitVec 2) (tag : BitVec 4) : Bool := r.table.any fun e => e.holds client tag

/-- A queued reply holds this client and tag. -/
def Requests.replied (r : Requests) (client : BitVec 2) (tag : BitVec 4) : Bool :=
  r.replies.any fun p => p.client == client && p.tag == tag

/-- Check 3: the body length agrees with the bytes carried and with the kind (R163). -/
def lengthGood (q : Request) (row : KindRow) : Bool := decide ((q.length : Int) = q.carried) && q.length == row.length

/-- Check 4: the client's permission in the kind's group (R168). -/
def permitted (q : Request) (row : KindRow) (r : Requests) : Bool :=
  ((r.grants.get q.client.toNat).get row.group).passes row.perm

/-- The checks of R163, in their order, for a request of a known kind. -/
def judge (q : Request) (row : KindRow) (r : Requests) : Verdict :=
  if r.waits q.client q.tag then .duplicate
  else if canWait row.kind q.body && r.replied q.client q.tag then .refuse .tagInUse (.duplicates 1)
  else if !lengthGood q row then .refuse .badLength (.required row.length)
  else if !permitted q row r then .refuse .noAccess (.needs row.group row.perm)
  else if canWait row.kind q.body && decide (16 ≤ r.table.length) then .refuse .busy (.entries r.table.length)
  else .pass

/-- The waiting entry records a refused duplicate (R166). -/
def Entry.duplicate (kind : Byte) (e : Entry) : Entry := { e with dups := bump 255 e.dups, dupKind := kind }

/-- A request refused as a duplicate of a waiting one: counted, and recorded on the entry (R163, R166). -/
def recordDuplicate (q : Request) (s : State) : State :=
  s.mapReq fun r =>
    { r with
      table := r.table.map fun e => if e.holds q.client q.tag then e.duplicate q.kind else e
      refused := r.refused + 1 }

/-- A NO_ACCESS refusal fills the empty fault record and raises ACCESS_FAULT, or sets MORE and counts (R170). -/
def recordFault (q : Request) (g : Group) (s : State) : State :=
  match s.req.fault with
  | none =>
    raise .requestController (.accessFault q.client q.kind g)
      (s.mapReq fun r => { r with fault := some ⟨q.client, q.tag, q.kind, q.taken, false, 0⟩ })
  | some f => s.mapReq fun r => { r with fault := some { f with more := true, count := bump 255 f.count } }

/-- The effect of a refusal at the checks: the fault record at check 4, and the reply (R163). -/
def refuse (q : Request) (g : Group) (st : Status) (b : ReplyBody) (s : State) : State :=
  answer q st b (if st = .noAccess then recordFault q g s else s)

/-- A request of a known kind goes through the checks; one that passes goes on to `pass` (R163). -/
def checked (q : Request) (row : KindRow) (pass : State → State) (s : State) : State :=
  match judge q row s.req with
  | .duplicate => recordDuplicate q s
  | .refuse st b => refuse q row.group st b s
  | .pass => pass s

/-! ## Owners -/

/-- What an owner that answers at once leaves: the state, the status and the reply's body. -/
structure Done where
  state : State
  status : Status
  body : ReplyBody

/-- What an owner of a kind that can wait leaves: the state, and its answer or `none` while the request waits. -/
structure Held where
  state : State
  answer : Option (Status × ReplyBody)

/-- OK with a body. -/
def Done.ok (s : State) (b : ReplyBody) : Done := ⟨s, .ok, b⟩

/-- A refusal by the owner that leaves the state as it was. -/
def Done.refused (s : State) (st : Status) (b : ReplyBody := .empty) : Done := ⟨s, st, b⟩

/-- The request's reply joins the queue. -/
def Done.reply (q : Request) (d : Done) : State := answer q d.status d.body d.state

/-- The entry a request of a kind that can wait receives (R164). -/
def entryOf (q : Request) (w : Wait) : Entry := ⟨q.client, q.tag, q.kind, q.taken, 0, 0, w⟩

/-- The entry is made before the owner acts (R164). -/
def addEntry (q : Request) (w : Wait) (s : State) : State :=
  s.mapReq fun r => { r with table := r.table ++ [entryOf q w] }

/-- An owner's answer takes the entry out of the table and queues its reply; without one the request waits (R164). -/
def Held.reply (q : Request) (w : Wait) (d : Held) : State :=
  match d.answer with
  | some (st, b) => d.state.mapReq (finishEntry (entryOf q w) st b)
  | none => d.state

/-- The taking of the oldest request, for a kind that does not wait (R162, R163). The packet has left the intake and the
taking is counted before the checks and the owner's part, which see the state so (DEDUCED, log 43). -/
def serve (owner : Request → State → Done) (s : State) : State :=
  match oldest s, oldestRow s with
  | some p, some row =>
    let q := parseRequest s.now p
    checked q row (fun s => (owner q s).reply q) (popIntake s)
  | _, _ => s

/-- The taking of the oldest request, for a kind that can wait (R162 to R164). -/
def serveHeld (wait : Request → Wait) (owner : Request → State → Held) (s : State) : State :=
  match oldest s, oldestRow s with
  | some p, some row =>
    let q := parseRequest s.now p
    checked q row (fun s => (owner q (addEntry q (wait q) s)).reply q (wait q)) (popIntake s)
  | _, _ => s

/-- The taking of a request of an unknown kind: checks 1 and 2 (R163). -/
def serveUnknown (s : State) : State :=
  match oldest s with
  | some p =>
    let q := parseRequest s.now p
    let s := popIntake s
    if s.req.waits q.client q.tag then recordDuplicate q s else answer q .unknownKind .empty s
  | none => s

/-- UNKNOWN_KIND (R163): the request is refused, with an empty body. -/
def execUnknownKind (s : State) : Host.Outcome State Fault Refusal := act (unknownDue s) serveUnknown s

end Sys2Proof.Machine
end

