-- ==== Sys2Proof/Machine/Timebase.lean ====
section
/-! DEFINITION. Timebase and clock discipline (chapter 2): the maps, the processing of a mark, holdover, the stamping of
reports and TIME_STATUS. The phase lock's response to a change to UNSYNCED (R18) stands here beside its cause. -/

namespace Sys2Proof.Machine

/-! ## The maps (R35, R36) -/

/-- host_of: the Timebase's map of a device tick to host time (R35). -/
def Timebase.hostOf (t : Timebase) (d : Tick) : HostTime :=
  t.hRef + BitVec.ofInt 64 (tickDiff d t.dRef + roundDiv (tickDiff d t.dRef * t.rate) 1000000000)

/-- dev_of: the Timebase's map of a host time to a device tick (R36). -/
def Timebase.devOf (t : Timebase) (h : HostTime) : Tick :=
  addTick t.dRef (roundDiv (hostDiff h t.hRef * 1000000000) (1000000000 + t.rate))

/-- The maps are valid in COARSE and LOCKED (R37). -/
def Timebase.synced (t : Timebase) : Bool := t.sync != .unsynced

/-! ## Changes of the discipline state (R34) -/

/-- The discipline state becomes `after`; SYNC_CHANGED is raised when that is a change (R34). -/
def changeSync (after : Sync) (cause : SyncCause) (error : Option Int) (s : State) : State :=
  raiseIf (s.time.sync != after) .timebase (.syncChanged s.time.sync after cause error)
    (s.mapTime fun t => { t with sync := after })

/-! ## Marks (R27 to R32) -/

/-- What a mark turns out to be (section 2.3). -/
inductive MarkOutcome where
  | first | tooClose | restart
  | rejected (spacing difference : Int)
  | step (m e : Int)
  | update (m e : Int) (predicted : HostTime)
deriving DecidableEq, Repr

/-- The rate a mark implies, in ppb: truncated(((H − H_last) − ΔD) × 10^9 / ΔD) (R29). -/
def markRate (spacing gain : Int) : Int := truncDiv (gain * 1000000000) spacing

/-- The outcome of a mark (D, H), by the discipline state and the mark's spacing and content (R27 to R30). -/
def Timebase.judge (t : Timebase) (d : Tick) (h : HostTime) : MarkOutcome :=
  let spacing := tickDiff d t.dLast
  let gain := hostDiff h t.hLast - spacing
  let m := markRate spacing gain
  let hp := t.hostOf d
  let e := hostDiff h hp
  if t.sync = .unsynced then .first
  else if spacing < 5000 then .tooClose
  else if 1000000 < spacing then .restart
  else if 200000 < m.natAbs then .rejected spacing gain
  else if 2000 < e.natAbs then .step m e
  else .update m e hp

/-- The mark becomes the reference pair (R27, R28, R30). -/
def Timebase.setReference (d : Tick) (h : HostTime) (t : Timebase) : Timebase := { t with dRef := d, hRef := h }

/-- The mark is accepted: it becomes the last accepted mark, from which the holdover timer starts (R27 to R31). -/
def Timebase.accept (d : Tick) (h : HostTime) (t : Timebase) : Timebase :=
  { t with dLast := d, hLast := h, accepted := t.accepted + 1 }

/-- r moves an eighth of the way toward the measured rate, clamped (R31). -/
def Timebase.learn (m : Int) (t : Timebase) : Timebase :=
  { t with rate := clampInt (-200000) 200000 (t.rate + truncDiv (m - t.rate) 8) }

/-- The discipline state becomes LOCKED: the lock count has reached 4 in COARSE (R32). -/
def becomeLocked (e : Int) (s : State) : State := changeSync .locked .lock (some e) s

/-- The lock count and the discipline state after an update with prediction error e (R32). -/
def lockUpdate (e : Int) (s : State) : State :=
  if e.natAbs ≤ 50 then
    let s := s.mapTime fun t => { t with lockCount := bump 4 t.lockCount }
    if lockReached s then becomeLocked e s else s
  else
    let s := s.mapTime fun t => { t with lockCount := 0 }
    if s.time.sync = .locked ∧ 200 < e.natAbs then changeSync .coarse .error (some e) s else s

/-- A first mark (R27). -/
def firstMark (d : Tick) (h : HostTime) (s : State) : State :=
  changeSync .coarse .firstMark none
    (s.mapTime fun t => { (t.setReference d h).accept d h with lockCount := 0 })

/-- A mark that restarts the map (R28). -/
def restartMark (d : Tick) (h : HostTime) (s : State) : State :=
  changeSync .coarse .restart none
    (s.mapTime fun t => { (t.setReference d h).accept d h with lockCount := 0, restarts := t.restarts + 1 })

/-- A mark rejected for its rate (R29). -/
def rejectMark (spacing gain : Int) (s : State) : State :=
  raise .timebase (.markRejected spacing (saturate32 gain)) (s.mapTime fun t => { t with rejected := t.rejected + 1 })

/-- A mark that steps the map (R30, R31). -/
def stepMark (m e : Int) (d : Tick) (h : HostTime) (s : State) : State :=
  (changeSync .coarse .step (some e)
    (s.mapTime fun t => { t.setReference d h with lockCount := 0, steps := t.steps + 1 })).mapTime
    fun t => (t.learn m).accept d h

/-- A mark that updates the map: the reference moves a quarter of the way toward the mark (R30 to R32). -/
def updateMark (m e : Int) (hp : HostTime) (d : Tick) (h : HostTime) (s : State) : State :=
  lockUpdate e
    (s.mapTime fun t => ((t.setReference d (hp + BitVec.ofInt 64 (roundDiv e 4))).learn m).accept d h)

/-- The Timebase processes a mark: one event (R26 to R32). -/
def processMark (d : Tick) (h : HostTime) (s : State) : State :=
  match s.time.judge d h with
  | .first => firstMark d h s
  | .tooClose => s.mapTime fun t => { t with tooClose := t.tooClose + 1 }
  | .restart => restartMark d h s
  | .rejected spacing gain => rejectMark spacing gain s
  | .step m e => stepMark m e d h s
  | .update m e hp => updateMark m e hp d h s

/-! ## The phase mode's changes (R17, R18) -/

/-- The phase mode becomes `mode`; PHASE_LOCK_CHANGED is raised when `told` and the mode was not that (R15 to R18). -/
def changePhase (mode : PhaseMode) (told : Bool) (s : State) : State :=
  let s := s.mapTl fun t => { t with phase := mode }
  raiseIf told .frameTimeline (.phaseLockChanged mode s.tl.lastError) s

/-- With an anchor held, the phase lock goes back to ACQUIRING: holdover and TIMELINE_STOP (R18). -/
def loosenPhase (s : State) : State :=
  if s.tl.anchor.isSome then
    changePhase .acquiring (s.tl.phase == .locked) (s.mapTl fun t => { t with lockRun := 0 })
  else s

/-! ## Holdover (R33) -/

/-- 10,000,000 ticks without an accepted mark in LOCKED (R33). -/
def becomeCoarse (s : State) : State :=
  changeSync .coarse .holdover none (s.mapTime fun t => { t with lockCount := 0 })

/-- 60,000,000 ticks without an accepted mark in COARSE, and the phase lock's response (R33, R18). -/
def becomeUnsynced (s : State) : State :=
  loosenPhase (changeSync .unsynced .holdover none (s.mapTime fun t => { t with lockCount := 0 }))

/-! ## Sessions (R41) -/

/-- Session start at the Timebase (R41). -/
def Timebase.clearSession (t : Timebase) : Timebase := { t with lockCount := 0, reported := ⟨0, 0, 0, 0⟩ }

/-- The Timebase becomes UNSYNCED at session start (R41). -/
def timebaseSessionStart (s : State) : State :=
  changeSync .unsynced .sessionStart none (s.mapTime Timebase.clearSession)

/-! ## Stamping (R38) -/

/-- The host time and the ADJUSTED flag a record of a kind is given from its tick of reference (R38): the mapped time is
read as a signed value, the last-reported time as the unsigned one it is (section 10.4). One more than a last-reported
time of 2^64 − 1 wraps to 0 (DESIGN CHOICE, log 38). -/
def Timebase.stampOf (t : Timebase) (k : Stamped) (d : Tick) : HostTime × Bool :=
  if t.sync = .unsynced then (0, false)
  else
    let mapped := t.hostOf d
    let last := t.reported.get k
    if 0 < mapped.toInt ∧ (last = 0 ∨ (last.toNat : Int) < mapped.toInt) then (mapped, false)
    else if last = 0 then (1, true)
    else (last + 1, true)

/-- The Timebase after stamping: the last-reported host time of the kind becomes the one the record carries (R38). -/
def Timebase.stamped (t : Timebase) (k : Stamped) (d : Tick) : Timebase :=
  if t.sync = .unsynced then t else { t with reported := t.reported.set k (t.stampOf k d).1 }

/-! ## TIME_STATUS (R40) -/

/-- The content of TIME_STATUS (R40). -/
def timeStatusOf (s : State) : TimeStatus where
  tick := s.now
  hostNow := if s.time.synced then s.time.hostOf s.now else 0
  sync := s.time.sync
  dRef := s.time.dRef
  hRef := s.time.hRef
  rate := s.time.rate
  dLast := s.time.dLast
  hLast := s.time.hLast
  lockCount := s.time.lockCount
  sinceLast := if s.time.synced then s.time.elapsed s.now else 0
  reported := s.time.reported
  accepted := s.time.accepted
  tooClose := s.time.tooClose
  rejected := s.time.rejected
  restarts := s.time.restarts
  steps := s.time.steps

/-- TIME_STATUS: answered OK at once in every discipline state (R40). -/
def timeStatus (_ : Request) (s : State) : Done := .ok s (.timeStatus (timeStatusOf s))

/-! ## Commands -/

/-- TIME_STATUS (R40). -/
def execTimeStatus (s : State) : Host.Outcome State Fault Refusal := act (kindDue .timeStatus s) (serve timeStatus) s

/-- SYNC_LOCK (R32): the lock count has reached 4 in COARSE. -/
def execSyncLock (e : Int) (s : State) : Host.Outcome State Fault Refusal := act (lockReached s) (becomeLocked e) s

/-- HOLDOVER_COARSE (R33). -/
def execHoldoverCoarse (s : State) : Host.Outcome State Fault Refusal := act (holdoverCoarseDue s) becomeCoarse s

/-- HOLDOVER_UNSYNCED (R33). -/
def execHoldoverUnsynced (s : State) : Host.Outcome State Fault Refusal := act (holdoverUnsyncedDue s) becomeUnsynced s

end Sys2Proof.Machine
end

