-- ==== Sys2Proof/Machine/LateShift.lean ====
section
/-! DEFINITION. Late Shift Unit (chapter 5): the source of a shift, the computation from the sensor ring, and the
LATE_SHIFT request. -/

namespace Sys2Proof.Machine

/-! ## The computation (R96 to R102) -/

/-- The part of a piece from offset `lo` to offset `hi` that lies in the interval [0, len). -/
def pieceSpan (lo hi len : Int) : Int := max 0 (min hi len - max lo 0)

/-- The integral of a rate over [a, a + len): each entry's rate holds from its tick to the next entry's, the newest
entry's to the end (R99, R100). -/
def integrate (rate : Sample → Int) (a : Tick) (len : Int) : List Sample → Int
  | [] => 0
  | [x] => rate x * pieceSpan (tickDiff x.tick a) len len
  | x :: y :: rest =>
    rate x * pieceSpan (tickDiff x.tick a) (tickDiff y.tick a) len + integrate rate a len (y :: rest)

/-- The window whose middle ends the interval: the eye's strobe window, or its scan window where that is disabled
(R97). -/
def lightWindow (t : Timeline) (e : Eye) : Window :=
  if (t.windows.strobe.get e).on then t.windows.strobe.get e else t.windows.scan.get e

/-- b: the middle of the light (R97). -/
def lightMiddle (t : Timeline) (e : Eye) : Tick :=
  addTick t.startTick (((lightWindow t e).start + (lightWindow t e).stop) / 2 : Nat)

/-- A zero shift of a source. -/
def Shift.zeroOf (src : ShiftSource) : Shift := { Shift.zero with source := src }

/-- Angles to pixels: sx from the yaw angle, sy from the pitch angle (R101). -/
def shiftPixels (c : DisplayConfig) (yaw pitch : Int) : Int × Int :=
  (-(roundDiv (yaw * c.ppdX) 256000000000), roundDiv (pitch * c.ppdY) 256000000000)

/-- A shift clamped to the margins, with CLAMP where either is clamped (R102). -/
def marginClamp (c : DisplayConfig) (x : Shift) : Shift :=
  let sx := clampInt (-(c.marginX : Int)) c.marginX x.sx
  let sy := clampInt (-(c.marginY : Int)) c.marginY x.sy
  { x with sx := sx, sy := sy, clamp := x.clamp || sx != x.sx || sy != x.sy }

/-- The integration over [a, b), the pixels and the clamp (R99 to R102). -/
def integratedShift (src : ShiftSource) (m : Motion) (c : DisplayConfig) (a b : Tick) (short limit : Bool) : Shift :=
  let yaw := integrate (fun x => x.gyro.yaw - m.config.bias.yaw) a (tickDiff b a) m.ring
  let pitch := integrate (fun x => x.gyro.pitch - m.config.bias.pitch) a (tickDiff b a) m.ring
  let p := shiftPixels c yaw pitch
  marginClamp c { Shift.zeroOf src with sx := p.1, sy := p.2, short := short, limit := limit }

/-- A computed shift, of source AUTO or HOST_LATE: the checks, the interval, the integration (R96 to R102). -/
def computedShift (src : ShiftSource) (e : Eye) (h : Head) (s : State) : Shift :=
  if !s.time.synced then { Shift.zeroOf src with noSync := true }
  else
    match s.motion.ring with
    | [] => { Shift.zeroOf src with noData := true }
    | oldest :: _ =>
      let pose := s.time.devOf h.pose
      let b := lightMiddle s.tl e
      if tickDiff b pose ≤ 0 then Shift.zeroOf src
      else
        let limit := decide (100000 < tickDiff b pose)
        let a := if limit then addTick b (-100000) else pose
        let short := decide (tickDiff a oldest.tick < 0)
        integratedShift src s.motion s.disp.config (if short then oldest.tick else a) b short limit

/-- A stored late shift as a result of source HOST (R91, R102). -/
def hostShift (c : DisplayConfig) (l : LateShift) : Shift :=
  marginClamp c { Shift.zeroOf .host with sx := l.sx, sy := l.sy, clamp := l.clampX || l.clampY }

/-- The shift result record for the head being bound (R89 to R91). -/
def shiftFor (e : Eye) (h : Head) (s : State) : Shift :=
  match h.mode, h.late with
  | .none, _ => .zero
  | .host, some l => hostShift s.disp.config l
  | .host, none => computedShift .hostLate e h s
  | .auto, _ => computedShift .auto e h s

/-! ## LATE_SHIFT (R92, R93) -/

/-- The values of a LATE_SHIFT body, clamped to the margins in force (R92). -/
def parseLate (c : DisplayConfig) (body : List Byte) : LateShift :=
  let x := (u16 body 3).toInt
  let y := (u16 body 5).toInt
  let cx := clampInt (-(c.marginX : Int)) c.marginX x
  let cy := clampInt (-(c.marginY : Int)) c.marginY y
  ⟨cx, cy, cx != x, cy != y⟩

/-- The head is absent or of another id, or of this id. -/
def headIs (id : BitVec 16) (h : Option Head) : Bool := (h.map Head.id) == some id

/-- The outcome of a LATE_SHIFT for one eye (R93). -/
def lateOutcome (id : BitVec 16) (l : LateShift) (e : Eye) (s : State) : LateOutcome :=
  match (s.disp.eyes.get e).pending with
  | some h =>
    if h.id = id then .stored l h.mode
    else if headIs id (s.disp.eyes.get e).bound then .late (s.shift.record.get e) else .notFound
  | none => if headIs id (s.disp.eyes.get e).bound then .late (s.shift.record.get e) else .notFound

/-- The outcome of a named eye, `none` for an eye not named. -/
def lateOutcomes (id : BitVec 16) (l : LateShift) (named : PerEye Bool) (s : State) : PerEye (Option LateOutcome) :=
  ⟨if named.left then some (lateOutcome id l .left s) else none,
   if named.right then some (lateOutcome id l .right s) else none⟩

/-- Stores a late shift on an eye's pending head where the outcome is STORED (R93). -/
def storeLate (e : Eye) (o : Option LateOutcome) (s : State) : State :=
  match o with
  | some (.stored l _) => s.mapEye e fun d => { d with pending := d.pending.map fun h => { h with late := some l } }
  | _ => s

/-- Some named eye has this outcome. -/
def anyOutcome (p : LateOutcome → Bool) (o : PerEye (Option LateOutcome)) : Bool :=
  (o.left.map p).getD false || (o.right.map p).getD false

def LateOutcome.isNotFound : LateOutcome → Bool
  | .notFound => true
  | _ => false

def LateOutcome.isLate : LateOutcome → Bool
  | .late _ => true
  | _ => false

/-- LATE_SHIFT: judged for each named eye at its taking (R92, R93). -/
def lateShift (q : Request) (s : State) : Done :=
  match parseEyes (byteAt q.body 0) with
  | none => .refused s .outOfRange
  | some named =>
    let o := lateOutcomes (u16 q.body 1) (parseLate s.disp.config q.body) named s
    if anyOutcome LateOutcome.isNotFound o then .refused s .wrongState (.lateShift o)
    else ⟨storeLate .right o.right (storeLate .left o.left s), if anyOutcome LateOutcome.isLate o then .late else .ok,
      .lateShift o⟩

/-! ## Frame ends (R104, R105) -/

/-- The shift of an eye for the FRAME record of the frame just ended (R104). -/
def ShiftUnit.handover (u : ShiftUnit) (e : Eye) : Shift := if u.latched.get e then u.record.get e else .zero

/-- LATE_SHIFT (R93). -/
def execLateShift (s : State) : Host.Outcome State Fault Refusal := act (kindDue .lateShift s) (serve lateShift) s

end Sys2Proof.Machine
end

