-- ==== Sys2Proof/Machine/Display.lean ====
section
/-! DEFINITION. Display Output (chapter 3): panels, configuration and drive, heads and rows, the latch, the scan, the
blank causes, the strobe, and the hand-over at a frame's end. -/

namespace Sys2Proof.Machine

/-! ## Panels (R44 to R47) -/

/-- The eyes of a mask, by their panel state. -/
def anyNamed (named : PerEye Bool) (p : Eye → Bool) : Bool := (named.left && p .left) || (named.right && p .right)

/-- Every named eye. -/
def allNamed (named : PerEye Bool) (p : Eye → Bool) : Bool := (!named.left || p .left) && (!named.right || p .right)

def State.panel (s : State) (e : Eye) : Panel := (s.disp.eyes.get e).panel

/-- The state of each named eye (R44). -/
def namedPanels (named : PerEye Bool) (s : State) : ReplyBody :=
  .panels ⟨if named.left then some (s.panel .left) else none, if named.right then some (s.panel .right) else none⟩

/-- Does something to each named eye. -/
def mapNamed (named : PerEye Bool) (f : EyeDisplay → EyeDisplay) (s : State) : State :=
  s.mapDisp fun d =>
    { d with eyes := ⟨if named.left then f d.eyes.left else d.eyes.left, if named.right then f d.eyes.right else d.eyes.right⟩ }

/-- An eye that is OFF becomes WAKING with its wake timer at 30,000 µs (R44). -/
def EyeDisplay.wakeUp (d : EyeDisplay) : EyeDisplay := if d.panel = .off then { d with panel := .waking, wake := 30000 } else d

/-- An eye is turned OFF: the wake timer stops, the mark is cleared and the scan ends (R46). A stopped wake timer shows 0
(DESIGN CHOICE, log 53). -/
def EyeDisplay.turnOff (d : EyeDisplay) : EyeDisplay :=
  { d with panel := .off, wake := 0, sleepMark := false, scan := none }

/-- PANEL_POWER with power on (R44). The OK answered at once, when every named eye is ON already, carries the state of each
named eye, as R44 gives it for the request that waits (DESIGN CHOICE, log 50). -/
def panelOn (q : Request) (s : State) : Held :=
  match parseEyes (byteAt q.body 0) with
  | none => ⟨s, some (.outOfRange, .empty)⟩
  | some named =>
    if s.power.asleep then ⟨s, some (.wrongState, .empty)⟩
    else if anyNamed named fun e => s.panel e == .waking then ⟨s, some (.busy, .empty)⟩
    else if allNamed named fun e => s.panel e == .on then ⟨s, some (.ok, namedPanels named s)⟩
    else ⟨computeGrants (mapNamed named EyeDisplay.wakeUp s), none⟩

/-- What a PANEL_POWER with power on waits for. -/
def panelWait (q : Request) : Wait :=
  let named := (parseEyes (byteAt q.body 0)).getD ⟨false, false⟩
  .panels named.left named.right

/-- Cancels the waiting PANEL_POWER requests that name one of these eyes (R46, R47). -/
def cancelPanels (eyes : PerEye Bool) (s : State) : State :=
  finishWaiting (Wait.namesEye eyes) .cancelled (fun _ => .empty) s

/-- PANEL_POWER with power off (R46). -/
def panelOff (q : Request) (s : State) : Done :=
  match parseEyes (byteAt q.body 0) with
  | none => .refused s .outOfRange
  | some named =>
    let changed := anyNamed named fun e => (s.panel e).powered
    .ok (cancelPanels named (computeIf changed (lights (mapNamed named EyeDisplay.turnOff s)))) .empty

/-- Waits for panels that are all ON now. -/
def Wait.panelsOn (s : State) : Wait → Bool
  | .panels l r => allNamed ⟨l, r⟩ fun e => s.panel e == .on
  | _ => false

/-- The reply body of a waiting PANEL_POWER: the state of each named eye (R44). -/
def Entry.panelBody (s : State) (e : Entry) : ReplyBody :=
  match e.wait with
  | .panels l r => namedPanels ⟨l, r⟩ s
  | _ => .empty

/-- An eye's wake timer expires: the panel becomes ON, and a waiting PANEL_POWER whose eyes are all ON is answered
(R45). -/
def wakeExpiry (e : Eye) (s : State) : State :=
  let s := lights (s.mapEye e fun d => { d with panel := .on })
  finishWaiting (Wait.panelsOn s) .ok (Entry.panelBody s) s

/-- The eyes whose panel is WAKING or ON. -/
def poweredEyes (s : State) : PerEye Bool := ⟨(s.panel .left).powered, (s.panel .right).powered⟩

/-- Sleep at the panels: each eye WAKING or ON becomes OFF with its mark set, and waiting requests that name it are
cancelled (R47). -/
def panelSleep (s : State) : State :=
  cancelPanels (poweredEyes s) (mapNamed (poweredEyes s) (fun d => { d.turnOff with sleepMark := true }) s)

/-- An eye with the off-by-sleep mark becomes WAKING and the mark is cleared (R47). -/
def EyeDisplay.restore (d : EyeDisplay) : EyeDisplay :=
  if d.sleepMark then { d with panel := .waking, wake := 30000, sleepMark := false } else d

/-- Wake at the panels (R47). -/
def panelRestore (s : State) : State := mapNamed ⟨true, true⟩ EyeDisplay.restore s

/-! ## Configuration and drive (R48, R49) -/

/-- The number of heads an eye holds. -/
def EyeDisplay.heads (d : EyeDisplay) : Nat := (if d.pending.isSome then 1 else 0) + (if d.bound.isSome then 1 else 0)

/-- An eye's video is flushed: line store and heads (R48). -/
def EyeDisplay.flush (d : EyeDisplay) : EyeDisplay := { d with lines := [], pending := none, bound := none }

/-- The WEAR condition: wear blanking is on and the wear state is REMOVED (R48, R57). -/
def wearCondition (s : State) : Bool := s.disp.config.wearBlanking && s.motion.wear == .removed

/-- A configuration is taken: video flushed, WEAR re-evaluated (R48). -/
def takeDisplayConfig (c : DisplayConfig) (s : State) : State :=
  let s := s.mapDisp fun d => { d with config := c, eyes := d.eyes.map EyeDisplay.flush }
  lights (setBlank .wear (wearCondition s) s)

/-- DISPLAY_CONFIG (R48). -/
def displayConfig (q : Request) (s : State) : Done :=
  let given := parseDisplayConfig q.body
  let c := clampDisplayConfig given
  if s.tl.running then .refused s .wrongState
  else
    match displayConfigFault given with
    | some f => .refused s .outOfRange (.field f)
    | none =>
      .ok (takeDisplayConfig c s) (.displayConfig c (c.marginX != given.marginX) (c.marginY != given.marginY)
        (c.lead != given.lead) (s.disp.eyes.left.heads + s.disp.eyes.right.heads))

/-- A drive code clamped to 0..1023 (R49, R78). -/
def clampCode (n : Nat) : Nat := clampNat 0 1023 n

/-- DISPLAY_DRIVE (R49). -/
def displayDrive (q : Request) (s : State) : Done :=
  let l := (u16 q.body 0).toNat
  let r := (u16 q.body 2).toNat
  .ok (s.mapDisp fun d =>
      { d with eyes := ⟨{ d.eyes.left with request := clampCode l }, { d.eyes.right with request := clampCode r }⟩ })
    (.drive ⟨clampCode l, clampCode r⟩ ⟨clampCode l != l, clampCode r != r⟩)

/-! ## Heads and rows (R50, R52) -/

/-- A video packet found malformed by the Display Output is discarded and counted (R50, R52, R179). -/
def countMalformed (s : State) : State := s.mapDisp fun d => { d with malformed := d.malformed + 1 }

/-- A well-formed head becomes the eye's pending head (R50). -/
def takeHead (e : Eye) (h : Head) (s : State) : State :=
  let old := (s.disp.eyes.get e).pending
  let s := (s.mapDisp fun d => { d with headsReceived := d.headsReceived + 1 }).mapEye e fun d => { d with pending := some h }
  match old with
  | none => s
  | some o =>
    raise (.eye e) (.frameDropped o.id h.id) (s.mapDisp fun d => { d with headsDropped := d.headsDropped + 1 })

/-- A FRAME_HEAD payload reaches the Display Output (R50). -/
def receiveHead (payload : List Byte) (s : State) : State :=
  match parseHead payload with
  | some (e, h) => takeHead e h s
  | none => countMalformed s

/-- The frame id names the eye's pending or bound head. -/
def EyeDisplay.knows (d : EyeDisplay) (id : BitVec 16) : Bool := headIs id d.pending || headIs id d.bound

/-- A well-formed row is stored in slot s mod 96, or is a stray (R52). -/
def takeRow (e : Eye) (r : StoredRow) (s : State) : State :=
  if (s.disp.eyes.get e).knows r.id then
    (s.mapEye e fun d => { d with lines := d.lines.write (r.row % 96) r }).mapDisp fun d =>
      { d with rowsStored := d.rowsStored + 1 }
  else s.mapDisp fun d => { d with strayRows := d.strayRows + 1 }

/-- A ROW payload reaches the Display Output (R52). -/
def receiveRow (payload : List Byte) (s : State) : State :=
  match parseRow s.disp.config payload with
  | some (e, r) => takeRow e r s
  | none => countMalformed s

/-! ## The latch (R53, R54) -/

/-- The eye binds its pending head with its shift result record; a late shift stored on the head is consumed (R53, R89,
R94). -/
def bindHead (e : Eye) (h : Head) (s : State) : State :=
  let r := shiftFor e h s
  lights (unblank (stallCause e)
    ((s.mapEye e fun d => { d with pending := none, bound := some { h with late := none }, shift := r, missed := 0 }).mapShift fun u =>
      ⟨u.record.set e r, u.latched.set e true⟩))

/-- The eye's VIDEO_STALL condition becomes present (R54). -/
def stall (e : Eye) (s : State) : State :=
  raise (.eye e) (.videoStall (s.disp.eyes.get e).missed) (blank (stallCause e) s)

/-- The eye misses the frame (R54). -/
def missFrame (e : Eye) (s : State) : State :=
  let s := lights
    ((s.mapEye e fun d => { d with bound := none, shift := .zero, missed := bump 65535 d.missed }).mapShift fun u =>
      { u with record := u.record.set e .zero })
  if stallReached s e then stall e s else s

/-- The counter reaches an eye's latch point: the eye binds or misses (R4, R53, R54). -/
def latchEye (e : Eye) (s : State) : State :=
  let s := s.mapTl fun t => { t with latched := t.latched.set e true }
  match (s.disp.eyes.get e).pending with
  | some h => bindHead e h s
  | none => missFrame e s

/-! ## The scan (R55, R56) -/

/-- The eye's scan window opens: a scan begins when the eye bound a frame in this frame and its panel is ON (R55). -/
def openScan (e : Eye) (s : State) : State :=
  let s := s.mapTl fun t => { t with scanOpened := t.scanOpened.set e true }
  if (s.disp.eyes.get e).bound.isSome && s.shift.latched.get e && s.panel e == .on then
    s.mapEye e fun d => { d with scan := some 0, lastRow := none }
  else s

/-- The source row of panel row `k`: k + M_y + sy (R55). -/
def sourceRow (c : DisplayConfig) (x : Shift) (k : Nat) : Nat := ((k : Int) + c.marginY + x.sy).toNat

/-- The W columns of a source row from column M_x + sx, three bytes each (R55, section 10.2). -/
def shiftedColumns (c : DisplayConfig) (x : Shift) (pixels : List Byte) : List Byte :=
  (pixels.drop (3 * ((c.marginX : Int) + x.sx).toNat)).take (3 * c.columns)

/-- A black row: W pixels with every component 0 (R56; log 27). -/
def blackRow (c : DisplayConfig) : List Byte := List.replicate (3 * c.columns) 0

/-- The stored row of panel row `k`, when its slot's tag is (bound id, s) (R56). -/
def EyeDisplay.storedRow (c : DisplayConfig) (d : EyeDisplay) (k : Nat) : Option StoredRow :=
  (d.lines.read (sourceRow c d.shift k % 96)).filter fun r => headIs r.id d.bound && r.row == sourceRow c d.shift k

/-- The scan position after row `k` (R55). -/
def nextRow (c : DisplayConfig) (k : Nat) : Option Nat := if k + 1 < c.rows then some (k + 1) else none

/-- Panel row `k` is scanned (R56). -/
def EyeDisplay.scanRow (c : DisplayConfig) (k : Nat) (d : EyeDisplay) : EyeDisplay :=
  match d.storedRow c k with
  | some r => { d with scan := nextRow c k, lastRow := some (k, shiftedColumns c d.shift r.pixels) }
  | none =>
    { d with
      scan := nextRow c k
      lastRow := some (k, (d.lastRow.map Prod.snd).getD (blackRow c))
      repeats := bump 65535 d.repeats }

/-- The next row of the eye's scan (R55, R56). -/
def scanEye (e : Eye) (s : State) : State :=
  match (s.disp.eyes.get e).scan with
  | some k => s.mapEye e (EyeDisplay.scanRow s.disp.config k)
  | none => s

/-! ## Blank causes (R59, R60) -/

/-- DISPLAY_BLANK (R59). -/
def displayBlank (_ : Request) (s : State) : Done :=
  let s := blank .host s
  .ok s (.causes s.disp.latches s.disp.present)

/-- Every latch whose condition is absent is cleared (R60). -/
def clearLatches (s : State) : State :=
  lights ((unblank .host s).mapDisp fun d => { d with latches := d.latches.inter d.present })

/-- DISPLAY_RESUME (R60). -/
def displayResume (_ : Request) (s : State) : Done :=
  let s := clearLatches s
  .ok s (.causes s.disp.latches s.disp.present)

/-! ## The strobe (R61) -/

/-- The eye's strobe window opens (R3, R61). -/
def openStrobe (e : Eye) (s : State) : State := lights (s.mapTl fun t => { t with strobe := t.strobe.set e .opened })

/-- The eye's strobe window closes (R3, R61). -/
def closeStrobe (e : Eye) (s : State) : State := lights (s.mapTl fun t => { t with strobe := t.strobe.set e .closed })

/-! ## Frame ends (R63, R104) -/

/-- The fields of an eye for the FRAME record of the frame just ended (R20, R63, R104). An eye whose frame was stopped
before its latch point has latched no frame in it: its host frame id is absent (DEDUCED, log 39). -/
def eyeFrame (s : State) (e : Eye) : EyeFrame where
  id := if s.shift.latched.get e then (s.disp.eyes.get e).bound.map Head.id else none
  shift := s.shift.handover e
  repeats := (s.disp.eyes.get e).repeats
  lit := (s.disp.eyes.get e).lit

/-- After the hand-over the row-repeat counts, STROBE_LIT and the latched-this-frame indications are cleared
(R63, R104). -/
def clearFrame (s : State) : State :=
  (s.mapDisp fun d => { d with eyes := d.eyes.map fun e => { e with repeats := 0, lit := false } }).mapShift fun u =>
    { u with latched := .both false }

/-- What TIMELINE_STOP in RUN does to each eye after the hand-over (R63, R105). -/
def stopDisplay (s : State) : State :=
  unblank .stallRight (unblank .stallLeft
    ((s.mapDisp fun d =>
        { d with eyes := d.eyes.map fun e => { e with scan := none, bound := none, shift := .zero, missed := 0 } }).mapShift
      fun _ => .reset))

/-! ## DISPLAY_STATUS (R64) -/

/-- The per-eye part of DISPLAY_STATUS (R64). -/
def eyeStatus (s : State) (e : Eye) : EyeStatus :=
  let d := s.disp.eyes.get e
  { panel := d.panel
    wake := d.wake
    sleepMark := d.sleepMark
    pending := d.pending.map fun h => (h.id, h.pose, h.mode, h.late.isSome)
    bound := d.bound.map Head.id
    shift := d.shift
    scan := d.scan
    repeats := d.repeats
    lit := d.lit
    missed := d.missed
    stalled := s.disp.present.get (stallCause e)
    rowsHeld := (d.lines.filter fun r => d.knows r.2.id).length
    request := d.request
    grant := (s.power.strobe.get e).grant
    drive := d.drive }

/-- The content of DISPLAY_STATUS (R64). -/
def displayStatusOf (s : State) : DisplayStatus where
  eyes := ⟨eyeStatus s .left, eyeStatus s .right⟩
  present := s.disp.present
  latches := s.disp.latches
  config := s.disp.config
  headsReceived := s.disp.headsReceived
  headsDropped := s.disp.headsDropped
  rowsStored := s.disp.rowsStored
  strayRows := s.disp.strayRows
  malformed := s.disp.malformed

/-- DISPLAY_STATUS (R64). -/
def displayStatus (_ : Request) (s : State) : Done := .ok s (.displayStatus (displayStatusOf s))

/-! ## Commands -/

/-- DISPLAY_CONFIG (R48). -/
def execDisplayConfig (s : State) : Host.Outcome State Fault Refusal :=
  act (kindDue .displayConfig s) (serve displayConfig) s

/-- DISPLAY_DRIVE (R49). -/
def execDisplayDrive (s : State) : Host.Outcome State Fault Refusal :=
  act (kindDue .displayDrive s) (serve displayDrive) s

/-- PANEL_POWER_ON (R44): a PANEL_POWER whose power field is on or is not carried. -/
def execPanelPowerOn (s : State) : Host.Outcome State Fault Refusal :=
  act (kindDue .panelPower s && powerOnField (oldestBody s)) (serveHeld panelWait panelOn) s

/-- PANEL_POWER_OFF (R46): a PANEL_POWER whose power field is off. -/
def execPanelPowerOff (s : State) : Host.Outcome State Fault Refusal :=
  act (kindDue .panelPower s && !powerOnField (oldestBody s)) (serve panelOff) s

/-- DISPLAY_BLANK (R59). -/
def execDisplayBlank (s : State) : Host.Outcome State Fault Refusal :=
  act (kindDue .displayBlank s) (serve displayBlank) s

/-- DISPLAY_RESUME (R60). -/
def execDisplayResume (s : State) : Host.Outcome State Fault Refusal :=
  act (kindDue .displayResume s) (serve displayResume) s

/-- DISPLAY_STATUS (R64). -/
def execDisplayStatus (s : State) : Host.Outcome State Fault Refusal :=
  act (kindDue .displayStatus s) (serve displayStatus) s

/-- LATCH (R53, R54): the counter has reached the eye's latch point. -/
def execLatch (e : Eye) (s : State) : Host.Outcome State Fault Refusal := act (latchDue s e) (latchEye e) s

/-- VIDEO_STALL (R54): the missed-frame run has reached 3 and the condition is not yet present. -/
def execVideoStall (e : Eye) (s : State) : Host.Outcome State Fault Refusal := act (stallReached s e) (stall e) s

/-- SCAN_WINDOW_OPEN (R55). -/
def execScanWindowOpen (e : Eye) (s : State) : Host.Outcome State Fault Refusal := act (scanOpenDue s e) (openScan e) s

/-- SCAN_ROW (R55, R56). -/
def execScanRow (e : Eye) (s : State) : Host.Outcome State Fault Refusal := act (scanRowDue s e) (scanEye e) s

/-- STROBE_WINDOW_OPEN (R61). -/
def execStrobeWindowOpen (e : Eye) (s : State) : Host.Outcome State Fault Refusal :=
  act (strobeOpenDue s e) (openStrobe e) s

/-- STROBE_WINDOW_CLOSE (R61). -/
def execStrobeWindowClose (e : Eye) (s : State) : Host.Outcome State Fault Refusal :=
  act (strobeCloseDue s e) (closeStrobe e) s

/-- WAKE_TIMER_EXPIRY (R45). -/
def execWakeTimerExpiry (e : Eye) (s : State) : Host.Outcome State Fault Refusal := act (wakeDue s e) (wakeExpiry e) s

end Sys2Proof.Machine
end

