-- ==== Sys2Proof/Machine/PowerManager.lean ====
section
/-! DEFINITION. Power Manager (chapter 7): the contract, the input monitor, the frame average and the derate level, the
brownout, the supply supervisor, sleep and wake, and POWER_STATUS. The grant computation stands in Ops.lean. -/

namespace Sys2Proof.Machine

/-! ## Start and supply (R136, R176) -/

/-- The part held in power-on reset with these levels at its pins: every block at its power-on values (R136). -/
def held (queue : List Instr) (pins : Pins) (free : Nat) : State :=
  { State.reset with pending := queue, pins := pins, free := free }

/-- The supply supervisor holds the part in power-on reset (R136). -/
def holdReset (s : State) : State := held s.pending s.pins s.free

/-- The end of settling: every block holds its power-on values, the clock runs, and the Power Manager makes its first
grant computation (R141, R176). -/
def startPart (s : State) : State := computeGrants { holdReset s with powered := true }

/-- The input voltage at the pin. -/
def setVoltage (mv : Nat) (s : State) : State := s.mapPins fun p => { p with mv := mv }

/-! ## The contract (R125) -/

/-- A contract in range is taken (R125). -/
def takeContract (mw : Nat) (s : State) : State :=
  computeGrants (s.mapPower fun p => { p with contract := mw, overdraw := 0, recovery := 0 })

/-- The reply body of POWER_CONTRACT (R125). -/
def contractReply (s : State) : ContractReply where
  contract := s.power.contract
  available := s.available
  fs := s.power.fs
  fi := s.power.fi
  strobe := s.power.strobe
  illum := s.power.illum
  audioGrant := s.power.audioGrant
  audioCost := s.power.audioCost
  limited := s.power.limited
  overContract := s.power.overContract

/-- POWER_CONTRACT (R125). -/
def powerContract (q : Request) (s : State) : Done :=
  let mw := (u16 q.body 0).toNat
  if mw < 500 ∨ 15000 < mw then .refused s .outOfRange
  else .ok (takeContract mw s) (.contract (contractReply (takeContract mw s)))

/-! ## The derate level (R133) -/

/-- The overdraw count has reached 4: d increments, at most to 8, and OVERDRAW is raised (R133). -/
def derateUp (s : State) : State :=
  let s := s.mapPower fun p => { p with overdraw := 0, derate := bump 8 p.derate }
  raise .powerManager (.overdraw s.power.average s.power.contract s.power.derate) s

/-- The recovery count has reached 16: d decrements if it is above 0 (R133). -/
def derateDown (s : State) : State := s.mapPower fun p => { p with recovery := 0, derate := p.derate - 1 }

/-- The counts after a frame average (R133). -/
def Power.countAverage (p : Power) : Power :=
  if p.contract < p.average then { p with overdraw := p.overdraw + 1, recovery := 0 }
  else if p.contract * 95 < p.average * 100 then { p with overdraw := 0, recovery := 0 }
  else { p with overdraw := 0, recovery := p.recovery + 1 }

/-- A frame average is compared with the contract in force (R133). -/
def judgeAverage (s : State) : State :=
  let s := s.mapPower Power.countAverage
  if overdrawReached s then derateUp s else if headroomReached s then derateDown s else s

/-- The frame average is closed at a frame end; a frame with no sample has none (R132). -/
def closeAverage (s : State) : State :=
  if 0 < s.power.count then
    judgeAverage (s.mapPower fun p => { p with average := p.sum / p.count, sum := 0, count := 0 })
  else s

/-! ## Brownout (R134, R135) -/

/-- A brownout begins (R134). -/
def beginBrownout (s : State) : State :=
  let s := s.mapPower fun p => { p with brownout := true, highRun := 0 }
  raise .powerManager (.brownout ((s.power.sample.map InputSample.mv).getD 0)) (setMute .power true (blank .power (lights s)))

/-- A brownout ends (R135). -/
def endBrownout (s : State) : State :=
  let s := (s.mapPower fun p => { p with brownout := false, lowRun := 0 }).mapMotion fun m => { m with darkened := true }
  lights (setMute .power (s.power.audioGrant == .l0) (setBlank .power s.power.overContract s))

/-- The low run outside a brownout (R134). -/
def countLow (mv : Nat) (s : State) : State :=
  let s := s.mapPower fun p => { p with lowRun := if mv < 10800 then bump 3 p.lowRun else 0 }
  if brownoutReached s then beginBrownout s else s

/-- The high run during a brownout (R135). -/
def countHigh (mv : Nat) (s : State) : State :=
  let s := s.mapPower fun p => { p with highRun := if 11200 ≤ mv then bump 101 p.highRun else 0 }
  if recoveryReached s then endBrownout s else s

/-! ## The input monitor (R132) -/

/-- The sample becomes the last sample, and is added to the current frame's sum while the timeline is RUN (R132). -/
def Power.addSample (running : Bool) (x : InputSample) (p : Power) : Power :=
  if running then { p with sample := some x, sum := p.sum + x.mw, count := p.count + 1 } else { p with sample := some x }

/-- The input monitor takes a sample (R132, R134, R135). -/
def takeSample (mv ma : Nat) (s : State) : State :=
  let s := (s.mapPower (Power.addSample s.tl.running ⟨mv, ma, mv * ma / 1000⟩)).mapClock fun c => { c with monitorDone := true }
  if s.power.brownout then countHigh mv s else countLow mv s

/-- A voltage and a current at the input: below 9,000 mV the supervisor holds the part in reset, otherwise the monitor
samples when its tick has come (R132, R136; log 8, log 25). -/
def inputLevel (mv ma : Nat) (s : State) : State :=
  let s := s.mapPins fun p => { p with mv := mv, ma := ma }
  if mv < 9000 then holdReset s else if s.powered && monitorDue s then takeSample mv ma s else s

/-! ## Sleep and wake (R137 to R139) -/

/-- The part goes to sleep (R138). -/
def goToSleep (s : State) : State :=
  let changed := (s.panel .left).powered || (s.panel .right).powered
  let s := panelSleep (s.mapPower fun p => { p with asleep := true, sleepTimer := none })
  computeIf changed (raise .powerManager (.sleepChanged true .timeout) (lights s))

/-- The part wakes (R139). -/
def wakePart (cause : SleepCause) (s : State) : State :=
  let changed := s.disp.eyes.left.sleepMark || s.disp.eyes.right.sleepMark
  let timer := if s.motion.wear = .removed then some 0 else none
  let s := panelRestore (s.mapPower fun p => { p with asleep := false, sleepTimer := timer })
  computeIf changed (raise .powerManager (.sleepChanged false cause) (lights s))

/-- The Power Manager is handed a change of wear state (R138, R139). -/
def wearToPower (w : Wear) (s : State) : State :=
  match w with
  | .removed => if s.power.asleep then s else s.mapPower fun p => { p with sleepTimer := some 0 }
  | .worn =>
    if s.power.asleep then wakePart .worn s else s.mapPower fun p => { p with sleepTimer := none }
  | .unknown => s.mapPower fun p => { p with sleepTimer := none }

/-- A timeout accepted acts by the sleep state (R137). -/
def applyPolicy (s : State) : State :=
  if s.power.asleep then (if s.power.timeout = 0 then wakePart .policy s else s)
  else if sleepDue s then goToSleep s
  else s

/-- POWER_POLICY (R137). -/
def powerPolicy (q : Request) (s : State) : Done :=
  let timeout := (u16 q.body 0).toNat
  if 600 < timeout then .refused s .outOfRange
  else
    let s := applyPolicy (s.mapPower fun p => { p with timeout := timeout })
    .ok s (.policy s.power.timeout s.power.asleep s.power.sleepMs)

/-! ## POWER_STATUS (R140) -/

/-- A line of the consumer table with its request as it stands in its block (R127, R140; log 19). -/
def Consumer.asking (request : Nat) (c : Consumer) : Consumer := { c with request := request }

/-- The content of POWER_STATUS: the requests as they stand, the grants and the costs of the last computation (R140). -/
def powerStatusOf (s : State) : PowerStatus where
  contract := s.power.contract
  loads := s.fixedLoads
  fixedSum := s.fixedSum
  available := s.available
  strobe := ⟨s.power.strobe.left.asking (demand s).strobe.left, s.power.strobe.right.asking (demand s).strobe.right⟩
  illum := ⟨s.power.illum.c0.asking (demand s).illum.c0, s.power.illum.c1.asking (demand s).illum.c1,
    s.power.illum.c2.asking (demand s).illum.c2, s.power.illum.c3.asking (demand s).illum.c3⟩
  audioRequest := (demand s).level
  audioGrant := s.power.audioGrant
  audioCost := s.power.audioCost
  variableTotal := variableTotal s.power.strobe s.power.illum s.power.audioCost
  fs := s.power.fs
  fi := s.power.fi
  limited := s.power.limited
  overContract := s.power.overContract
  derate := s.power.derate
  overdraw := s.power.overdraw
  recovery := s.power.recovery
  sample := s.power.sample
  count := s.power.count
  average := s.power.average
  brownout := s.power.brownout
  lowRun := s.power.lowRun
  highRun := s.power.highRun
  asleep := s.power.asleep
  timeout := s.power.timeout
  sleepMs := s.power.sleepMs

/-- POWER_STATUS (R140). -/
def powerStatus (_ : Request) (s : State) : Done := .ok s (.powerStatus (powerStatusOf s))

/-! ## Commands -/

/-- START_UP (R176): the end of settling, for a part held in reset with the input above 9,000 mV. -/
def execStartUp (mv : Nat) (s : State) : Host.Outcome State Fault Refusal :=
  .next (if s.powered then s else if 9000 < mv then startPart (setVoltage mv s) else setVoltage mv s)

/-- POWER_ON_RESET (R136): the input voltage falls below 9,000 mV. -/
def execPowerOnReset (mv : Nat) (s : State) : Host.Outcome State Fault Refusal :=
  .next (if mv < 9000 then holdReset (setVoltage mv s) else s)

/-- POWER_CONTRACT (R125). -/
def execPowerContract (s : State) : Host.Outcome State Fault Refusal :=
  act (kindDue .powerContract s) (serve powerContract) s

/-- POWER_POLICY (R137). -/
def execPowerPolicy (s : State) : Host.Outcome State Fault Refusal := act (kindDue .powerPolicy s) (serve powerPolicy) s

/-- POWER_STATUS (R140). -/
def execPowerStatus (s : State) : Host.Outcome State Fault Refusal := act (kindDue .powerStatus s) (serve powerStatus) s

/-- DERATE_UP (R133): the overdraw count has reached 4. -/
def execDerateUp (s : State) : Host.Outcome State Fault Refusal := act (overdrawReached s) derateUp s

/-- DERATE_DOWN (R133): the recovery count has reached 16. -/
def execDerateDown (s : State) : Host.Outcome State Fault Refusal := act (headroomReached s) derateDown s

/-- INPUT_MONITOR_SAMPLE (R132). -/
def execInputMonitorSample (mv ma : Nat) (s : State) : Host.Outcome State Fault Refusal := .next (inputLevel mv ma s)

/-- BROWNOUT_BEGIN (R134): the low run has reached 3. -/
def execBrownoutBegin (s : State) : Host.Outcome State Fault Refusal := act (brownoutReached s) beginBrownout s

/-- BROWNOUT_END (R135): the high run has reached 101. -/
def execBrownoutEnd (s : State) : Host.Outcome State Fault Refusal := act (recoveryReached s) endBrownout s

/-- SLEEP_TIMER_EXPIRY (R138). -/
def execSleepTimerExpiry (s : State) : Host.Outcome State Fault Refusal := act (sleepDue s) goToSleep s

end Sys2Proof.Machine
end

