-- ==== Sys2Proof/Machine/MotionHub.lean ====
section
/-! DEFINITION. Motion Hub (chapter 4): the IMU port, reads, conversion, the sensor ring, SENSOR records, cameras and
EXPOSURE records, wear detection and MOTION_STATUS. -/

namespace Sys2Proof.Machine

/-! ## MOTION_CONFIG (R67 to R69) -/

/-- The Motion Hub with a new configuration, in STARTING (R68). -/
def Motion.restart (c : MotionConfig) (m : Motion) : Motion :=
  { m with
    config := c
    read := none
    edge := none
    ring := []
    decimation := 0
    missed := 0
    failures := 0
    port := .starting
    start := 50000 }

/-- MOTION_CONFIG (R67, R68). -/
def motionConfig (q : Request) (s : State) : Held :=
  let c := parseMotionConfig q.body
  if s.motion.port = .starting then ⟨s, some (.busy, .empty)⟩
  else
    match motionConfigFault c with
    | some f => ⟨s, some (.outOfRange, .field f)⟩
    | none => ⟨computeIf (!s.motion.port.powered) (s.mapMotion (Motion.restart (clampMotionConfig c))), none⟩

/-- What a MOTION_CONFIG waits for, with the clamp flags of its bias axes. -/
def motionWait (q : Request) : Wait := .motion (biasClamped (parseMotionConfig q.body))

/-- Waits for the start timer. -/
def Wait.isMotion : Wait → Bool
  | .motion _ => true
  | _ => false

/-- The reply body of a waiting MOTION_CONFIG: the configuration in force and the clamp flags (R68). -/
def Entry.motionBody (c : MotionConfig) (e : Entry) : ReplyBody :=
  match e.wait with
  | .motion clamped => .motionConfig c clamped
  | _ => .empty

/-- The start timer expires: the port becomes RUNNING and the waiting MOTION_CONFIG is answered (R68). -/
def startExpiry (s : State) : State :=
  finishWaiting Wait.isMotion .ok (Entry.motionBody s.motion.config) (s.mapMotion fun m => { m with port := .running })

/-! ## Reads (R70 to R72) -/

/-- A read of an edge begins now (R71). -/
def beginRead (edge : Tick) (s : State) : State := s.mapMotion fun m => { m with read := some ⟨edge, s.now⟩ }

/-- A data-ready edge in RUNNING: it begins a read, becomes pending, or is missed (R70). -/
def handleEdge (s : State) : State :=
  match s.motion.read, s.motion.edge with
  | none, _ => beginRead s.now s
  | some _, none => s.mapMotion fun m => { m with edge := some s.now }
  | some _, some _ =>
    s.mapMotion fun m => { m with missed := bump 65535 m.missed, edgesMissed := m.edgesMissed + 1 }

/-- A data-ready edge in RUNNING is captured. One edge is captured at a device tick at most, so that the ring's ticks
strictly rise (R74): a second at the same tick is no edge (DESIGN CHOICE, log 41). -/
def captureEdge (s : State) : State :=
  if s.clock.edgeDone then s else handleEdge (s.mapClock fun c => { c with edgeDone := true })

/-- A data-ready edge; ignored outside RUNNING (R70). -/
def dataReady (s : State) : State := if s.motion.port = .running then captureEdge s else s

/-- After a read's end in RUNNING a pending edge begins its read (R72). -/
def nextRead (s : State) : State :=
  match s.motion.edge with
  | some t => if s.motion.port = .running then beginRead t (s.mapMotion fun m => { m with edge := none }) else s
  | none => s

/-- The port becomes FAILED, with the change of fixed load (R72). -/
def failPort (s : State) : State := computeGrants (s.mapMotion fun m => { m with port := .failed, read := none, edge := none })

/-- The port state after a failed read (R72). -/
def portAfter (s : State) : Port := if failureReached s then .failed else s.motion.port

/-- A read fails: counted, IMU_FAULT raised, and the port FAILED at the eighth (R71, R72). -/
def failRead (cause : ReadCause) (s : State) : State :=
  let s := s.mapMotion fun m =>
    { m with read := none, readFailures := m.readFailures + 1, failures := bump 8 m.failures }
  let s' := raise .motionHub (.imuFault cause s.motion.failures (portAfter s)) s
  if failureReached s then failPort s' else nextRead s'

/-! ## Conversion (R73) -/

/-- A raw value scaled by a full range: truncated(raw × range × 1,000 / 32,768) (R73). -/
def scaleRaw (raw : BitVec 16) (range : Nat) : Int := truncDiv (raw.toInt * range * 1000) 32768

/-- The value of a head axis: the mapped IMU axis, negated where the map's sign is negative (R73). -/
def mapAxis (values : List (BitVec 16)) (base range axis : Nat) (negative : Bool) : Int :=
  if negative then -(scaleRaw (values.getD (base + axis) 0) range) else scaleRaw (values.getD (base + axis) 0) range

/-- The three head axes of the gyro (base 0) or the accelerometer (base 3). -/
def mapAxes (c : MotionConfig) (values : List (BitVec 16)) (base range : Nat) : PerAxis Int where
  yaw := mapAxis values base range c.axis.yaw c.negative.yaw
  pitch := mapAxis values base range c.axis.pitch c.negative.pitch
  roll := mapAxis values base range c.axis.roll c.negative.roll

/-- A successful read's values as a sample with the tick of its edge (R73, R74). -/
def convert (c : MotionConfig) (tick : Tick) (values : List (BitVec 16)) : Sample where
  tick := tick
  gyro := mapAxes c values 0 c.gyroRange
  accel := mapAxes c values 3 c.accelRange
  temperature := 2500 + truncDiv ((values.getD 6 0).toInt * 100) 256

/-! ## The sensor ring and SENSOR records (R74, R76, R77) -/

/-- A sample is appended; a ring of 64 loses its oldest (R74). -/
def pushRing (x : Sample) (ring : List Sample) : List Sample := (if ring.length < 64 then ring else ring.drop 1) ++ [x]

/-- The newest sample is due: the decimation count returns to 0, and the SENSOR record is created when reporting is on
and a session is in progress; the missed-edge count then returns to 0 (R76, R77). -/
def sensorIsDue (s : State) : State :=
  let s' := s.mapMotion fun m => { m with decimation := 0 }
  match s.motion.ring.getLast? with
  | some x =>
    if s.motion.config.reporting && s.session then
      (offer (.sensor ⟨x, s.motion.missed⟩) s').mapMotion fun m => { m with missed := 0 }
    else s'
  | none => s'

/-- A sample is stored, and the decimation acts (R74, R76). -/
def storeSample (x : Sample) (s : State) : State :=
  let s := s.mapMotion fun m =>
    { m with ring := pushRing x m.ring, stored := m.stored + 1, decimation := m.decimation + 1 }
  if sensorReached s then sensorIsDue s else s

/-- A well-formed answer: the sample is new and seven values arrived (R71). -/
def wellFormedAnswer (a : ImuAnswer) : Bool := a.fresh && decide (7 ≤ a.values.length)

/-- A read succeeds (R71 to R74). -/
def succeedRead (r : ReadInFlight) (values : List (BitVec 16)) (s : State) : State :=
  let s := s.mapMotion fun m => { m with read := none, failures := 0 }
  nextRead (storeSample (convert s.motion.config r.edge values) s)

/-- The IMU's answer to the read that began at `began` (log 51) ends that read. An answer to any other read, one that has
timed out or was abandoned by a MOTION_CONFIG or a SYSTEM_RESET, is ignored (R68, R71, R87). -/
def readAnswer (began : Tick) (a : ImuAnswer) (s : State) : State :=
  match s.motion.read with
  | some r =>
    if r.began = began then
      if wellFormedAnswer a then succeedRead r a.values s else failRead .malformed s
    else s
  | none => s

/-! ## Cameras (R78 to R83) -/

/-- Making an exposure's record: created and offered while a session is in progress (R82, R83). -/
def makeRecord (c : Camera) (x : Exposure) (noResponse noEnd cutShort : Bool) (s : State) : State :=
  offer (.exposure ⟨c, x.frame, x.start.getD x.trigger, x.trigger, x.stop, x.drive, noResponse, noEnd, cutShort,
    x.lateStart⟩) s

/-- The channel is left with no exposure. -/
def setChannel (c : Camera) (x : Channel) (s : State) : State := s.mapCam c fun k => { k with state := x, context := none }

/-- An exposure is closed as its deadline closes it (R81). -/
def closeByDeadline (c : Camera) (s : State) : State :=
  match (s.motion.cams.get c).context with
  | some x =>
    setChannel c .idle
      (match x.start, x.stop with
      | none, _ => raise (.camera c) (.cameraNoResponse x.frame x.trigger) (makeRecord c x true false false s)
      | some _, none => makeRecord c x false true false s
      | some _, some _ => s)
  | none => setChannel c .idle s

/-- The record of an exposure closed early (R82). -/
def recordEarly (c : Camera) (s : State) : State :=
  match (s.motion.cams.get c).context with
  | some x => if !x.recorded && x.start.isSome && x.stop.isNone then makeRecord c x false true true s else s
  | none => s

/-- An exposure in progress is closed early, and the channel left in `x` (R82). -/
def closeEarly (c : Camera) (x : Channel) (s : State) : State :=
  match (s.motion.cams.get c).state with
  | .opened | .closing => setChannel c x (recordEarly c s)
  | .idle => setChannel c x s
  | .disabled => s

/-- TIMELINE_STOP in RUN closes every exposure early; an enabled channel is left IDLE (R82). -/
def stopExposures (s : State) : State :=
  closeEarly 3 .idle (closeEarly 2 .idle (closeEarly 1 .idle (closeEarly 0 .idle s)))

/-- A new exposure context (R79). -/
def newContext (s : State) : Exposure := ⟨s.tl.frame, s.now, none, none, 0, false, false, 0⟩

/-- The channel becomes OPEN with a new context (R79). -/
def openChannel (c : Camera) (s : State) : State :=
  s.mapCam c fun k => { k with state := .opened, context := some (newContext s) }

/-- The camera's exposure window opens (R79). -/
def openExposure (c : Camera) (s : State) : State :=
  let s := s.mapTl fun t => { t with expose := t.expose.set c .opened }
  lights (match (s.motion.cams.get c).state with
    | .idle => openChannel c s
    | .closing => openChannel c (closeByDeadline c s)
    | .opened | .disabled => s)

/-- The channel at the close of its window (R79). -/
def Cam.close (now : Tick) (k : Cam) : Cam :=
  match k.state, k.context with
  | .opened, some x =>
    if x.recorded then { k with state := .idle, context := none }
    else { k with state := .closing, context := some { x with deadline := addTick now 500 } }
  | .opened, none => { k with state := .idle }
  | _, _ => k

/-- The camera's exposure window closes at its end (R79). -/
def closeExposure (c : Camera) (s : State) : State :=
  lights ((s.mapTl fun t => { t with expose := t.expose.set c .closed }).mapCam c (Cam.close s.now))

/-- A stray camera edge (R80). -/
def strayEdge (s : State) : State := s.mapMotion fun m => { m with strayEdges := m.strayEdges + 1 }

/-- The channel's context while the exposure is in progress. -/
def Cam.inProgress (k : Cam) : Option Exposure :=
  match k.state with
  | .opened | .closing => k.context
  | .idle | .disabled => none

/-- A rising frame-valid edge (R80). -/
def validRise (c : Camera) (s : State) : State :=
  match (s.motion.cams.get c).inProgress with
  | some x =>
    if x.start.isNone then
      s.mapCam c fun k =>
        { k with context := some { x with start := some s.now, drive := k.drive, lateStart := k.state == .closing } }
    else strayEdge s
  | none => strayEdge s

/-- The channel after its record is made at the falling edge (R80). -/
def Cam.ended (x : Exposure) (k : Cam) : Cam :=
  if k.state = .closing then { k with state := .idle, context := none }
  else { k with context := some { x with recorded := true } }

/-- A falling frame-valid edge (R80). -/
def validFall (c : Camera) (s : State) : State :=
  match (s.motion.cams.get c).inProgress with
  | some x =>
    if x.start.isSome && x.stop.isNone then
      let x := { x with stop := some s.now }
      (makeRecord c x false false false s).mapCam c (Cam.ended x)
    else strayEdge s
  | none => strayEdge s

/-- A camera number (R78). -/
def cameraOf (n : Nat) : Option Camera :=
  match n with
  | 0 => some 0
  | 1 => some 1
  | 2 => some 2
  | 3 => some 3
  | _ => none

/-- A camera's enable changes or stays (R78). -/
def enableCamera (c : Camera) (on : Bool) (s : State) : State :=
  if on = (s.motion.cams.get c).enabled then s
  else computeGrants (lights (if on then setChannel c .idle s else closeEarly c .disabled s))

/-- CAMERA_CONFIG (R78). -/
def cameraConfig (q : Request) (s : State) : Done :=
  let given := (u16 q.body 2).toNat
  match cameraOf (byteAt q.body 0).toNat with
  | none => .refused s .outOfRange
  | some c =>
    let s := enableCamera c (switchOn (byteAt q.body 1)) (s.mapCam c fun k => { k with request := clampCode given })
    .ok s (.camera (s.motion.cams.get c).enabled (s.motion.cams.get c).request (clampCode given != given))

/-! ## Wear (R85) -/

/-- The wear state takes a meaning: WEAR_CHANGED is raised and the change handed over (R85). -/
def changeWear (w : Wear) (s : State) : State :=
  let s' := raise .motionHub (.wearChanged s.motion.wear w) (s.mapMotion fun m => { m with wear := w })
  wearToPower w (setBlank .wear (wearCondition s') s')

/-- What the accepted level means. -/
def acceptedWear (s : State) : Wear := wearMeaning (s.motion.level.getD false)

/-- One sample of the wear debounce (R85). -/
def Motion.debounce (active : Bool) (m : Motion) : Motion :=
  if m.level = some active then { m with levelRun := bump 16 m.levelRun } else { m with level := some active, levelRun := 1 }

/-- The proximity input is sampled (R85). -/
def sampleProximity (active : Bool) (s : State) : State :=
  let s := (s.mapMotion (Motion.debounce active)).mapClock fun c => { c with proximityDone := true }
  if wearReached s then changeWear (acceptedWear s) s else s

/-- A level at the proximity input, sampled when its tick has come (R85; log 8). -/
def proximityLevel (active : Bool) (s : State) : State :=
  let s := s.mapPins fun p => { p with proximity := active }
  if s.powered && proximityDue s then sampleProximity active s else s

/-! ## MOTION_STATUS (R86) -/

/-- The per-camera part of MOTION_STATUS (R86). -/
def camStatus (s : State) (c : Camera) : CamStatus :=
  let k := s.motion.cams.get c
  ⟨k.enabled, k.request, (s.power.illum.get c).grant, k.drive, k.state, k.context.map fun x => (x.frame, x.trigger)⟩

/-- The content of MOTION_STATUS (R86). -/
def motionStatusOf (s : State) : MotionStatus where
  port := s.motion.port
  start := s.motion.start
  config := s.motion.config
  reading := s.motion.read.isSome
  edgePending := s.motion.edge.isSome
  failures := s.motion.failures
  missed := s.motion.missed
  samples := s.motion.ring.length
  oldest := s.motion.ring.head?.map Sample.tick
  newest := s.motion.ring.getLast?
  decimation := s.motion.decimation
  cams := ⟨camStatus s 0, camStatus s 1, camStatus s 2, camStatus s 3⟩
  wear := s.motion.wear
  level := s.motion.level
  levelRun := s.motion.levelRun
  stored := s.motion.stored
  edgesMissed := s.motion.edgesMissed
  readFailures := s.motion.readFailures
  strayEdges := s.motion.strayEdges

/-- MOTION_STATUS (R86). -/
def motionStatus (_ : Request) (s : State) : Done := .ok s (.motionStatus (motionStatusOf s))

/-! ## Commands -/

/-- MOTION_CONFIG (R68). -/
def execMotionConfig (s : State) : Host.Outcome State Fault Refusal :=
  act (kindDue .motionConfig s) (serveHeld motionWait motionConfig) s

/-- CAMERA_CONFIG (R78). -/
def execCameraConfig (s : State) : Host.Outcome State Fault Refusal :=
  act (kindDue .cameraConfig s) (serve cameraConfig) s

/-- MOTION_STATUS (R86). -/
def execMotionStatus (s : State) : Host.Outcome State Fault Refusal :=
  act (kindDue .motionStatus s) (serve motionStatus) s

/-- EXPOSURE_WINDOW_OPEN (R79). -/
def execExposureWindowOpen (c : Camera) (s : State) : Host.Outcome State Fault Refusal :=
  act (exposeOpenDue s c) (openExposure c) s

/-- EXPOSURE_WINDOW_CLOSE (R79). -/
def execExposureWindowClose (c : Camera) (s : State) : Host.Outcome State Fault Refusal :=
  act (exposeCloseDue s c) (closeExposure c) s

/-- EXPOSURE_DEADLINE (R81). -/
def execExposureDeadline (c : Camera) (s : State) : Host.Outcome State Fault Refusal :=
  act (deadlineDue s c) (closeByDeadline c) s

/-- FRAME_VALID_RISE (R80). -/
def execFrameValidRise (c : Camera) (s : State) : Host.Outcome State Fault Refusal := act true (validRise c) s

/-- FRAME_VALID_FALL (R80). -/
def execFrameValidFall (c : Camera) (s : State) : Host.Outcome State Fault Refusal := act true (validFall c) s

/-- START_TIMER_EXPIRY (R68). -/
def execStartTimerExpiry (s : State) : Host.Outcome State Fault Refusal := act (startDue s) startExpiry s

/-- DATA_READY_EDGE (R70). -/
def execDataReadyEdge (s : State) : Host.Outcome State Fault Refusal := act true dataReady s

/-- IMU_READ_ANSWER (R71): of more than seven values the first seven count (log 26). -/
def execImuReadAnswer (began : Tick) (answer : ImuAnswer) (s : State) : Host.Outcome State Fault Refusal :=
  act (s.motion.port == .running) (readAnswer began answer) s

/-- IMU_READ_TIMEOUT (R71). -/
def execImuReadTimeout (s : State) : Host.Outcome State Fault Refusal := act (readTimeoutDue s) (failRead .timeout) s

/-- IMU_PORT_FAILED (R72): eight consecutive reads have failed. -/
def execImuPortFailed (s : State) : Host.Outcome State Fault Refusal := act (failureReached s) failPort s

/-- SENSOR_DUE (R76): the decimation count has reached the report decimation. -/
def execSensorDue (s : State) : Host.Outcome State Fault Refusal := act (sensorReached s) sensorIsDue s

/-- PROXIMITY_SAMPLE (R85). -/
def execProximitySample (active : Bool) (s : State) : Host.Outcome State Fault Refusal := .next (proximityLevel active s)

/-- WEAR_CHANGED (R85): the debounce run has reached 16 with a new meaning. -/
def execWearChanged (s : State) : Host.Outcome State Fault Refusal := act (wearReached s) (changeWear (acceptedWear s)) s

end Sys2Proof.Machine
end

