-- ==== Sys2Proof/Machine/FrameTimeline.lean ====
section
/-! DEFINITION. Frame Timeline (chapter 1): the commit's checks, clamps and trims, the phase lock, frame starts, running
and stopping, FRAME records and TIMELINE_STATUS. -/

namespace Sys2Proof.Machine

/-! ## The commit (R7 to R10) -/

/-- A scan window is long enough for the panel rows: min(end, P − 20) − start ≥ H_p, where enabled (R7). -/
def scanFits (period rows : Nat) (w : Window) : Bool :=
  !w.on || decide ((rows : Int) ≤ min (w.stop : Int) ((period : Int) - 20) - w.start)

/-- The first failing check of R7. -/
def commitFault (b : Bank) (rows : Nat) : Option CommitCheck :=
  if b.period < 6000 ∨ 20000 < b.period then some .period
  else if 2000 < b.guard then some .guard
  else if b.divider < 1 ∨ 8 < b.divider then some .divider
  else if !scanFits b.period rows b.win.scan.left then some (.scan .left)
  else if !scanFits b.period rows b.win.scan.right then some (.scan .right)
  else none

/-- A channel with its clamp flags. -/
abbrev Flagged := Window × ClampFlags

def ClampFlags.none : ClampFlags := ⟨false, false, false⟩

/-- The end clamp: an end beyond P − 20 becomes P − 20 (R8 step 1). -/
def endClamp (period : Nat) (w : Window) : Flagged :=
  if w.on ∧ period - 20 < w.stop then ({ w with stop := period - 20 }, { ClampFlags.none with endClamped := true })
  else (w, .none)

/-- The zero-width clamp: a channel whose end is at or before its start is disabled (R8 step 2, and the end of step 3). -/
def zeroClamp (x : Flagged) : Flagged :=
  if x.1.on ∧ x.1.stop ≤ x.1.start then ({ x.1 with on := false }, { x.2 with zeroWidth := true }) else x

/-- Steps 1 and 2 of R8. -/
def clampChannel (period : Nat) (w : Window) : Flagged := zeroClamp (endClamp period w)

/-- The strobe move: a strobe that starts before its eye's enabled scan ends starts at the scan's end (R8 step 3). -/
def moveStrobe (scan : Window) (x : Flagged) : Flagged :=
  if scan.on ∧ x.1.on ∧ x.1.start < scan.stop then
    zeroClamp ({ x.1 with start := scan.stop }, { x.2 with movedToScanEnd := true })
  else x

/-- A piece of a counter range, [start, stop), in signed counter values. -/
abbrev Piece := Int × Int

/-- The guarded span of a strobe: [s − G, e + G), for an enabled strobe (R9). -/
def guardedSpan (guard : Nat) (w : Window) : Option Piece :=
  if w.on then some ((w.start : Int) - guard, (w.stop : Int) + guard) else none

/-- A piece less a span: the parts before and after it that have positive length. -/
def cutPiece (span : Piece) (p : Piece) : List Piece :=
  [(p.1, min p.2 span.1), (max p.1 span.2, p.2)].filter fun q => decide (q.1 < q.2)

/-- The pieces less an optional span. -/
def cutPieces (span : Option Piece) (ps : List Piece) : List Piece :=
  match span with
  | some x => ps.flatMap (cutPiece x)
  | none => ps

/-- The longest piece, the earliest among equals (R9). -/
def longestPiece : List Piece → Option Piece
  | [] => none
  | p :: rest =>
    match longestPiece rest with
    | some q => if p.2 - p.1 < q.2 - q.1 then some q else some p
    | none => some p

/-- Guard trimming of an exposure by the two strobes (R9). -/
def trimExposure (guard : Nat) (strobe : PerEye Window) (w : Window) : Window × Trim :=
  if w.on then
    let whole : Piece := ((w.start : Int), (w.stop : Int))
    let pieces := cutPieces (guardedSpan guard strobe.right) (cutPieces (guardedSpan guard strobe.left) [whole])
    match longestPiece pieces with
    | none => (⟨false, w.start, w.stop⟩, .removed)
    | some p => if p = whole then (w, .unchanged) else (⟨true, p.1.toNat, p.2.toNat⟩, .shortened)
  else (w, .unchanged)

/-- L_eff of an eye: min(L, SCAN.start), absent where the scan window is disabled (R10). -/
def latchLead (lead : Nat) (scan : Window) : Option Nat := if scan.on then some (min lead scan.start) else none

/-- The min of R10 takes SCAN.start. -/
def leadClamped (lead : Nat) (scan : Window) : Bool := scan.on && decide (scan.start < lead)

/-- What a commit computes from a bank that passes R7: windows, flags, trims and leads (R8 to R10). -/
def commitOf (b : Bank) (lead : Nat) : Commit :=
  let scanL := clampChannel b.period b.win.scan.left
  let scanR := clampChannel b.period b.win.scan.right
  let strobeL := moveStrobe scanL.1 (clampChannel b.period b.win.strobe.left)
  let strobeR := moveStrobe scanR.1 (clampChannel b.period b.win.strobe.right)
  let expose := b.win.expose.map (clampChannel b.period)
  let trimmed := expose.map fun x => trimExposure b.guard ⟨strobeL.1, strobeR.1⟩ x.1
  { windows := ⟨⟨scanL.1, scanR.1⟩, ⟨strobeL.1, strobeR.1⟩, trimmed.map Prod.fst⟩
    scanFlags := ⟨scanL.2, scanR.2⟩
    strobeFlags := ⟨strobeL.2, strobeR.2⟩
    exposeFlags := expose.map Prod.snd
    trims := trimmed.map Prod.snd
    leads := ⟨latchLead lead scanL.1, latchLead lead scanR.1⟩
    leadClamped := ⟨leadClamped lead scanL.1, leadClamped lead scanR.1⟩ }

/-- The committed bank, its effective windows and its latch leads become active (R5, R11). -/
def Timeline.apply (c : Commit) (t : Timeline) : Timeline :=
  { t with active := t.pendingBank, windows := c.windows, leads := c.leads, waiting := none }

/-- The waiting commit's bank becomes active and its reply is queued (R2 step 1, R11, R14). -/
def switchBank (atFrameStart : Bool) (s : State) : State :=
  match s.tl.waiting with
  | some c =>
    finishWaiting Wait.isCommit .ok (fun _ => .committed c s.tl.frame atFrameStart) (s.mapTl (Timeline.apply c))
  | none => s

/-- TIMELINE_COMMIT (R7 to R11). -/
def timelineCommit (_ : Request) (s : State) : Held :=
  if s.tl.waiting.isSome then ⟨s, some (.busy, .empty)⟩
  else
    match commitFault s.tl.pendingBank s.disp.config.rows with
    | some c => ⟨s, some (.outOfRange, .commitCheck c)⟩
    | none =>
      let c := commitOf s.tl.pendingBank s.disp.config.lead
      if s.tl.running then ⟨s.mapTl fun t => { t with waiting := some c }, none⟩
      else ⟨computeGrants (s.mapTl (Timeline.apply c)), some (.ok, .committed c s.tl.frame false)⟩

/-- TIMELINE_SET (R6). -/
def timelineSet (q : Request) (s : State) : Done :=
  if s.tl.waiting.isSome then .refused s .busy
  else .ok (s.mapTl fun t => { t with pendingBank := parseBank q.body }) .empty

/-! ## Phase lock (R15 to R18) -/

/-- The phase error of a frame start at host time `hf` against an anchor (R16). -/
def phaseError (hf anchor : HostTime) (period : Nat) : Int :=
  (hostDiff hf anchor + (period / 2 : Nat)) % (period : Int) - (period / 2 : Nat)

/-- adj = −truncated(e/2), clamped to −20..+20 (R16). -/
def adjustment (e : Int) : Int := clampInt (-20) 20 (-(truncDiv e 2))

/-- The mode becomes LOCKED: the lock run count has reached 8 in ACQUIRING (R17). -/
def becomePhaseLocked (s : State) : State := changePhase .locked true s

/-- A phase error updates the lock state (R17). -/
def lockPhase (e : Int) (s : State) : State :=
  if e.natAbs ≤ 10 then
    let s := s.mapTl fun t => { t with lockRun := bump 8 t.lockRun }
    if phaseReached s then becomePhaseLocked s else s
  else
    let s := s.mapTl fun t => { t with lockRun := 0 }
    if s.tl.phase = .locked ∧ 100 < e.natAbs then changePhase .acquiring true s else s

/-- The next-period adjustment for the frame now beginning is chosen (R16). -/
def adjustPhase (s : State) : State :=
  match s.tl.anchor with
  | some a =>
    if s.time.synced then
      let e := phaseError (s.time.hostOf s.tl.startTick) a s.tl.active.period
      lockPhase e (s.mapTl fun t => { t with adj := adjustment e, lastError := some e, frameError := some e })
    else s.mapTl fun t => { t with adj := 0, frameError := none }
  | none => s.mapTl fun t => { t with adj := 0, frameError := none }

/-- FRAME_ANCHOR (R15). -/
def frameAnchor (q : Request) (s : State) : Done :=
  if s.time.synced then
    .ok (changePhase .acquiring (s.tl.phase != .acquiring)
      (s.mapTl fun t => { t with anchor := some (u64 q.body 0), lockRun := 0, lastError := none })) .empty
  else .refused s .wrongState

/-! ## FRAME records (R19, R20) -/

/-- The frame in progress as its record describes it when its fields are handed over (R20, R63, R104). -/
def endFrame (cutShort : Bool) (s : State) : EndedFrame where
  record :=
    { frame := s.tl.frame
      tick := s.tl.startTick
      length := s.tl.counter
      period := s.tl.active.period
      adj := s.tl.adj
      phase := s.tl.phase
      error := s.tl.frameError
      cutShort := cutShort
      newBank := s.tl.newBank
      eyes := ⟨eyeFrame s .left, eyeFrame s .right⟩ }
  divider := s.tl.active.divider

/-- The frame's fields are handed over and the per-eye fields cleared for the new frame (R63, R104). -/
def handOver (cutShort : Bool) (s : State) : State := clearFrame (s.mapTl fun t => { t with ended := some (endFrame cutShort s) })

/-- The ended frame's record takes the phase mode as it stands (R20). -/
def Timeline.tellPhase (t : Timeline) : Timeline :=
  { t with ended := t.ended.map fun f => { f with record := { f.record with phase := t.phase } } }

/-- A FRAME record is due: the count returns to 0 and the record of the frame just ended is created (R19). -/
def recordDue (s : State) : State :=
  let s' := s.mapTl fun t => { t with reportCount := 0, ended := none }
  match s.tl.ended with
  | some f => offer (.frame f.record) s'
  | none => s'

/-- The report divider counts the frame just ended (R19). -/
def countFrame (s : State) : State :=
  let s := s.mapTl fun t => { t with reportCount := t.reportCount + 1 }
  if recordReached s then recordDue s else s.mapTl fun t => { t with ended := none }

/-! ## Frame starts (R1, R2, R13) -/

/-- The counter, the frame number, the frame start tick and the windows of the frame now beginning (R1, R3, R4). -/
def Timeline.begin (now : Tick) (t : Timeline) : Timeline :=
  { t with
    running := true
    counter := 0
    frame := t.frame + 1
    startTick := now
    newBank := t.waiting.isSome
    latched := .both false
    scanOpened := .both false
    strobe := .both .before
    expose := .all .before }

/-- A new frame begins: a brownout that ended before it no longer keeps the illuminators dark (R84). -/
def beginFrame (s : State) : State := (s.mapTl (Timeline.begin s.now)).mapMotion fun m => { m with darkened := false }

/-- A frame start in RUN: the ended frame is handed over, then the bank switch, the phase adjustment, the FRAME record,
which sees the adjustment's phase mode, and the latch points (which are views of the windows and leads now active); then
the Power Manager closes the ended frame's average and computes its grants (R2, R128). -/
def startFrame (s : State) : State :=
  let s := adjustPhase (switchBank true (beginFrame (handOver false s)))
  computeGrants (closeAverage (countFrame (s.mapTl Timeline.tellPhase)))

/-! ## Running and stopping (R13, R14) -/

/-- The first enabled effective scan window too short for the rows in force (R13). -/
def runFault (t : Timeline) (rows : Nat) : Option Eye :=
  if !scanFits t.active.period rows t.windows.scan.left then some .left
  else if !scanFits t.active.period rows t.windows.scan.right then some .right
  else none

/-- L_eff is re-derived for each eye (R13). -/
def Timeline.deriveLeads (lead : Nat) (t : Timeline) : Timeline :=
  { t with leads := ⟨latchLead lead t.windows.scan.left, latchLead lead t.windows.scan.right⟩ }

/-- TIMELINE_RUN begins the first frame of a run (R13, R128, R132). -/
def beginRun (s : State) : State :=
  let s := s.mapTl fun t => { t.deriveLeads s.disp.config.lead with reportCount := 0, ended := none }
  computeGrants ((adjustPhase (beginFrame s)).mapPower fun p => { p with sum := 0, count := 0 })

/-- TIMELINE_RUN (R13). -/
def timelineRun (_ : Request) (s : State) : Done :=
  if s.tl.running then .refused s .wrongState
  else
    match runFault s.tl s.disp.config.rows with
    | some e => .refused s .outOfRange (.commitCheck (.scan e))
    | none => .ok (beginRun s) (.run (beginRun s).tl.frame (beginRun s).tl.leads)

/-- The timeline is STOPPED: every window is closed, the counter and the adjustment are 0 (R14). -/
def Timeline.halt (t : Timeline) : Timeline :=
  { t with running := false, counter := 0, adj := 0, strobe := .both .closed, expose := .all .closed }

/-- The stop comes at the frame's end: the frame is ended at its full length without CUT_SHORT (R14). -/
def atFrameEnd (s : State) : Bool := decide (s.tl.frameEnd ≤ s.tl.counter)

/-- The waiting commit is applied at a stop, with the grant computation of a change of the active bank (R14, R128). -/
def commitAtStop (s : State) : State := if s.tl.waiting.isSome then computeGrants (switchBank false s) else s

/-- A latch due at counter 0 that has not been signalled yet (R4). -/
def latchAtStart (e : Eye) (s : State) : State := if s.tl.counter = 0 ∧ latchDue s e then latchEye e s else s

/-- A stop right after a frame start finds the latches due at counter 0 signalled (R4, R14); one not signalled in a step
of its own is signalled in the stop's, the left eye's first (DESIGN CHOICE, log 47). -/
def latchesAtStart (s : State) : State := latchAtStart .right (latchAtStart .left s)

/-- TIMELINE_STOP in RUN ends the current frame (R14, R18, R63, R82, R105, R132). Its FRAME record tells the phase mode
before R18's response to the stop (DESIGN CHOICE, log 37). -/
def stopTimeline (s : State) : State :=
  let s := latchesAtStart s
  let s := handOver (!atFrameEnd s) (stopExposures s)
  let s := countFrame (s.mapTl Timeline.halt)
  let s := lights (stopDisplay s)
  commitAtStop (loosenPhase (closeAverage s))

/-- TIMELINE_STOP (R14). -/
def timelineStop (_ : Request) (s : State) : Done := .ok (if s.tl.running then stopTimeline s else s) .empty

/-! ## Sessions (R18, R23) -/

/-- Session start at the Frame Timeline: the anchor is cleared and the mode becomes FREE (R18, R23). -/
def phaseSessionStart (s : State) : State :=
  changePhase .free (s.tl.phase != .free) (s.mapTl fun t => { t with anchor := none, lockRun := 0 })

/-- Session end: a waiting commit is withdrawn (R11, R23). -/
def withdrawCommit (s : State) : State := s.mapTl fun t => { t with waiting := none }

/-! ## TIMELINE_STATUS (R21) -/

/-- The content of TIMELINE_STATUS (R21). -/
def timelineStatusOf (s : State) : TimelineStatus where
  running := s.tl.running
  counter := s.tl.counter
  frame := s.tl.frame
  startTick := s.tl.startTick
  adj := s.tl.adj
  phase := s.tl.phase
  anchor := s.tl.anchor
  lockRun := s.tl.lockRun
  lastError := s.tl.lastError
  waiting := s.tl.waiting.isSome
  period := s.tl.active.period
  guard := s.tl.active.guard
  divider := s.tl.active.divider
  reportCount := s.tl.reportCount
  windows := s.tl.windows
  latchPoints := ⟨s.tl.latchPoint .left, s.tl.latchPoint .right⟩

/-- TIMELINE_STATUS (R21). -/
def timelineStatus (_ : Request) (s : State) : Done := .ok s (.timelineStatus (timelineStatusOf s))

/-! ## Commands -/

/-- TIMELINE_SET (R6). -/
def execTimelineSet (s : State) : Host.Outcome State Fault Refusal :=
  act (kindDue .timelineSet s) (serve timelineSet) s

/-- TIMELINE_COMMIT (R11). -/
def execTimelineCommit (s : State) : Host.Outcome State Fault Refusal :=
  act (kindDue .timelineCommit s) (serveHeld (fun _ => .commit) timelineCommit) s

/-- TIMELINE_RUN (R13). -/
def execTimelineRun (s : State) : Host.Outcome State Fault Refusal :=
  act (kindDue .timelineRun s) (serve timelineRun) s

/-- TIMELINE_STOP (R14). -/
def execTimelineStop (s : State) : Host.Outcome State Fault Refusal :=
  act (kindDue .timelineStop s) (serve timelineStop) s

/-- FRAME_ANCHOR (R15). -/
def execFrameAnchor (s : State) : Host.Outcome State Fault Refusal :=
  act (kindDue .frameAnchor s) (serve frameAnchor) s

/-- TIMELINE_STATUS (R21). -/
def execTimelineStatus (s : State) : Host.Outcome State Fault Refusal :=
  act (kindDue .timelineStatus s) (serve timelineStatus) s

/-- FRAME_START (R2): the counter has reached P + adj. -/
def execFrameStart (s : State) : Host.Outcome State Fault Refusal := act (frameStartDue s) startFrame s

/-- PHASE_LOCKED (R17): the lock run count has reached 8 in ACQUIRING. -/
def execPhaseLocked (s : State) : Host.Outcome State Fault Refusal := act (phaseReached s) becomePhaseLocked s

/-- FRAME_RECORD_DUE (R19): the report divider count has reached the divider of the frame just ended. -/
def execFrameRecordDue (s : State) : Host.Outcome State Fault Refusal := act (recordReached s) recordDue s

end Sys2Proof.Machine
end

