-- ==== Sys2Proof/Machine/AudioEngine.lean ====
section
/-! DEFINITION. Audio Engine (chapter 6): the codec port and the rate follower, playback, mute causes and the ramp, gain,
capture and AUDIO_STATUS. -/

namespace Sys2Proof.Machine

/-! ## Samples (R115) -/

/-- A 24-bit sample scaled by the current gain: rounded(s × G / 65,536) (R115). -/
def scaleSample (gain : Int) (x : BitVec 24) : Int := roundDiv (x.toInt * gainFactor gain) 65536

/-- A scaled sample under a mute ramp at ramp count `n` (R115). -/
def rampSample (n : Nat) (out : Int) : Int := roundDiv (out * (64 - (n : Int))) 64

/-- A sample in a slot of a width, right-aligned in 32 bits (R115). -/
def placeSample (width : Nat) (out : Int) : BitVec 32 :=
  let x : BitVec 32 := (BitVec.ofInt 24 out).setWidth 32
  if width = 32 then x <<< 8 else if width = 16 then x >>> 8 else x

/-- The eight slots of the playback line in an audio frame: slots 0 and 1 carry the frame, slots 2 to 7 zero (R106). -/
def AudioLine.slots (l : AudioLine) : List (BitVec 32) := [l.left, l.right] ++ List.replicate 6 0

/-- A zero frame (R110, R115). -/
def zeroLine (width : Nat) : AudioLine := ⟨width, 0, 0⟩

/-- A frame with the gain (R115). -/
def gainLine (width : Nat) (gain : Int) (x : Stereo) : AudioLine :=
  ⟨width, placeSample width (scaleSample gain x.left), placeSample width (scaleSample gain x.right)⟩

/-- A frame with gain and ramp (R115). -/
def rampLine (width : Nat) (gain : Int) (n : Nat) (x : Stereo) : AudioLine :=
  ⟨width, placeSample width (rampSample n (scaleSample gain x.left)),
    placeSample width (rampSample n (scaleSample gain x.right))⟩

/-! ## Playback intake (R109) -/

/-- The sequence check (R109). -/
def Audio.checkSequence (seq : BitVec 16) (a : Audio) : Audio :=
  { a with
    gaps := if a.expected.isSome && a.expected != some seq then a.gaps + 1 else a.gaps
    expected := some (seq + 1) }

/-- A block in PRIMING that brings the fill to 96 or more begins playing (R109). -/
def Audio.startPlaying (a : Audio) : Audio :=
  if a.playback = .priming ∧ 96 ≤ a.fifo.length then { a with playback := .playing } else a

/-- A block's frames are appended, as far as they fit in 256; the others are discarded (R109). -/
def appendFrames (seq : BitVec 16) (frames : List Stereo) (s : State) : State :=
  let room := 256 - s.audio.fifo.length
  let lost := frames.length - room
  let s := s.mapAudio fun a =>
    Audio.startPlaying { a with fifo := a.fifo ++ frames.take room, overflowed := a.overflowed + BitVec.ofNat 32 lost }
  raiseIf (decide (0 < lost)) .audioEngine (.audioOverflow seq lost) s

/-- A well-formed block: the sequence check, then by the playback state (R109). -/
def takeBlock (seq : BitVec 16) (frames : List Stereo) (s : State) : State :=
  let s := s.mapAudio (Audio.checkSequence seq)
  match s.audio.playback with
  | .stopped | .muted => s.mapAudio fun a => { a with blocksDiscarded := a.blocksDiscarded + 1 }
  | .priming | .playing | .muting => appendFrames seq frames s

/-- An AUDIO_BLOCK payload reaches the Audio Engine (R109). -/
def receiveBlock (payload : List Byte) (s : State) : State :=
  match parseBlock payload with
  | some (seq, frames) => takeBlock seq frames s
  | none => s.mapAudio fun a => { a with malformed := a.malformed + 1 }

/-! ## The playback frame of a boundary (R110, R114) -/

/-- The ramp ends: the FIFO is emptied, and the state becomes MUTED or PRIMING (R114). -/
def Audio.endRamp (a : Audio) : Audio := { a with fifo := [], playback := if a.mute.any then .muted else .priming }

/-- The mute ramp ends (R114). -/
def endRamp (s : State) : State := s.mapAudio Audio.endRamp

/-- A frame of the mute ramp is sent (R110). -/
def Audio.rampFrame (a : Audio) : Audio :=
  match a.fromPlaying, a.fifo with
  | true, x :: rest =>
    { a with ramp := a.ramp + 1, fifo := rest, line := rampLine a.config.width a.gain (a.ramp + 1) x }
  | _, _ => { a with ramp := a.ramp + 1, line := zeroLine a.config.width }

/-- PLAYING with the FIFO empty: an underrun (R110). -/
def underrun (s : State) : State :=
  let s := s.mapAudio fun a =>
    { a with line := zeroLine a.config.width, underruns := a.underruns + 1, playback := .priming }
  raise .audioEngine (.audioUnderrun s.audio.underruns) s

/-- The playback frame of a boundary (R110). -/
def sendFrame (s : State) : State :=
  match s.audio.playback with
  | .stopped | .priming | .muted => s.mapAudio fun a => { a with line := zeroLine a.config.width }
  | .playing =>
    match s.audio.fifo with
    | x :: rest =>
      s.mapAudio fun a => { a with fifo := rest, line := gainLine a.config.width a.gain x, played := a.played + 1 }
    | [] => underrun s
  | .muting =>
    let s := s.mapAudio Audio.rampFrame
    if rampReached s then endRamp s else s

/-! ## The capture frame of a boundary (R120) -/

/-- The data of a slot of a width as a 24-bit sample (R120). -/
def captureSample (width : Nat) (x : BitVec 32) : BitVec 24 :=
  if width = 32 then (x >>> 8).setWidth 24 else if width = 16 then (x.setWidth 16).setWidth 24 <<< 8 else x.setWidth 24

/-- The capture frame just completed, of slots of a width (R106, R120). -/
def captureFrame (width : Nat) (c : AudioConfig) (tick : Tick) (slots : List (BitVec 32)) : CaptureFrame :=
  ⟨tick, c.slots.map fun i => captureSample width (slots.getD i 0)⟩

/-- A capture frame is stored; a full FIFO loses its oldest, and the first loss of a run raises CAPTURE_DISCARD
(R120). -/
def storeCapture (f : CaptureFrame) (s : State) : State :=
  if s.audio.captured.length < 128 then s.mapAudio fun a => { a with captured := a.captured ++ [f] }
  else
    raiseIf (s.audio.discard == 0) .audioEngine (.captureDiscard ((s.audio.captured.head?.map CaptureFrame.tick).getD 0))
      (s.mapAudio fun a =>
        { a with
          captured := a.captured.drop 1 ++ [f]
          discard := bump 65535 a.discard
          captureLost := a.captureLost + 1 })

/-- The capture frame of a boundary: not stored with capture OFF, at the first boundary after CAPTURE_START, or without
a session (R119, R120). -/
def gatherCapture (width : Nat) (slots : List (BitVec 32)) (s : State) : State :=
  let s' := s.mapAudio fun a => { a with skip := false }
  if s.audio.capturing && !s.audio.skip && s.session then
    storeCapture (captureFrame width s.audio.config s.now slots) s'
  else s'

/-! ## The rate follower (R107) -/

/-- The fill the divider is computed from: that of the FIFO in PLAYING, else 96 (R107). -/
def Audio.followFill (a : Audio) : Int := if a.playback = .playing then a.fifo.length else 96

/-- N = 65,536,000 − rounded(65,536,000 × r / 10^9) − 4 × (fill − 96), clamped (R107). -/
def dividerOf (r fill : Int) : Nat :=
  (clampInt 65516339 65555661 (65536000 - roundDiv (65536000 * r) 1000000000 - 4 * (fill - 96))).toNat

/-- The divider is recomputed (R107). -/
def recomputeDivider (s : State) : State :=
  s.mapAudio fun a => { a with recompute := 0, divider := dividerOf s.time.rate a.followFill }

/-- The frame now beginning is given floor((N + remainder) / 65,536) cycles, and the recompute count increments
(R107). -/
def Audio.timeFrame (a : Audio) : Audio :=
  { a with
    cycles := a.cycles + (a.divider + a.remainder) / 65536
    remainder := (a.divider + a.remainder) % 65536
    recompute := a.recompute + 1 }

/-- The rate follower advances at a boundary (R107). -/
def advanceDivider (s : State) : State :=
  let s := s.mapAudio Audio.timeFrame
  if recomputeReached s then recomputeDivider s else s

/-- An audio frame boundary (R106). The slots of the frame just completed have the width with which it began. -/
def frameBoundary (slots : List (BitVec 32)) (s : State) : State :=
  advanceDivider (gatherCapture s.audio.line.width slots (sendFrame s))

/-- Slots on the capture line, and the boundary when it has come (R106; log 8). -/
def captureLevel (slots : List (BitVec 32)) (s : State) : State :=
  let s := s.mapPins fun p => { p with capture := slots }
  if s.powered && boundaryDue s then frameBoundary slots s else s

/-! ## Requests (R108, R111, R112, R116, R117, R119) -/

/-- AUDIO_CONFIG (R108). -/
def audioConfig (q : Request) (s : State) : Done :=
  if s.audio.playback ≠ .stopped ∨ s.audio.capturing then .refused s .wrongState
  else
    match audioConfigFault q.body with
    | some f => .refused s .outOfRange (.field f)
    | none =>
      let c := parseAudioConfig q.body
      .ok (s.mapAudio fun a => { a with config := c }) (.audioConfig c (framesPerBlock c.channels))

/-- Playback leaves STOPPED (R111). -/
def startPlayback (s : State) : State :=
  computeGrants (s.mapAudio fun a => { a with playback := if a.mute.any then .muted else .priming })

/-- AUDIO_START (R111). -/
def audioStart (_ : Request) (s : State) : Done :=
  let s := if s.audio.playback = .stopped then startPlayback s else s
  .ok s (.playback s.audio.playback s.audio.mute)

/-- Playback enters STOPPED and the FIFO is emptied (R112). -/
def stopPlayback (s : State) : State := computeGrants (s.mapAudio fun a => { a with playback := .stopped, fifo := [] })

/-- AUDIO_STOP (R112). -/
def audioStop (_ : Request) (s : State) : Done :=
  if s.audio.playback = .stopped then .ok s (.emptied 0) else .ok (stopPlayback s) (.emptied s.audio.fifo.length)

/-- AUDIO_VOLUME (R116). -/
def audioVolume (q : Request) (s : State) : Done :=
  let given := (u16 q.body 0).toInt
  let s := s.mapAudio fun a => { a with requested := clampInt (-180) 0 given }
  .ok s (.volume s.audio.requested (clampInt (-180) 0 given != given) s.audio.requestedLevel s.audio.ceiling s.audio.target)

/-- AUDIO_MUTE with mute on (R117). -/
def audioMuteOn (_ : Request) (s : State) : Done :=
  let s := setMute .host true s
  .ok s (.playback s.audio.playback s.audio.mute)

/-- AUDIO_MUTE with mute off (R117). -/
def audioMuteOff (_ : Request) (s : State) : Done :=
  let s := setMute .host false s
  .ok s (.playback s.audio.playback s.audio.mute)

/-- CAPTURE_START (R119). -/
def captureStart (_ : Request) (s : State) : Done :=
  let s := if s.audio.capturing then s else s.mapAudio fun a => { a with capturing := true, skip := true }
  .ok s (.capture s.audio.config.channels (framesPerBlock s.audio.config.channels))

/-- Capture goes OFF: the FIFO is emptied and the discard count becomes 0 (R119). -/
def stopCapture (s : State) : State :=
  s.mapAudio fun a => { a with capturing := false, skip := false, captured := [], discard := 0 }

/-- CAPTURE_STOP (R119). -/
def captureStop (_ : Request) (s : State) : Done :=
  if s.audio.capturing then .ok (stopCapture s) (.emptied s.audio.captured.length) else .ok s (.emptied 0)

/-! ## Gain (R118) -/

/-- The current gain moves one half-dB step toward the target (R118). -/
def Audio.stepGain (a : Audio) : Audio :=
  if a.gain < a.target then { a with gain := a.gain + 1 }
  else if a.target < a.gain then { a with gain := a.gain - 1 }
  else a

/-- The gain step of a multiple of 1,000 ticks (R118). -/
def stepGain (s : State) : State := (s.mapAudio Audio.stepGain).mapClock fun c => { c with gainDone := true }

/-! ## The codec fault input (R113) -/

/-- The fault input asserts (R113). -/
def assertFault (s : State) : State := raise .audioEngine (.audioFault s.now) (setMute .codec true s)

/-- The fault input deasserts (R113). -/
def deassertFault (s : State) : State := setMute .codec false s

/-- The fault input is asserted and the CODEC cause is not present: the input asserts now (R113; log 20). -/
def faultDue (s : State) : Bool := s.pins.codecFault && !s.audio.mute.codec

/-- The fault input is deasserted and the CODEC cause is present (R113). -/
def faultClearDue (s : State) : Bool := !s.pins.codecFault && s.audio.mute.codec

/-- A level at the fault input (R113; log 8). -/
def faultLevel (asserted : Bool) (s : State) : State :=
  let s := s.mapPins fun p => { p with codecFault := asserted }
  if s.powered && faultDue s then assertFault s
  else if s.powered && faultClearDue s then deassertFault s
  else s

/-! ## CAPTURE blocks (R121) -/

/-- The frames the next CAPTURE block takes (R121). -/
def Audio.blockFrames (a : Audio) : List CaptureFrame := a.captured.take (framesPerBlock a.config.channels)

/-- The FIFO and the discard count after a block is made from its head (R121). -/
def Audio.takeCapture (a : Audio) : Audio :=
  { a with captured := a.captured.drop (framesPerBlock a.config.channels), discard := 0 }

/-! ## AUDIO_STATUS (R122) -/

/-- The content of AUDIO_STATUS (R122). -/
def audioStatusOf (s : State) : AudioStatus where
  playback := s.audio.playback
  ramp := if s.audio.playback = .muting then some (s.audio.fromPlaying, s.audio.ramp) else none
  mute := s.audio.mute
  fill := s.audio.fifo.length
  expected := s.audio.expected
  config := s.audio.config
  divider := s.audio.divider
  remainder := s.audio.remainder
  recompute := s.audio.recompute
  requested := s.audio.requested
  requestedLevel := s.audio.requestedLevel
  ceiling := s.audio.ceiling
  target := s.audio.target
  gain := s.audio.gain
  capturing := s.audio.capturing
  captured := s.audio.captured.length
  discard := s.audio.discard
  played := s.audio.played
  underruns := s.audio.underruns
  overflowed := s.audio.overflowed
  gaps := s.audio.gaps
  blocksDiscarded := s.audio.blocksDiscarded
  malformed := s.audio.malformed
  captureLost := s.audio.captureLost

/-- AUDIO_STATUS (R122). -/
def audioStatus (_ : Request) (s : State) : Done := .ok s (.audioStatus (audioStatusOf s))

/-! ## Commands -/

/-- AUDIO_CONFIG (R108). -/
def execAudioConfig (s : State) : Host.Outcome State Fault Refusal := act (kindDue .audioConfig s) (serve audioConfig) s

/-- AUDIO_START (R111). -/
def execAudioStart (s : State) : Host.Outcome State Fault Refusal := act (kindDue .audioStart s) (serve audioStart) s

/-- AUDIO_STOP (R112). -/
def execAudioStop (s : State) : Host.Outcome State Fault Refusal := act (kindDue .audioStop s) (serve audioStop) s

/-- AUDIO_VOLUME (R116). -/
def execAudioVolume (s : State) : Host.Outcome State Fault Refusal := act (kindDue .audioVolume s) (serve audioVolume) s

/-- AUDIO_MUTE_ON (R117): an AUDIO_MUTE whose mute field is on or is not carried (log 29). -/
def execAudioMuteOn (s : State) : Host.Outcome State Fault Refusal :=
  act (kindDue .audioMute s && muteOnField (oldestBody s)) (serve audioMuteOn) s

/-- AUDIO_MUTE_OFF (R117): an AUDIO_MUTE whose mute field is off. -/
def execAudioMuteOff (s : State) : Host.Outcome State Fault Refusal :=
  act (kindDue .audioMute s && !muteOnField (oldestBody s)) (serve audioMuteOff) s

/-- CAPTURE_START (R119). -/
def execCaptureStart (s : State) : Host.Outcome State Fault Refusal :=
  act (kindDue .captureStart s) (serve captureStart) s

/-- CAPTURE_STOP (R119). -/
def execCaptureStop (s : State) : Host.Outcome State Fault Refusal := act (kindDue .captureStop s) (serve captureStop) s

/-- AUDIO_STATUS (R122). -/
def execAudioStatus (s : State) : Host.Outcome State Fault Refusal := act (kindDue .audioStatus s) (serve audioStatus) s

/-- AUDIO_FRAME_BOUNDARY (R106). -/
def execAudioFrameBoundary (slots : List (BitVec 32)) (s : State) : Host.Outcome State Fault Refusal :=
  .next (captureLevel slots s)

/-- DIVIDER_RECOMPUTE (R107): the recompute count has reached 48. -/
def execDividerRecompute (s : State) : Host.Outcome State Fault Refusal := act (recomputeReached s) recomputeDivider s

/-- MUTE_RAMP_END (R114): the ramp count has reached 64. -/
def execMuteRampEnd (s : State) : Host.Outcome State Fault Refusal := act (rampReached s) endRamp s

/-- GAIN_STEP (R118). -/
def execGainStep (s : State) : Host.Outcome State Fault Refusal := act (gainDue s) stepGain s

/-- CODEC_FAULT_ASSERT (R113). -/
def execCodecFaultAssert (s : State) : Host.Outcome State Fault Refusal := .next (faultLevel true s)

/-- CODEC_FAULT_DEASSERT (R113). -/
def execCodecFaultDeassert (s : State) : Host.Outcome State Fault Refusal := .next (faultLevel false s)

end Sys2Proof.Machine
end

