-- ==== Sys2Proof/Machine/TetherLink.lean ====
section
/-! DEFINITION. Tether Link (chapter 8): the link states, sessions, downstream packets, the bad-packet window, the
upstream superframe and its slots, the placing of reports, and the Link Controller's requests. -/

namespace Sys2Proof.Machine

/-! ## Sessions (R146, R147, R177) -/

/-- The Link Controller at session start (R146). -/
def Link.openSession (l : Link) : Link := { l with state := .up, run := 0, silence := 0, session := l.session + 1 }

/-- A session starts: the link is UP and the start is handed to the blocks; LINK_UP is raised (R146). -/
def startSession (s : State) : State :=
  let s := phaseSessionStart (timebaseSessionStart (s.mapLink Link.openSession))
  let s := setMute .link false (lights (unblank .link s))
  raise .linkController (.linkUp s.link.session false 0) s

/-- The Link Controller at session end: reports and tallies cleared, timers stopped (R147). -/
def Link.closeSession (l : Link) : Link :=
  { l with state := .lost, silence := 0, hold := 0, reports := [], tallies := ⟨0, 0, 0⟩ }

/-- The Request Controller at session end: intake, table and reply queue emptied (R177). -/
def Requests.flush (r : Requests) : Requests := { r with intake := [], table := [], replies := [] }

/-- The Audio Engine's capture at session end (R124). -/
def Audio.dropCapture (a : Audio) : Audio := { a with captured := [], discard := 0 }

/-- The session ends: the link is LOST and the end is handed to the blocks; LINK_LOST is raised (R145, R147, R177). -/
def endSession (s : State) : State :=
  let lost : Detail :=
    .linkLost s.link.session s.req.table.length s.req.replies.length s.link.reports.length
  let s := withdrawCommit ((s.mapLink Link.closeSession).mapReq Requests.flush)
  raise .linkController lost (setMute .link true ((blank .link s).mapAudio Audio.dropCapture))

/-! ## The link state and packets (R143 to R145, R149, R150) -/

/-- A valid packet in HOLD returns the link to UP (R144). -/
def resumeLink (s : State) : State :=
  raise .linkController (.linkUp s.link.session true s.link.hold)
    (s.mapLink fun l => { l with state := .up, silence := 0, hold := 0 })

/-- A valid packet acts on the link state; where the link is then UP it is handed to its owner (R143, R144, R149,
R150). -/
def completeValid (hand : State → State) (s : State) : State :=
  let s := s.mapLink fun l => { l with lastValid := s.now }
  match s.link.state with
  | .down | .lost => s.mapLink fun l => { l with state := .acquire, run := 1 }
  | .acquire =>
    let s := s.mapLink fun l => { l with run := bump 8 l.run }
    if sessionReached s then hand (startSession s) else s
  | .up => hand (s.mapLink fun l => { l with silence := 0 })
  | .hold => hand (resumeLink s)

/-- A bad packet is counted and acts on the acquisition run (R143, R149, R151). -/
def completeBad (s : State) : State :=
  s.mapLink fun l =>
    { l with
      bad := l.bad + 1
      badCount := bump 65535 l.badCount
      run := if l.state = .acquire then 0 else l.run }

/-- Counts a valid packet of its class (R149). -/
def countValid (f : ValidCounts → ValidCounts) (s : State) : State := s.mapLink fun l => { l with valid := f l.valid }

/-- A valid VIDEO packet (R149, R150). -/
def videoPacket (hand : State → State) (s : State) : State :=
  completeValid hand (countValid (fun v => { v with video := v.video + 1 }) s)

/-- A valid AUDIO_BLOCK packet (R109, R149, R150). -/
def audioPacket (payload : List Byte) (s : State) : State :=
  completeValid (receiveBlock payload) (countValid (fun v => { v with audio := v.audio + 1 }) s)

/-- A valid CTRL packet (R149, R150, R161). -/
def ctrlPacket (payload : List Byte) (s : State) : State :=
  completeValid (admitCtrl payload) (countValid (fun v => { v with ctrl := v.ctrl + 1 }) s)

/-- A time mark reaches the Timebase; one whose payload length is not 8 is discarded without processing (R26, R179). -/
def receiveMark (captured : Tick) (payload : List Byte) (s : State) : State :=
  match parseMark payload with
  | some h => processMark captured h s
  | none => s

/-- A valid TIME_MARK packet, with the tick captured at its first byte (R26, R149, R150). -/
def markPacket (age : Nat) (payload : List Byte) (s : State) : State :=
  completeValid (receiveMark (s.capturedTick age) payload) (countValid (fun v => { v with mark := v.mark + 1 }) s)

/-- A valid FILL packet: it has no owner (R149, R150). -/
def fillPacket (s : State) : State := completeValid id (countValid (fun v => { v with fill := v.fill + 1 }) s)

/-- A packet of unknown class: valid for the link state, handed to no block (R149). -/
def unknownPacket (s : State) : State := completeValid id (s.mapLink fun l => { l with unknown := l.unknown + 1 })

/-- The silence timer reaches 200 µs: the link enters HOLD (R144). -/
def enterHold (s : State) : State :=
  raise .linkController (.linkHold s.link.lastValid) (s.mapLink fun l => { l with state := .hold, silence := 0, hold := 0 })

/-! ## Superframes (R39, R151, R152) -/

/-- A bad-packet window ends, and the next begins with the superframe now on the lane (R151). -/
def endWindow (s : State) : State :=
  let first := s.link.windowFirst
  raiseIf (decide (16 ≤ s.link.badCount) && first.isSome) .linkController
    (.linkDegraded s.link.badCount (first.getD 0))
    (s.mapLink fun l => { l with badCount := 0, windowFirst := some l.superframe })

/-- The Link Controller at a superframe start: the number, the slot table and the header (R39, R152). Slots of the
superframe before that are still to be sent, as at the counter's wrap 156 ticks after the last start, are dropped (DESIGN
CHOICE, log 52). -/
def Link.startSuperframe (now : Tick) (sync : Sync) (l : Link) : Link :=
  { l with
    superframe := l.superframe + 1
    table := l.pendingTable.getD l.table
    pendingTable := none
    header := some ⟨l.session, sync, l.superframe + 1, now⟩
    superframeTick := now
    nextSlot := 0
    slots := [] }

/-- A superframe starts; a window may end with it (R151, R152). -/
def startSuperframe (s : State) : State :=
  let s := (s.mapLink (Link.startSuperframe s.now s.time.sync)).mapClock fun c => { c with superframeDone := true }
  if windowEndReached s then endWindow s else s

/-! ## Slots (R154 to R157) -/

/-- The records from the head of a queue that fit, one after another, in `room` bytes (R155). -/
def fitCount {α : Type} (size : α → Nat) : (room : Nat) → List α → Nat
  | _, [] => 0
  | room, x :: rest => if size x ≤ room then fitCount size (room - size x) rest + 1 else 0

/-- The size of a report record in the payload (R155). -/
def Report.size : Report → Nat
  | .sensor _ => 40
  | .exposure _ => 40
  | .frame _ => 80

def Report.stampKind : Report → Stamped
  | .sensor _ => .sensor
  | .exposure _ => .exposure
  | .frame _ => .frame

/-- The tick a record carries as its time of reference (R38). -/
def Report.tick : Report → Tick
  | .sensor r => r.sample.tick
  | .exposure r => r.start
  | .frame r => r.tick

/-- The drop tally of a record's kind (R157). -/
def Tallies.of (t : Tallies) : Report → Nat
  | .sensor _ => t.sensor
  | .exposure _ => t.exposure
  | .frame _ => t.frame

/-- The drop tally of a record's kind returns to 0 (R157). -/
def Tallies.clear (t : Tallies) : Report → Tallies
  | .sensor _ => { t with sensor := 0 }
  | .exposure _ => { t with exposure := 0 }
  | .frame _ => { t with frame := 0 }

/-- A record as placed: host time, ADJUSTED flag, discipline state and drop tally (R38, R157). -/
def placed (r : Report) (s : State) : Placed where
  report := r
  host := (s.time.stampOf r.stampKind r.tick).1
  adjusted := (s.time.stampOf r.stampKind r.tick).2
  sync := s.time.sync
  tally := s.link.tallies.of r

/-- What a placing leaves: the last-reported host time and the drop tally (R38, R157). -/
def afterPlacing (r : Report) (s : State) : State :=
  (s.mapTime fun t => t.stamped r.stampKind r.tick).mapLink fun l => { l with tallies := l.tallies.clear r }

/-- Records placed one after another (R157). -/
def placeReports : List Report → State → List Placed × State
  | [], s => ([], s)
  | r :: rest, s =>
    let next := placeReports rest (afterPlacing r s)
    (placed r s :: next.1, next.2)

/-- A slot drawing on the reply queue (R155, R167). -/
def sendReplies (s : State) : Content × State :=
  let n := fitCount (fun r : Reply => 8 + r.length) 120 s.req.replies
  (.replies (s.req.replies.take n), s.mapReq fun r => { r with replies := r.replies.drop n })

/-- A slot drawing on the event queue (R155, R173). -/
def sendEvents (s : State) : Content × State :=
  let n := fitCount (fun _ : Event => 24) 120 s.req.events
  (.events (s.req.events.take n), s.mapReq fun r => { r with events := r.events.drop n })

/-- A slot drawing on the report queue (R155, R157). -/
def sendReports (s : State) : Content × State :=
  let n := fitCount Report.size 120 s.link.reports
  let out := placeReports (s.link.reports.take n) (s.mapLink fun l => { l with reports := l.reports.drop n })
  (.reports out.1, out.2)

/-- A slot drawing on the capture FIFO: one CAPTURE block (R121, R155). -/
def sendCapture (s : State) : Content × State :=
  let t := (s.audio.captured.head?.map CaptureFrame.tick).getD 0
  let stamp := s.time.stampOf .capture t
  (.capture ⟨t, s.audio.config.channels, s.audio.blockFrames.map CaptureFrame.samples, s.audio.discard, stamp.1, stamp.2,
    s.time.sync⟩, (s.mapTime fun x => x.stamped .capture t).mapAudio Audio.takeCapture)

/-- The queue a class of slot draws on is not empty; an OPEN slot has none of its own (R154). -/
def queueHolds (s : State) : SlotClass → Bool
  | .opened => false
  | .reply => !s.req.replies.isEmpty
  | .event => !s.req.events.isEmpty
  | .sensor => !s.link.reports.isEmpty
  | .capture => !s.audio.captured.isEmpty

/-- The queue a slot is given: its own, or the first not empty of REPLY, EVENT, SENSOR, CAPTURE (R154). -/
def slotQueue (s : State) (c : SlotClass) : Option SlotClass :=
  if queueHolds s c then some c else [SlotClass.reply, .event, .sensor, .capture].find? (queueHolds s)

/-- What a slot carries, and the state after its records have left their queue (R154, R155). -/
def fillSlot (c : SlotClass) (s : State) : Content × State :=
  match slotQueue s c with
  | some .reply => sendReplies s
  | some .event => sendEvents s
  | some .sensor => sendReports s
  | some .capture => sendCapture s
  | some .opened | none => (.filler, s)

/-- The class of the next slot in the table in force. -/
def nextClass (l : Link) : SlotClass := l.table.getD l.nextSlot .opened

/-- The next slot of the superframe begins (R152, R154). -/
def beginSlot (s : State) : State :=
  let out := fillSlot (nextClass s.link) s
  out.2.mapLink fun l =>
    { l with slots := l.slots ++ [⟨s.link.nextSlot, nextClass s.link, out.1⟩], nextSlot := l.nextSlot + 1 }

/-! ## Requests (R153, R158) -/

/-- The first slot of a LINK_SLOTS body that names none of the five classes (R153). -/
def badSlot (body : List Byte) : Option Nat := (List.range 16).find? fun i => (slotClass (byteAt body i)).isNone

/-- The slot table a LINK_SLOTS body gives (R153). -/
def parseSlots (body : List Byte) : List SlotClass := (List.range 16).map fun i => (slotClass (byteAt body i)).getD .opened

/-- LINK_SLOTS (R153). -/
def linkSlots (q : Request) (s : State) : Done :=
  match badSlot q.body with
  | some n => .refused s .outOfRange (.slot n)
  | none =>
    let table := parseSlots q.body
    if table.contains .reply && table.contains .event then
      .ok (s.mapLink fun l => { l with pendingTable := some table }) (.superframe (s.link.superframe + 1))
    else .refused s .outOfRange

/-- The reports of a kind in the queue. -/
def countReports (k : Stamped) (l : Link) : Nat := (l.reports.filter fun r => r.stampKind == k).length

/-- The content of LINK_STATUS (R158). -/
def linkStatusOf (s : State) : LinkStatus where
  state := s.link.state
  session := s.link.session
  run := s.link.run
  sinceValid := tickDiff s.now s.link.lastValid
  held := if s.link.state = .hold then s.link.hold else 0
  superframe := s.link.superframe
  table := s.link.table
  pendingTable := s.link.pendingTable
  fill := s.link.reports.length
  sensors := countReports .sensor s.link
  exposures := countReports .exposure s.link
  frames := countReports .frame s.link
  tallies := s.link.tallies
  badCount := s.link.badCount
  valid := s.link.valid
  bad := s.link.bad
  unknown := s.link.unknown

/-- LINK_STATUS (R158). -/
def linkStatus (_ : Request) (s : State) : Done := .ok s (.linkStatus (linkStatusOf s))

/-! ## Commands -/

/-- FRAME_HEAD (R50). -/
def execFrameHead (payload : List Byte) (s : State) : Host.Outcome State Fault Refusal :=
  act true (videoPacket (receiveHead payload)) s

/-- ROW (R52). -/
def execRow (payload : List Byte) (s : State) : Host.Outcome State Fault Refusal :=
  act true (videoPacket (receiveRow payload)) s

/-- AUDIO_BLOCK (R109). -/
def execAudioBlock (payload : List Byte) (s : State) : Host.Outcome State Fault Refusal := act true (audioPacket payload) s

/-- TIME_MARK (R26). -/
def execTimeMark (age : Nat) (payload : List Byte) (s : State) : Host.Outcome State Fault Refusal :=
  act true (markPacket age payload) s

/-- CTRL (R161). -/
def execCtrl (payload : List Byte) (s : State) : Host.Outcome State Fault Refusal := act true (ctrlPacket payload) s

/-- FILL (R149): its payload is not examined (R178). -/
def execFill (_ : List Byte) (s : State) : Host.Outcome State Fault Refusal := act true fillPacket s

/-- UNKNOWN_CLASS_PACKET (R149). -/
def execUnknownClassPacket (s : State) : Host.Outcome State Fault Refusal := act true unknownPacket s

/-- BAD_PACKET (R149). -/
def execBadPacket (s : State) : Host.Outcome State Fault Refusal := act true completeBad s

/-- MALFORMED_VIDEO_PACKET (R179): a valid VIDEO packet that fits neither layout. -/
def execMalformedVideoPacket (s : State) : Host.Outcome State Fault Refusal := act true (videoPacket countMalformed) s

/-- SESSION_START (R146): the acquisition run has reached 8. -/
def execSessionStart (s : State) : Host.Outcome State Fault Refusal := act (sessionReached s) startSession s

/-- SILENCE_TIMER_EXPIRY (R144). -/
def execSilenceTimerExpiry (s : State) : Host.Outcome State Fault Refusal := act (silenceDue s) enterHold s

/-- HOLD_TIMER_EXPIRY (R145). -/
def execHoldTimerExpiry (s : State) : Host.Outcome State Fault Refusal := act (holdDue s) endSession s

/-- SUPERFRAME_START (R152). -/
def execSuperframeStart (s : State) : Host.Outcome State Fault Refusal := act (superframeDue s) startSuperframe s

/-- BAD_PACKET_WINDOW_END (R151). -/
def execBadPacketWindowEnd (s : State) : Host.Outcome State Fault Refusal := act (windowEndReached s) endWindow s

/-- UPSTREAM_SLOT (R154). -/
def execUpstreamSlot (s : State) : Host.Outcome State Fault Refusal := act (slotDue s) beginSlot s

/-- LINK_SLOTS (R153). -/
def execLinkSlots (s : State) : Host.Outcome State Fault Refusal := act (kindDue .linkSlots s) (serve linkSlots) s

/-- LINK_STATUS (R158). -/
def execLinkStatus (s : State) : Host.Outcome State Fault Refusal := act (kindDue .linkStatus s) (serve linkStatus) s

end Sys2Proof.Machine
end

