-- ==== Sys2Proof/Machine/Device.lean ====
section
/-! DEFINITION. The Request Controller's own requests (section 9.7): identity, status, grants, the fault record and
SYSTEM_RESET. -/

namespace Sys2Proof.Machine

/-! ## DEVICE_IDENTIFY and DEVICE_STATUS (R174) -/

/-- The part code, revision and capacities (R174). -/
def identity : Identity where
  part := 2260
  revision := 1
  sensorRing := 64
  reportQueue := 32
  requestTable := 16
  replyQueue := 32
  eventQueue := 32
  intake := 2
  slots := 16
  cameras := 4
  lineStore := 96
  playbackFifo := 256
  captureFifo := 128

/-- DEVICE_IDENTIFY (R174). -/
def deviceIdentify (_ : Request) (s : State) : Done := .ok s (.identity identity)

/-- The content of DEVICE_STATUS (R174), of the state in which its own packet has left the intake and been counted as taken
(DEDUCED, log 43). -/
def deviceStatusOf (s : State) : DeviceStatus where
  link := s.link.state
  session := s.link.session
  sync := s.time.sync
  running := s.tl.running
  frame := s.tl.frame
  phase := s.tl.phase
  waiting := s.tl.waiting.isSome
  panels := s.disp.eyes.map EyeDisplay.panel
  latches := s.disp.latches
  port := s.motion.port
  camerasEnabled := (s.motion.cams.toList.filter Cam.enabled).length
  wear := s.motion.wear
  playback := s.audio.playback
  mute := s.audio.mute
  capturing := s.audio.capturing
  contract := s.power.contract
  derate := s.power.derate
  brownout := s.power.brownout
  asleep := s.power.asleep
  limited := s.power.limited
  entries := s.req.table.length
  replies := s.req.replies.length
  reserved := s.req.reserved
  intake := s.req.intake.length
  events := s.req.events.length
  faultHeld := s.req.fault.isSome
  taken := s.req.taken
  refused := s.req.refused
  discarded := s.req.discarded

/-- DEVICE_STATUS (R174). -/
def deviceStatus (_ : Request) (s : State) : Done := .ok s (.deviceStatus (deviceStatusOf s))

/-! ## Grants and the fault record (R169, R171) -/

/-- GRANT_SET (R169). A body with both faults is refused for its client (DEDUCED, log 42). -/
def grantSet (q : Request) (s : State) : Done :=
  let c := (byteAt q.body 0).toNat
  if c = 0 ∨ 3 < c then .refused s .outOfRange (.client c)
  else
    match badPermGroup q.body with
    | some g => .refused s .outOfRange (.group g)
    | none =>
      .ok (s.mapReq fun r => { r with grants := r.grants.set c (parsePerms q.body) })
        (.grants (s.req.grants.get c) (parsePerms q.body))

/-- FAULT_READ (R171). -/
def faultRead (_ : Request) (s : State) : Done := .ok s (.fault s.req.fault)

/-- FAULT_CLEAR (R171). -/
def faultClear (_ : Request) (s : State) : Done := .ok (s.mapReq fun r => { r with fault := none }) (.fault s.req.fault)

/-! ## SYSTEM_RESET (R175) -/

/-- Each entry leaves the table without its own reply; the TAG_IN_USE reply of its duplicates is queued (R166, R175), in
the table's order, oldest entry first (DESIGN CHOICE, log 44). -/
def discardEntries (r : Requests) : Requests := r.table.foldl (fun r e => pushDuplicates e r) { r with table := [] }

/-- The Audio Engine after SYSTEM_RESET: the port keeps running, and a fault input still asserted makes the CODEC cause
present at once (R123). -/
def Audio.systemReset (fault : Bool) (a : Audio) : Audio :=
  { Audio.reset with cycles := a.cycles, line := a.line, mute := { Mutes.none with codec := fault } }

/-- The blocks take their SYSTEM_RESET values (R22, R65, R87, R105, R123, R141, R159; the Timebase keeps its state,
R43). -/
def resetBlocks (s : State) : State :=
  { s with
    tl := .reset
    disp := .reset
    shift := .reset
    motion := .reset
    audio := s.audio.systemReset s.pins.codecFault
    power := s.power.systemReset
    link := { s.link with pendingTable := some defaultSlots } }

/-- SYSTEM_RESET (R175). -/
def systemReset (_ : Request) (s : State) : Done :=
  let n := s.req.table.length
  .ok ((computeGrants (resetBlocks (s.mapReq discardEntries))).mapReq fun r => { r with grants := .none, fault := none })
    (.discarded n)

/-! ## Commands -/

/-- DEVICE_IDENTIFY (R174). -/
def execDeviceIdentify (s : State) : Host.Outcome State Fault Refusal :=
  act (kindDue .deviceIdentify s) (serve deviceIdentify) s

/-- DEVICE_STATUS (R174). -/
def execDeviceStatus (s : State) : Host.Outcome State Fault Refusal :=
  act (kindDue .deviceStatus s) (serve deviceStatus) s

/-- SYSTEM_RESET (R175). -/
def execSystemReset (s : State) : Host.Outcome State Fault Refusal := act (kindDue .systemReset s) (serve systemReset) s

/-- GRANT_SET (R169). -/
def execGrantSet (s : State) : Host.Outcome State Fault Refusal := act (kindDue .grantSet s) (serve grantSet) s

/-- FAULT_READ (R171). -/
def execFaultRead (s : State) : Host.Outcome State Fault Refusal := act (kindDue .faultRead s) (serve faultRead) s

/-- FAULT_CLEAR (R171). -/
def execFaultClear (s : State) : Host.Outcome State Fault Refusal := act (kindDue .faultClear s) (serve faultClear) s

end Sys2Proof.Machine
end

