-- ==== Sys2Proof/Decode.lean ====
section
/-! DEFINITION. From raw packets to commands: the judgement of a delimited downstream packet (R149, R178, R179), and the
packet that carries a command. spec/opcode_table.json gives no row any bits, so `decodeTableWord` spells none. -/

namespace Sys2Proof

/-- The command a word of the table's bits spells: the table gives no bits, so no word spells a command (log 28). -/
def decodeTableWord (_nbits _w : Nat) : Option Instr := none

namespace Packet

open Sys2Proof.Machine

/-- The payload of a delimited packet: what lies between the 4-byte header and the 4-byte CRC-32 (R178). -/
def payload (bytes : List Byte) : List Byte := (bytes.drop 4).take (bytes.length - 8)

/-- What the CRC-32 covers: header and payload (R178). -/
def covered (bytes : List Byte) : List Byte := bytes.take (bytes.length - 4)

/-- The delimited size is 8 plus the header's payload length (R178). -/
def sizeGood (bytes : List Byte) : Bool := decide (8 ≤ bytes.length) && bytes.length == 8 + (u16 bytes 2).toNat

/-- The CRC-32 passes (R178). -/
def crcGood (bytes : List Byte) : Bool := u32 bytes (bytes.length - 4) == crc32 (covered bytes)

/-- A valid VIDEO packet by its subtype (R178, R179). -/
def videoCommand (subtype : Byte) (p : List Byte) : Instr :=
  if subtype = 1 then .frameHead p else if subtype = 2 then .row p else .malformedVideoPacket

/-- A valid packet by its class (R149, R178). -/
def classCommand (age : Nat) (cls subtype : Byte) (p : List Byte) : Instr :=
  if cls = 1 then videoCommand subtype p
  else if cls = 2 then .audioBlock p
  else if cls = 3 then .ctrl p
  else if cls = 4 then .timeMark age p
  else if cls = 5 then .fill p
  else .unknownClassPacket

/-- A delimited packet whose first byte arrived `age` ticks ago, judged at the arrival of its last (R149, R178; log 46). -/
def decode (age : Nat) (bytes : List Byte) : Instr :=
  if sizeGood bytes && crcGood bytes then classCommand age (byteAt bytes 0) (byteAt bytes 1) (payload bytes)
  else .badPacket

/-- A packet of a class and subtype around a payload (R178). -/
def frame (cls subtype : Byte) (p : List Byte) : List Byte :=
  let covered := [cls, subtype] ++ leBytes 2 p.length ++ p
  covered ++ leBytes 4 (crc32 covered).toNat

/-- A packet that carries a packet command, with subtype 0 where none is examined; `none` for a command that no packet
carries. -/
def encode : Instr → Option (List Byte)
  | .frameHead p => some (frame 1 1 p)
  | .row p => some (frame 1 2 p)
  | .malformedVideoPacket => some (frame 1 0 [])
  | .audioBlock p => some (frame 2 0 p)
  | .ctrl p => some (frame 3 0 p)
  | .timeMark _ p => some (frame 4 0 p)
  | .fill p => some (frame 5 0 p)
  | .unknownClassPacket => some (frame 0 0 [])
  | .badPacket => some []
  | _ => none

end Packet

end Sys2Proof
end

