-- ==== Sys2Proof/Machine/Dispatch.lean ====
section
/-! DEFINITION. The meaning of every command: one arm for each constructor of `Instr`. -/

namespace Sys2Proof.Machine

def exec (i : Instr) (s : State) : Host.Outcome State Fault Refusal :=
  match i with
  | .startUp mv => Sys2Proof.Machine.execStartUp mv s
  | .powerOnReset mv => Sys2Proof.Machine.execPowerOnReset mv s
  | .frameHead payload => Sys2Proof.Machine.execFrameHead payload s
  | .row payload => Sys2Proof.Machine.execRow payload s
  | .audioBlock payload => Sys2Proof.Machine.execAudioBlock payload s
  | .timeMark age payload => Sys2Proof.Machine.execTimeMark age payload s
  | .syncLock e => Sys2Proof.Machine.execSyncLock e s
  | .ctrl payload => Sys2Proof.Machine.execCtrl payload s
  | .fill payload => Sys2Proof.Machine.execFill payload s
  | .unknownClassPacket => Sys2Proof.Machine.execUnknownClassPacket s
  | .badPacket => Sys2Proof.Machine.execBadPacket s
  | .sessionStart => Sys2Proof.Machine.execSessionStart s
  | .silenceTimerExpiry => Sys2Proof.Machine.execSilenceTimerExpiry s
  | .holdTimerExpiry => Sys2Proof.Machine.execHoldTimerExpiry s
  | .superframeStart => Sys2Proof.Machine.execSuperframeStart s
  | .badPacketWindowEnd => Sys2Proof.Machine.execBadPacketWindowEnd s
  | .upstreamSlot => Sys2Proof.Machine.execUpstreamSlot s
  | .unknownKind => Sys2Proof.Machine.execUnknownKind s
  | .deviceIdentify => Sys2Proof.Machine.execDeviceIdentify s
  | .deviceStatus => Sys2Proof.Machine.execDeviceStatus s
  | .systemReset => Sys2Proof.Machine.execSystemReset s
  | .grantSet => Sys2Proof.Machine.execGrantSet s
  | .faultRead => Sys2Proof.Machine.execFaultRead s
  | .faultClear => Sys2Proof.Machine.execFaultClear s
  | .linkSlots => Sys2Proof.Machine.execLinkSlots s
  | .linkStatus => Sys2Proof.Machine.execLinkStatus s
  | .timeStatus => Sys2Proof.Machine.execTimeStatus s
  | .timelineSet => Sys2Proof.Machine.execTimelineSet s
  | .timelineCommit => Sys2Proof.Machine.execTimelineCommit s
  | .timelineRun => Sys2Proof.Machine.execTimelineRun s
  | .timelineStop => Sys2Proof.Machine.execTimelineStop s
  | .frameAnchor => Sys2Proof.Machine.execFrameAnchor s
  | .timelineStatus => Sys2Proof.Machine.execTimelineStatus s
  | .displayConfig => Sys2Proof.Machine.execDisplayConfig s
  | .displayDrive => Sys2Proof.Machine.execDisplayDrive s
  | .panelPowerOn => Sys2Proof.Machine.execPanelPowerOn s
  | .panelPowerOff => Sys2Proof.Machine.execPanelPowerOff s
  | .displayBlank => Sys2Proof.Machine.execDisplayBlank s
  | .displayResume => Sys2Proof.Machine.execDisplayResume s
  | .displayStatus => Sys2Proof.Machine.execDisplayStatus s
  | .lateShift => Sys2Proof.Machine.execLateShift s
  | .motionConfig => Sys2Proof.Machine.execMotionConfig s
  | .cameraConfig => Sys2Proof.Machine.execCameraConfig s
  | .motionStatus => Sys2Proof.Machine.execMotionStatus s
  | .audioConfig => Sys2Proof.Machine.execAudioConfig s
  | .audioStart => Sys2Proof.Machine.execAudioStart s
  | .audioStop => Sys2Proof.Machine.execAudioStop s
  | .audioVolume => Sys2Proof.Machine.execAudioVolume s
  | .audioMuteOn => Sys2Proof.Machine.execAudioMuteOn s
  | .audioMuteOff => Sys2Proof.Machine.execAudioMuteOff s
  | .captureStart => Sys2Proof.Machine.execCaptureStart s
  | .captureStop => Sys2Proof.Machine.execCaptureStop s
  | .audioStatus => Sys2Proof.Machine.execAudioStatus s
  | .powerContract => Sys2Proof.Machine.execPowerContract s
  | .powerPolicy => Sys2Proof.Machine.execPowerPolicy s
  | .powerStatus => Sys2Proof.Machine.execPowerStatus s
  | .frameStart => Sys2Proof.Machine.execFrameStart s
  | .phaseLocked => Sys2Proof.Machine.execPhaseLocked s
  | .frameRecordDue => Sys2Proof.Machine.execFrameRecordDue s
  | .derateUp => Sys2Proof.Machine.execDerateUp s
  | .derateDown => Sys2Proof.Machine.execDerateDown s
  | .latch eye => Sys2Proof.Machine.execLatch eye s
  | .videoStall eye => Sys2Proof.Machine.execVideoStall eye s
  | .scanWindowOpen eye => Sys2Proof.Machine.execScanWindowOpen eye s
  | .scanRow eye => Sys2Proof.Machine.execScanRow eye s
  | .strobeWindowOpen eye => Sys2Proof.Machine.execStrobeWindowOpen eye s
  | .strobeWindowClose eye => Sys2Proof.Machine.execStrobeWindowClose eye s
  | .exposureWindowOpen cam => Sys2Proof.Machine.execExposureWindowOpen cam s
  | .exposureWindowClose cam => Sys2Proof.Machine.execExposureWindowClose cam s
  | .exposureDeadline cam => Sys2Proof.Machine.execExposureDeadline cam s
  | .frameValidRise cam => Sys2Proof.Machine.execFrameValidRise cam s
  | .frameValidFall cam => Sys2Proof.Machine.execFrameValidFall cam s
  | .wakeTimerExpiry eye => Sys2Proof.Machine.execWakeTimerExpiry eye s
  | .startTimerExpiry => Sys2Proof.Machine.execStartTimerExpiry s
  | .dataReadyEdge => Sys2Proof.Machine.execDataReadyEdge s
  | .imuReadAnswer began answer => Sys2Proof.Machine.execImuReadAnswer began answer s
  | .imuReadTimeout => Sys2Proof.Machine.execImuReadTimeout s
  | .imuPortFailed => Sys2Proof.Machine.execImuPortFailed s
  | .sensorDue => Sys2Proof.Machine.execSensorDue s
  | .proximitySample active => Sys2Proof.Machine.execProximitySample active s
  | .wearChanged => Sys2Proof.Machine.execWearChanged s
  | .sleepTimerExpiry => Sys2Proof.Machine.execSleepTimerExpiry s
  | .holdoverCoarse => Sys2Proof.Machine.execHoldoverCoarse s
  | .holdoverUnsynced => Sys2Proof.Machine.execHoldoverUnsynced s
  | .audioFrameBoundary slots => Sys2Proof.Machine.execAudioFrameBoundary slots s
  | .dividerRecompute => Sys2Proof.Machine.execDividerRecompute s
  | .muteRampEnd => Sys2Proof.Machine.execMuteRampEnd s
  | .gainStep => Sys2Proof.Machine.execGainStep s
  | .codecFaultAssert => Sys2Proof.Machine.execCodecFaultAssert s
  | .codecFaultDeassert => Sys2Proof.Machine.execCodecFaultDeassert s
  | .inputMonitorSample mv ma => Sys2Proof.Machine.execInputMonitorSample mv ma s
  | .brownoutBegin => Sys2Proof.Machine.execBrownoutBegin s
  | .brownoutEnd => Sys2Proof.Machine.execBrownoutEnd s
  | .malformedVideoPacket => Sys2Proof.Machine.execMalformedVideoPacket s

end Sys2Proof.Machine
end

