-- ==== Sys2Proof/Machine/Schedule.lean ====
section
/-! DEFINITION. What the part does by itself when no command waits: the events that are due, the choice among them, and
the passing of one device tick (log 2, log 3). -/

namespace Sys2Proof.Machine

/-- An event, when it is due. -/
def dueIf (c : Bool) (i : Instr) : List Instr := if c then [i] else []

/-- The row of the table by which a request of a kind is taken. -/
def takingOf (k : Kind) (body : List Byte) : Instr :=
  match k with
  | .deviceIdentify => .deviceIdentify
  | .deviceStatus => .deviceStatus
  | .systemReset => .systemReset
  | .grantSet => .grantSet
  | .faultRead => .faultRead
  | .faultClear => .faultClear
  | .linkSlots => .linkSlots
  | .linkStatus => .linkStatus
  | .timeStatus => .timeStatus
  | .timelineSet => .timelineSet
  | .timelineCommit => .timelineCommit
  | .timelineRun => .timelineRun
  | .timelineStop => .timelineStop
  | .frameAnchor => .frameAnchor
  | .timelineStatus => .timelineStatus
  | .displayConfig => .displayConfig
  | .displayDrive => .displayDrive
  | .panelPower => if powerOnField body then .panelPowerOn else .panelPowerOff
  | .displayBlank => .displayBlank
  | .displayResume => .displayResume
  | .displayStatus => .displayStatus
  | .lateShift => .lateShift
  | .motionConfig => .motionConfig
  | .cameraConfig => .cameraConfig
  | .motionStatus => .motionStatus
  | .audioConfig => .audioConfig
  | .audioStart => .audioStart
  | .audioStop => .audioStop
  | .audioVolume => .audioVolume
  | .audioMute => if muteOnField body then .audioMuteOn else .audioMuteOff
  | .captureStart => .captureStart
  | .captureStop => .captureStop
  | .audioStatus => .audioStatus
  | .powerContract => .powerContract
  | .powerPolicy => .powerPolicy
  | .powerStatus => .powerStatus

/-- The taking of the oldest request, as a command. -/
def takeCommand (s : State) : Instr :=
  match oldestRow s with
  | some row => takingOf row.kind (oldestBody s)
  | none => .unknownKind

/-- The events of an eye that are due. -/
def dueOfEye (s : State) (e : Eye) : List Instr :=
  dueIf (latchDue s e) (.latch e) ++ dueIf (scanOpenDue s e) (.scanWindowOpen e) ++ dueIf (scanRowDue s e) (.scanRow e) ++
    dueIf (strobeOpenDue s e) (.strobeWindowOpen e) ++ dueIf (strobeCloseDue s e) (.strobeWindowClose e) ++
    dueIf (wakeDue s e) (.wakeTimerExpiry e)

/-- The events of a camera that are due. -/
def dueOfCamera (s : State) (c : Camera) : List Instr :=
  dueIf (exposeOpenDue s c) (.exposureWindowOpen c) ++ dueIf (exposeCloseDue s c) (.exposureWindowClose c) ++
    dueIf (deadlineDue s c) (.exposureDeadline c)

/-- The events of the whole part that are due. -/
def dueOfPart (s : State) : List Instr :=
  dueIf (frameStartDue s) .frameStart ++ dueIf (startDue s) .startTimerExpiry ++
    dueIf (readTimeoutDue s) .imuReadTimeout ++ dueIf (silenceDue s) .silenceTimerExpiry ++
    dueIf (holdDue s) .holdTimerExpiry ++ dueIf (superframeDue s) .superframeStart ++ dueIf (slotDue s) .upstreamSlot ++
    dueIf (proximityDue s) (.proximitySample s.pins.proximity) ++ dueIf (gainDue s) .gainStep ++
    dueIf (monitorDue s) (.inputMonitorSample s.pins.mv s.pins.ma) ++
    dueIf (boundaryDue s) (.audioFrameBoundary s.pins.capture) ++ dueIf (faultDue s) .codecFaultAssert ++
    dueIf (faultClearDue s) .codecFaultDeassert ++ dueIf (sleepDue s) .sleepTimerExpiry ++
    dueIf (holdoverCoarseDue s) .holdoverCoarse ++ dueIf (holdoverUnsyncedDue s) .holdoverUnsynced ++
    dueIf (takeDue s) (takeCommand s)

/-- Every event of the part that is due now. -/
def dueEvents (s : State) : List Instr :=
  dueOfPart s ++ dueOfEye s .left ++ dueOfEye s .right ++ dueOfCamera s 0 ++ dueOfCamera s 1 ++ dueOfCamera s 2 ++
    dueOfCamera s 3

/-- The clock after one tick: the counter wraps to 0 after 2^48 − 1, and nothing is done at the new tick yet (R25). -/
def Clock.advance (c : Clock) : Clock :=
  ⟨c.tick + 1, c.wrapped || c.tick == 281474976710655, false, false, false, false, false⟩

/-- The frame counter advances in RUN (R1). -/
def Timeline.advance (t : Timeline) : Timeline := if t.running then { t with counter := t.counter + 1 } else t

/-- A wake timer counts down in WAKING (R44). -/
def EyeDisplay.advance (d : EyeDisplay) : EyeDisplay := if d.panel = .waking then { d with wake := d.wake - 1 } else d

/-- The start timer counts down in STARTING (R68). -/
def Motion.advance (m : Motion) : Motion := if m.port = .starting then { m with start := m.start - 1 } else m

/-- The silence timer runs in UP and the hold timer in HOLD (R144). -/
def Link.advance (l : Link) : Link :=
  match l.state with
  | .up => { l with silence := l.silence + 1 }
  | .hold => { l with hold := l.hold + 1 }
  | _ => l

/-- The sleep timer runs while it is started (R138). -/
def Power.advance (p : Power) : Power := { p with sleepTimer := p.sleepTimer.map (· + 1) }

/-- A tick is 48 oscillator cycles of the audio frame in progress (R25, R107). -/
def Audio.advance (a : Audio) : Audio := { a with cycles := a.cycles - 48 }

/-- One device tick passes. -/
def advance (s : State) : State :=
  { s with
    clock := s.clock.advance
    tl := s.tl.advance
    disp := { s.disp with eyes := s.disp.eyes.map EyeDisplay.advance }
    motion := s.motion.advance
    link := s.link.advance
    power := s.power.advance
    audio := s.audio.advance }

/-- The part by itself: an event that is due, the choice among several being a free value; with none due, one device tick
passes (log 2, log 3). -/
def runPart (s : State) : Host.Outcome State Fault Refusal :=
  match dueEvents s with
  | [] => .next (advance s)
  | [i] => exec i s
  | i :: j :: rest =>
    exec ((i :: j :: rest).getD (Config.chooseEvent s.free % (rest.length + 2)) i) (s.mapFree (· + 1))

/-- What a step does when no command waits. A part held in reset starts when its input is above 9,000 mV, and otherwise
stands still (R136, R176; log 5). -/
def idle (s : State) : Host.Outcome State Fault Refusal :=
  if s.powered then runPart s
  else if 9000 < s.pins.mv then exec (.startUp s.pins.mv) s
  else .next s

end Sys2Proof.Machine
end

