-- ==== Sys2Proof/Machine/Format.lean ====
section
/-! DEFINITION. The bytes of the upstream lane (sections 10.3 to 10.5): the superframe header, slots, records, events and
replies, with their codes. -/

namespace Sys2Proof.Machine

/-! ## Codes (section 10.5) -/

def Sync.code : Sync → Nat
  | .unsynced => 0
  | .coarse => 1
  | .locked => 2

def PhaseMode.code : PhaseMode → Nat
  | .free => 0
  | .acquiring => 1
  | .locked => 2

def SyncCause.code : SyncCause → Nat
  | .firstMark => 1
  | .lock => 2
  | .error => 3
  | .step => 4
  | .restart => 5
  | .holdover => 6
  | .sessionStart => 7

def Cause.code : Cause → Nat
  | .link => 1
  | .power => 2
  | .wear => 3
  | .stallLeft => 4
  | .stallRight => 5
  | .host => 6

def Wear.code : Wear → Nat
  | .unknown => 0
  | .worn => 1
  | .removed => 2

def Port.code : Port → Nat
  | .off => 0
  | .starting => 1
  | .running => 2
  | .failed => 3

def ReadCause.code : ReadCause → Nat
  | .timeout => 1
  | .malformed => 2

def SleepCause.code : SleepCause → Nat
  | .timeout => 1
  | .worn => 2
  | .policy => 3

def Group.code : Group → Nat
  | .device => 1
  | .link => 2
  | .display => 3
  | .motion => 4
  | .audio => 5
  | .power => 6

def ShiftSource.code : ShiftSource → Nat
  | .none => 0
  | .host => 1
  | .hostLate => 2
  | .auto => 3

def Source.code : Source → Nat
  | .linkController => 1
  | .requestController => 2
  | .timebase => 3
  | .frameTimeline => 4
  | .displayOutput => 5
  | .motionHub => 6
  | .audioEngine => 7
  | .powerManager => 8
  | .eye .left => 16
  | .eye .right => 17
  | .camera c => 32 + c.val

def SlotClass.code : SlotClass → Nat
  | .opened => 0
  | .sensor => 1
  | .capture => 2
  | .reply => 3
  | .event => 4

/-! ## Bytes -/

/-- A flag as bit `i` of a byte. -/
def flag (b : Bool) (i : Nat) : Nat := if b then 2 ^ i else 0

/-- A bit vector as `n` bytes, least significant first. -/
def bvBytes {w : Nat} (n : Nat) (x : BitVec w) : List Byte := leBytes n x.toNat

/-- Bytes followed by zeros up to a length (R180). -/
def padTo (n : Nat) (l : List Byte) : List Byte := l ++ List.replicate (n - l.length) 0

/-! ## Report records (section 10.4) -/

/-- A SENSOR record (section 10.4); flag bits that its table does not name are sent as 0 (DESIGN CHOICE, log 45). -/
def sensorBytes (p : Placed) (r : SensorRecord) : List Byte :=
  leBytes 1 1 ++ leBytes 1 (flag p.adjusted 0) ++ leBytes 1 p.sync.code ++ bvBytes 6 r.sample.tick ++
    leBytes 2 r.missed ++ bvBytes 8 p.host ++
    leSigned 3 r.sample.gyro.yaw ++ leSigned 3 r.sample.gyro.pitch ++ leSigned 3 r.sample.gyro.roll ++
    leSigned 2 r.sample.accel.yaw ++ leSigned 2 r.sample.accel.pitch ++ leSigned 2 r.sample.accel.roll ++
    leSigned 2 r.sample.temperature ++ leBytes 4 p.tally

/-- An EXPOSURE record (section 10.4); flag bits that its table does not name are sent as 0 (DESIGN CHOICE, log 45). -/
def exposureBytes (p : Placed) (r : ExposureRecord) : List Byte :=
  leBytes 1 2 ++
    leBytes 1 (flag p.adjusted 0 + flag r.noResponse 1 + flag r.noEnd 2 + flag r.cutShort 3 + flag r.lateStart 4) ++
    leBytes 1 p.sync.code ++ leBytes 1 r.camera.val ++ bvBytes 4 r.frame ++ bvBytes 6 r.start ++ bvBytes 6 r.trigger ++
    bvBytes 6 (r.stop.getD 0) ++ leBytes 2 r.drive ++ bvBytes 8 p.host ++ leBytes 4 p.tally

/-- The eye block of a FRAME record (section 10.4); flag bits that its table does not name are sent as 0 (DESIGN CHOICE,
log 45). -/
def eyeBytes (f : EyeFrame) : List Byte :=
  leBytes 1 (flag f.id.isSome 0 + flag f.lit 1) ++ leBytes 1 f.shift.source.code ++
    leBytes 1 (flag f.shift.clamp 0 + flag f.shift.short 1 + flag f.shift.limit 2 + flag f.shift.noData 3 +
      flag f.shift.noSync 4) ++ leBytes 1 0 ++ bvBytes 2 (f.id.getD 0) ++ leSigned 2 f.shift.sx ++
    leSigned 2 f.shift.sy ++ leBytes 2 f.repeats

/-- A FRAME record (section 10.4); flag bits that its table does not name are sent as 0 (DESIGN CHOICE, log 45). -/
def frameBytes (p : Placed) (r : FrameRecord) : List Byte :=
  leBytes 1 3 ++
    leBytes 1 (flag p.adjusted 0 + flag r.cutShort 1 + flag r.newBank 2 + flag r.error.isSome 3) ++
    leBytes 1 p.sync.code ++ leBytes 1 r.phase.code ++ bvBytes 4 r.frame ++ bvBytes 6 r.tick ++ bvBytes 8 p.host ++
    leBytes 2 r.length ++ leBytes 2 r.period ++ leSigned 1 r.adj ++ leBytes 1 0 ++ leSigned 2 (r.error.getD 0) ++
    leBytes 4 p.tally ++ eyeBytes r.eyes.left ++ eyeBytes r.eyes.right ++ leBytes 22 0

/-- A report record as placed (R181). -/
def placedBytes (p : Placed) : List Byte :=
  match p.report with
  | .sensor r => sensorBytes p r
  | .exposure r => exposureBytes p r
  | .frame r => frameBytes p r

/-- A CAPTURE block (section 10.4, R181); bits 6 and 7 of byte 0 are sent as 0 (DESIGN CHOICE, log 45). -/
def captureBytes (b : CaptureBlock) : List Byte :=
  leBytes 1 (b.channels - 1 + flag b.adjusted 2 + flag (decide (0 < b.discard)) 3 + b.sync.code * 16) ++
    leBytes 1 b.frames.length ++ leBytes 2 b.discard ++ bvBytes 4 (b.tick.setWidth 32) ++ bvBytes 8 b.host ++
    b.frames.flatMap fun f => f.flatMap (bvBytes 3)

/-! ## Events (sections 10.4 and 10.5) -/

/-- The detail of an event as bytes, before the padding to 8 (section 10.5). A byte that says whether something is present
(SYNC_CHANGED byte 3, PHASE_LOCK_CHANGED byte 1, POWER_LIMITED byte 6) is 1 for present and 0 for absent, for which the
section names no value (DESIGN CHOICE, log 49). -/
def Detail.bytes : Detail → List Byte
  | .linkUp session resumed held => bvBytes 1 session ++ leBytes 1 (if resumed then 2 else 1) ++ leBytes 4 held
  | .linkHold last => bvBytes 6 last
  | .linkLost session requests replies reports =>
    bvBytes 1 session ++ leBytes 1 requests ++ leBytes 1 replies ++ leBytes 1 reports
  | .linkDegraded count first => leBytes 2 count ++ bvBytes 2 first
  | .syncChanged before after cause error =>
    leBytes 1 before.code ++ leBytes 1 after.code ++ leBytes 1 cause.code ++ leBytes 1 (flag error.isSome 0) ++
      leSigned 4 (saturate32 (error.getD 0))
  | .markRejected spacing difference => leSigned 4 spacing ++ leSigned 4 difference
  | .phaseLockChanged mode error =>
    leBytes 1 mode.code ++ leBytes 1 (flag error.isSome 0) ++ leSigned 2 (error.getD 0)
  | .displayBlanked cause => leBytes 1 cause.code
  | .videoStall run => leBytes 2 run
  | .frameDropped dropped new => bvBytes 2 dropped ++ bvBytes 2 new
  | .wearChanged before after => leBytes 1 before.code ++ leBytes 1 after.code
  | .cameraNoResponse frame trigger => bvBytes 4 frame ++ bvBytes 4 (trigger.setWidth 32)
  | .imuFault cause count port => leBytes 1 cause.code ++ leBytes 1 count ++ leBytes 1 port.code
  | .audioUnderrun underruns => bvBytes 4 underruns
  | .audioOverflow sequence discarded => bvBytes 2 sequence ++ leBytes 1 discarded
  | .audioFault tick => bvBytes 6 tick
  | .captureDiscard tick => bvBytes 6 tick
  | .powerLimited fs fi level derate available overContract =>
    leBytes 1 fs ++ leBytes 1 fi ++ leBytes 1 level.rank ++ leBytes 1 derate ++ leSigned 2 available ++
      leBytes 1 (flag overContract 0)
  | .brownout mv => leBytes 2 mv
  | .overdraw average contract derate => leBytes 4 average ++ leBytes 2 contract ++ leBytes 1 derate
  | .sleepChanged asleep cause => leBytes 1 (flag asleep 0) ++ leBytes 1 cause.code
  | .accessFault client kind group => bvBytes 1 client ++ [kind] ++ leBytes 1 group.code
  | .ctrlOverrun discarded => bvBytes 4 discarded

/-- An EVENT record (section 10.4). -/
def eventBytes (e : Event) : List Byte :=
  leBytes 1 e.detail.code ++ leBytes 1 e.source.code ++ leBytes 1 e.count ++ leBytes 1 0 ++ bvBytes 6 e.first ++
    bvBytes 6 e.last ++ padTo 8 e.detail.bytes

/-! ## Replies (section 10.3) -/

/-- The client and tag byte of a request or a reply (section 10.2); bits 6 and 7 are sent as 0 (DESIGN CHOICE, log 45). -/
def clientTag (client : BitVec 2) (tag : BitVec 4) : Byte := (0 : BitVec 2) ++ client ++ tag

/-- A REPLY record: header and body; the body's bytes are free values (section 10.3; log 9). -/
def replyBytes (r : Reply) : List Byte :=
  [clientTag r.client r.tag, r.kind] ++ leBytes 1 r.status.code ++ leBytes 1 r.length ++ bvBytes 4 (r.taken.setWidth 32) ++
    (List.range r.length).map (Config.replyBodyByte r.serial)

/-! ## Slots and superframes (R180) -/

/-- The content code of a slot (R180). -/
def Content.code : Content → Nat
  | .filler => 0
  | .replies _ => 1
  | .events _ => 2
  | .reports _ => 3
  | .capture _ => 4

/-- The count of a slot header (R180). -/
def Content.count : Content → Nat
  | .filler => 0
  | .replies rs => rs.length
  | .events es => es.length
  | .reports rs => rs.length
  | .capture b => b.frames.length

/-- The payload of a slot before its padding (R180). -/
def Content.bytes : Content → List Byte
  | .filler => []
  | .replies rs => rs.flatMap replyBytes
  | .events es => es.flatMap eventBytes
  | .reports rs => rs.flatMap placedBytes
  | .capture b => captureBytes b

/-- A slot's header and padded payload (R180); bit 7 of header byte 1 is sent as 0 (DESIGN CHOICE, log 45). -/
def Slot.body (x : Slot) : List Byte :=
  leBytes 1 x.content.code ++ leBytes 1 (x.number % 16 + x.cls.code * 16) ++ leBytes 1 x.content.count ++ leBytes 1 0 ++
    padTo 120 x.content.bytes

/-- A slot as sent: 128 bytes with its CRC-32 (R180). -/
def Slot.bytes (x : Slot) : List Byte := x.body ++ bvBytes 4 (crc32 x.body)

/-- A superframe header before its CRC-32 (R180). -/
def SuperframeHeader.body (h : SuperframeHeader) : List Byte :=
  bvBytes 1 h.session ++ leBytes 1 h.sync.code ++ bvBytes 2 h.number ++ bvBytes 6 h.tick ++ leBytes 2 0

/-- A superframe header as sent: 16 bytes (R180). -/
def SuperframeHeader.bytes (h : SuperframeHeader) : List Byte := h.body ++ bvBytes 4 (crc32 h.body)

/-- What the upstream lane has sent of the superframe in progress. -/
def State.lane (s : State) : List Byte :=
  ((s.link.header.map SuperframeHeader.bytes).getD []) ++ s.link.slots.flatMap Slot.bytes

end Sys2Proof.Machine
end

