-- ==== Sys2Proof/Safety.lean ====
section
/-! DEFINITION. What counts as a sound state, and the terms in which statements speak of a request that is taken and of the
reply it leaves. -/

namespace Sys2Proof.Machine

/-! ## Invariants of the part -/

/-- No two queued event records have the same kind and source (R172). -/
def EventsDistinct (s : State) : Prop :=
  s.req.events.Pairwise fun a b => ¬ (a.source = b.source ∧ a.detail.code = b.detail.code)

/-- The queues and FIFOs hold no more than their capacities (R74, R109, R120, R156, R161). -/
def QueuesBounded (s : State) : Prop :=
  s.link.reports.length ≤ 32 ∧ s.req.intake.length ≤ 2 ∧ s.motion.ring.length ≤ 64 ∧ s.audio.fifo.length ≤ 256 ∧
    s.audio.captured.length ≤ 128

/-- The request table holds at most 16 entries, no two with the same client and tag, none with those of a queued reply,
and the replies queued and the places reserved are at most 32 (R162, R164, R167). -/
def TableSound (s : State) : Prop :=
  s.req.table.length ≤ 16 ∧
    s.req.table.Pairwise (fun a b => ¬ (a.client = b.client ∧ a.tag = b.tag)) ∧
    (∀ e ∈ s.req.table, ∀ r ∈ s.req.replies, ¬ (r.client = e.client ∧ r.tag = e.tag)) ∧
    s.req.replies.length + s.req.reserved ≤ 32

/-- The rate estimate stays within −200,000..+200,000 ppb (R31). -/
def RateSound (s : State) : Prop := -200000 ≤ s.time.rate ∧ s.time.rate ≤ 200000

/-- Both line stores have their canonical form: slots strictly rising, each below 96 (R52). -/
def StoresSound (s : State) : Prop := s.disp.eyes.left.lines.wf = true ∧ s.disp.eyes.right.lines.wf = true

/-- Every variable grant is zero (R129). -/
def NothingGranted (p : Power) : Prop :=
  (∀ e, (p.strobe.get e).grant = 0) ∧ (∀ c, (p.illum.get c).grant = 0) ∧ p.audioGrant = .l0

/-- The fixed loads and the costs of the variable grants do not exceed the contract, except while the fixed loads alone
exceed it; then every variable grant is zero (R129). It says nothing of a part held in reset. -/
def WithinContract (s : State) : Prop :=
  if 0 ≤ s.available then
    s.fixedSum + variableTotal s.power.strobe s.power.illum s.power.audioCost ≤ s.power.contract
  else NothingGranted s.power

/-- No enabled exposure window lies within the guard of an enabled strobe window (R9). -/
def Guarded (w : Windows) (guard : Nat) : Prop :=
  ∀ (c : Camera) (e : Eye), (w.expose.get c).on = true → (w.strobe.get e).on = true →
    ((w.expose.get c).stop : Int) ≤ ((w.strobe.get e).start : Int) - guard ∨
      (w.strobe.get e).stop + guard ≤ (w.expose.get c).start

/-- The active windows keep the active guard, and those of a waiting commit the guard of the bank it will apply (R9,
R11). -/
def GuardSound (s : State) : Prop :=
  Guarded s.tl.windows s.tl.active.guard ∧ ∀ c, s.tl.waiting = some c → Guarded c.windows s.tl.pendingBank.guard

/-- A latched shift within the margins of the configuration in force (R102). -/
def withinMargins (c : DisplayConfig) (x : Shift) : Prop :=
  -(c.marginX : Int) ≤ x.sx ∧ x.sx ≤ c.marginX ∧ -(c.marginY : Int) ≤ x.sy ∧ x.sy ≤ c.marginY

/-- Every latched shift lies within the margins, and none is latched while the timeline is STOPPED (R63, R102). -/
def ShiftSound (s : State) : Prop :=
  ∀ e, withinMargins s.disp.config (s.disp.eyes.get e).shift ∧
    (s.tl.running = false → (s.disp.eyes.get e).shift = .zero)

/-- Every strobe and illuminator follows its lighting condition: lit at its grant while the condition holds, with the
eye's STROBE_LIT set, and dark otherwise (R61, R62, R84). -/
def LightsSound (s : State) : Prop :=
  (∀ e, (s.disp.eyes.get e).drive = (if strobeLit s e then (s.power.strobe.get e).grant else 0) ∧
    (strobeLit s e = true → (s.disp.eyes.get e).lit = true)) ∧
  ∀ c, (s.motion.cams.get c).drive = if illumLit s c then (s.power.illum.get c).grant else 0

/-- Ticks strictly rise from each to the next, and none lies after `now`, by the signed difference of R25. -/
def Rising (ticks : List Tick) (now : Tick) : Prop :=
  (∀ i a b, ticks[i]? = some a → ticks[i + 1]? = some b → 0 < tickDiff b a) ∧ ∀ x ∈ ticks, 0 ≤ tickDiff now x

/-- Each of some ticks is less than 2^47 − 1 ticks ago, as far as the signed difference of R25 tells before from after. -/
def Recent (ticks : List Tick) (now : Tick) : Prop := ∀ x ∈ ticks, tickDiff now x < 140737488355327

/-- The ticks of the edges the Motion Hub holds, oldest first: of the ring's samples, of the read in flight and of the
pending edge (R70, R71, R74). -/
def edgeTicks (m : Motion) : List Tick :=
  m.ring.map Sample.tick ++ (m.read.map ReadInFlight.edge).toList ++ m.edge.toList

/-- The ring's ticks strictly rise, and so do those of the edges still to be read; none lies at a tick whose edge is still to
come, and an edge is pending only behind a read (R70, R74; log 41). -/
def SamplesRise (s : State) : Prop :=
  Rising (edgeTicks s.motion) s.now ∧
    (s.now ∈ edgeTicks s.motion → s.clock.edgeDone = true) ∧
    (s.motion.read = none → s.motion.edge = none)

/-- The capture FIFO's ticks strictly rise, and a frame with the tick of now comes only from a boundary after which a whole
audio frame is still to run (R107, R120). -/
def CaptureRises (s : State) : Prop :=
  Rising (s.audio.captured.map CaptureFrame.tick) s.now ∧
    (s.now ∈ s.audio.captured.map CaptureFrame.tick → 48 ≤ s.audio.cycles) ∧
    65516339 ≤ s.audio.divider

/-- Small counts and settings stay in their ranges (R16, R17, R32, R49, R78, R116, R118, R133). -/
def RangesSound (s : State) : Prop :=
  s.time.lockCount ≤ 4 ∧ s.tl.lockRun ≤ 8 ∧ -20 ≤ s.tl.adj ∧ s.tl.adj ≤ 20 ∧ s.power.derate ≤ 8 ∧
    (∀ e, (s.disp.eyes.get e).request ≤ 1023) ∧ (∀ c, (s.motion.cams.get c).request ≤ 1023) ∧
    -180 ≤ s.audio.requested ∧ s.audio.requested ≤ 0 ∧ -180 ≤ s.audio.gain ∧ s.audio.gain ≤ 0

/-! ## Packets and sessions as statements speak of them -/

/-- What a valid packet's command counts at the Link Controller, `none` for a command that is no valid packet (R149). -/
def packetCount : Instr → Option (Link → Link)
  | .frameHead _ | .row _ | .malformedVideoPacket =>
    some fun l => { l with valid := { l.valid with video := l.valid.video + 1 } }
  | .audioBlock _ => some fun l => { l with valid := { l.valid with audio := l.valid.audio + 1 } }
  | .ctrl _ => some fun l => { l with valid := { l.valid with ctrl := l.valid.ctrl + 1 } }
  | .timeMark _ _ => some fun l => { l with valid := { l.valid with mark := l.valid.mark + 1 } }
  | .fill _ => some fun l => { l with valid := { l.valid with fill := l.valid.fill + 1 } }
  | .unknownClassPacket => some fun l => { l with unknown := l.unknown + 1 }
  | _ => none

/-- The Link Controller in UP after a valid packet that it counted: the silence timer restarts (R144, R149). -/
def heard (l : Link) (now : Tick) : Link := { l with lastValid := now, silence := 0 }

/-- The Link Controller after a valid VIDEO, AUDIO_BLOCK, CTRL, TIME_MARK or FILL packet in UP. -/
def heardVideo (s : State) : Link := heard { s.link with valid := { s.link.valid with video := s.link.valid.video + 1 } } s.now
def heardAudio (s : State) : Link := heard { s.link with valid := { s.link.valid with audio := s.link.valid.audio + 1 } } s.now
def heardCtrl (s : State) : Link := heard { s.link with valid := { s.link.valid with ctrl := s.link.valid.ctrl + 1 } } s.now
def heardMark (s : State) : Link := heard { s.link with valid := { s.link.valid with mark := s.link.valid.mark + 1 } } s.now
def heardFill (s : State) : Link := heard { s.link with valid := { s.link.valid with fill := s.link.valid.fill + 1 } } s.now

/-- An event added to a Request Controller's event queue when a condition holds (R172). -/
def withEvent (c : Bool) (src : Source) (d : Detail) (t : Tick) (r : Requests) : Requests :=
  if c then { r with events := raiseInto src d t r.events } else r

/-- The state after a blank condition becomes present, in a part whose lights follow their conditions: condition and latch
are set, both strobes are dark, and DISPLAY_BLANKED is raised if no latch was set; nothing changes if it was present
(R57). -/
def blanked (c : Cause) (s : State) : State :=
  if s.disp.present.get c then s
  else
    { s with
      disp := { s.disp with
        eyes := s.disp.eyes.map fun d => { d with drive := 0 }
        present := s.disp.present.set c true
        latches := s.disp.latches.set c true }
      req := withEvent (!s.disp.latches.any) .displayOutput (.displayBlanked c) s.now s.req }

/-- The Audio Engine when the LINK mute cause becomes absent: MUTED moves to PRIMING if it was the last (R114, R124). -/
def linkUnmuted (a : Audio) : Audio :=
  { a with
    mute := { a.mute with link := false }
    playback :=
      if a.mute.link ∧ a.playback = .muted ∧ ¬ (a.mute.host ∨ a.mute.codec ∨ a.mute.power) then .priming
      else a.playback }

/-- The state after a session start, the Link Controller having been as `l`: what each block does and the events raised
(R146, R41, R18, R66, R124). -/
def sessionStarted (l : Link) (s : State) : State :=
  { s with
    link := { l with state := .up, run := 0, silence := 0, session := l.session + 1 }
    time := { s.time with sync := .unsynced, lockCount := 0, reported := ⟨0, 0, 0, 0⟩ }
    tl := { s.tl with anchor := none, lockRun := 0, phase := .free }
    disp := { s.disp with present := { s.disp.present with link := false } }
    audio := linkUnmuted s.audio
    req :=
      withEvent true .linkController (.linkUp (l.session + 1) false 0) s.now
        (withEvent (s.tl.phase != .free) .frameTimeline (.phaseLockChanged .free s.tl.lastError) s.now
          (withEvent (s.time.sync != .unsynced) .timebase (.syncChanged s.time.sync .unsynced .sessionStart none) s.now
            s.req)) }

/-- The state after a first mark (D, H): the reference, the last accepted mark and COARSE (R27). -/
def firstMarked (d : Tick) (h : HostTime) (s : State) : State :=
  { s with
    time := { s.time with sync := .coarse, dRef := d, hRef := h, dLast := d, hLast := h, lockCount := 0, accepted := s.time.accepted + 1 }
    req := withEvent true .timebase (.syncChanged .unsynced .coarse .firstMark none) s.now s.req }

/-! ## The upstream lane as statements speak of it -/

/-- The unsigned value of `n` bytes from an offset, least significant byte first, as a reader of the lane takes it (00, Byte
order). -/
def field (l : List Byte) (offset : Nat) : (n : Nat) → Nat
  | 0 => 0
  | n + 1 => (byteAt l offset).toNat + 256 * field l (offset + 1) n

/-- A slot of class `c` draws on the queue of class `q`: its own where that is not empty, otherwise the first that is not
empty of replies, events, reports and captures (R154). -/
def drawsOn (s : State) (c q : SlotClass) : Prop :=
  queueHolds s q = true ∧
    (q = c ∨ queueHolds s c = false ∧
      ∀ p ∈ [SlotClass.reply, .event, .sensor, .capture].takeWhile (· != q), queueHolds s p = false)

/-- `n` records are as many, from the head of a queue, as fit whole in the 120 bytes of a slot (R155). -/
def fills {α : Type} (size : α → Nat) (n : Nat) (l : List α) : Prop :=
  n ≤ l.length ∧ ((l.take n).map size).sum ≤ 120 ∧ (n < l.length → 120 < ((l.take (n + 1)).map size).sum)

/-! ## Requests as statements speak of them -/

/-- The oldest request of the intake, taken now. -/
def asked (s : State) : Request := parseRequest s.now ((oldest s).getD [])

/-- The oldest request can be taken, is of this kind and passes the checks of R163. -/
def Admitted (k : Kind) (s : State) : Prop :=
  s.powered = true ∧ kindDue k s = true ∧ ∃ row, oldestRow s = some row ∧ judge (asked s) row (popIntake s).req = .pass

/-- The Request Controller after the oldest request is taken and answered: the packet has left the intake, the taking is
counted, and the reply with the request's client, tag, kind and time taken is the newest of the queue; a status other
than OK counts a refusal (R162, R163, R167). -/
def answered (q : Request) (st : Status) (b : ReplyBody) (r : Requests) : Requests :=
  { r with
    intake := r.intake.drop 1
    taken := r.taken + 1
    refused := if st = .ok then r.refused else r.refused + 1
    replies := r.replies ++ [⟨q.client, q.tag, q.kind, st, b, q.taken, bodyLength r.serial q.kind st b, r.serial⟩]
    serial := r.serial + 1 }

/-- The Request Controller after the oldest request is taken and left waiting: its entry is the newest of the table
(R164). -/
def leftWaiting (q : Request) (w : Wait) (r : Requests) : Requests :=
  { r with intake := r.intake.drop 1, taken := r.taken + 1, table := r.table ++ [entryOf q w] }

/-- The deferred reply of an entry's duplicates: TAG_IN_USE to the entry's client and tag, with the kind of the last
duplicate and their count; its time taken is open (R166; log 10). -/
def duplicatesReply (e : Entry) (x : Reply) : Prop :=
  x.client = e.client ∧ x.tag = e.tag ∧ x.kind = e.dupKind ∧ x.status = .tagInUse ∧ x.body = .duplicates e.dups

/-- The replies of entries that leave the table, entry by entry: each its own with status `st`, and right after it, where
duplicates were refused, that of its duplicates (R164, R166). -/
def repliesOf (st : Status) (b : Entry → ReplyBody) : List Entry → List Reply → Prop
  | [], new => new = []
  | e :: es, new => ∃ own later,
      own.client = e.client ∧ own.tag = e.tag ∧ own.kind = e.kind ∧ own.status = st ∧ own.body = b e ∧
        own.taken = e.taken ∧
      ((e.dups = 0 ∧ new = own :: later) ∨ (0 < e.dups ∧ ∃ dup, duplicatesReply e dup ∧ new = own :: dup :: later)) ∧
      repliesOf st b es later

/-- From `r` to `r'` the waiting requests of which `p` holds have ended with status `st`, each with its own body: their
entries have left the table and the others stay, in their order; their replies are queued entry by entry, in the table's
order (log 48); a status other than OK counts each as refused; and nothing else has changed (R163, R164, R166). -/
def waitingEnded (p : Entry → Prop) (st : Status) (b : Entry → ReplyBody) (r r' : Requests) : Prop :=
  ∃ es new, es.Sublist r.table ∧ (∀ e, e ∈ es ↔ e ∈ r.table ∧ p e) ∧ repliesOf st b es new ∧
    r'.table.Sublist r.table ∧ (∀ e, e ∈ r'.table ↔ e ∈ r.table ∧ ¬ p e) ∧
    r' = { r with
      table := r'.table, replies := r.replies ++ new, serial := r'.serial
      refused := if st = .ok then r.refused else r.refused + BitVec.ofNat 32 es.length }

/-- Report records offered one after another while a session is in progress (R19, R82, R156). -/
def offered (rs : List Report) (s : State) : Link :=
  if s.link.state = .up ∨ s.link.state = .hold then rs.foldl (fun l r => l.offer r) s.link else s.link

/-- The record of a camera whose exposure is closed early: it has started and not ended, and none was made (R82, R83). -/
def earlyRecord (s : State) (c : Camera) : Option Report :=
  match (s.motion.cams.get c).state, (s.motion.cams.get c).context with
  | .opened, some x | .closing, some x =>
    if x.recorded = false ∧ x.stop = none then
      x.start.map fun t => .exposure ⟨c, x.frame, t, x.trigger, none, x.drive, false, true, true, x.lateStart⟩
    else none
  | _, _ => none

/-- The FRAME record of the frame in progress, ended now (R20, R63, R104). -/
def frameNow (cutShort : Bool) (s : State) : FrameRecord where
  frame := s.tl.frame
  tick := s.tl.startTick
  length := s.tl.counter
  period := s.tl.active.period
  adj := s.tl.adj
  phase := s.tl.phase
  error := s.tl.frameError
  cutShort := cutShort
  newBank := s.tl.newBank
  eyes :=
    let eye (e : Eye) : EyeFrame :=
      if s.shift.latched.get e then
        ⟨(s.disp.eyes.get e).bound.map Head.id, s.shift.record.get e, (s.disp.eyes.get e).repeats, (s.disp.eyes.get e).lit⟩
      else ⟨none, .zero, (s.disp.eyes.get e).repeats, (s.disp.eyes.get e).lit⟩
    ⟨eye .left, eye .right⟩

/-! ## Cameras, wear, sleep, audio and brownout as statements speak of them -/

/-- The record an exposure makes at its deadline: without a start it is NO_RESPONSE at the trigger tick, without an end
NO_END; a recorded one makes none (R81). -/
def deadlineRecord (c : Camera) (x : Exposure) : List Report :=
  match x.start, x.stop with
  | none, _ => [.exposure ⟨c, x.frame, x.trigger, x.trigger, x.stop, x.drive, true, false, false, x.lateStart⟩]
  | some t, none => [.exposure ⟨c, x.frame, t, x.trigger, none, x.drive, false, true, false, x.lateStart⟩]
  | some _, some _ => []

/-- The state after an exposure is closed as its deadline closes it (R81). -/
def deadlineClosed (c : Camera) (x : Exposure) (s : State) : State :=
  { s with
    motion := { s.motion with
      cams := s.motion.cams.set c { s.motion.cams.get c with state := .idle, context := none } }
    link := offered (deadlineRecord c x) s
    req := withEvent x.start.isNone (.camera c) (.cameraNoResponse x.frame x.trigger) s.now s.req }

/-- A pending edge begins its read at the end of the read before it (R72). -/
def afterRead (now : Tick) (m : Motion) : Motion :=
  { m with read := m.edge.map fun t => ⟨t, now⟩, edge := none }

/-- The Audio Engine when a mute cause becomes present: PLAYING and PRIMING move to MUTING at ramp count 0 (R113). -/
def silenced (c : MuteCause) (a : Audio) : Audio :=
  if a.mute.get c then a
  else
    let ramps := a.playback = .playing ∨ a.playback = .priming
    { a with
      mute := a.mute.set c true
      playback := if ramps then .muting else a.playback
      fromPlaying := if ramps then a.playback == .playing else a.fromPlaying
      ramp := if ramps then 0 else a.ramp }

/-- The Audio Engine when a mute cause becomes absent: MUTED moves to PRIMING if it was the last (R114). -/
def unsilenced (c : MuteCause) (a : Audio) : Audio :=
  if a.mute.get c then
    { a with
      mute := a.mute.set c false
      playback := if a.playback = .muted ∧ (a.mute.set c false).any = false then .priming else a.playback }
  else a

/-- The state after a wake: AWAKE, the panels marked by sleep WAKING, the lights as their conditions say, SLEEP_CHANGED,
and the grants where a panel became a load (R139, R47). -/
def woken (cause : SleepCause) (s : State) : State :=
  let r := lights { s with
    power := { s.power with asleep := false, sleepTimer := if s.motion.wear = .removed then some 0 else none }
    disp := { s.disp with eyes := s.disp.eyes.map fun d =>
      if d.sleepMark then { d with panel := .waking, wake := 30000, sleepMark := false } else d } }
  let r := { r with req := withEvent true .powerManager (.sleepChanged false cause) s.now s.req }
  if s.disp.eyes.left.sleepMark || s.disp.eyes.right.sleepMark then computeGrants r else r

/-- The state after the part goes to sleep, but for the waiting PANEL_POWER that sleep cancels: ASLEEP with the timer
stopped, the powered panels OFF with their marks, every illuminator dark, SLEEP_CHANGED, and the grants where a panel
stopped being a load (R138, R47). -/
def fallenAsleep (s : State) : State :=
  let r : State := { s with
    power := { s.power with asleep := true, sleepTimer := none }
    disp := { s.disp with eyes := s.disp.eyes.map fun d =>
      if d.panel = .off then d else { d with panel := .off, wake := 0, sleepMark := true, scan := none, drive := 0 } }
    motion := { s.motion with cams := s.motion.cams.map fun k => { k with drive := 0 } }
    req := withEvent true .powerManager (.sleepChanged true .timeout) s.now s.req }
  if s.disp.eyes.left.panel ≠ .off ∨ s.disp.eyes.right.panel ≠ .off then computeGrants r else r

/-- The waiting requests that sleep cancels: PANEL_POWER that names an eye whose panel it turns off (R47). -/
def cancelledBySleep (s : State) (x : Entry) : Prop :=
  ∃ l r, x.wait = .panels l r ∧ ((l = true ∧ s.disp.eyes.left.panel ≠ .off) ∨ (r = true ∧ s.disp.eyes.right.panel ≠ .off))

/-- The state after the wear state takes a meaning: WEAR_CHANGED; the WEAR condition, present exactly at REMOVED with wear
blanking on; and the sleep timer started at REMOVED and stopped at WORN, which wakes a part asleep (R85, R138, R139). -/
def wearTaken (w : Wear) (s : State) : State :=
  let r : State := { s with
    motion := { s.motion with wear := w }
    req := withEvent true .motionHub (.wearChanged s.motion.wear w) s.now s.req }
  let b := if w = .removed ∧ s.disp.config.wearBlanking = true then blanked .wear r
    else { r with disp := { r.disp with present := { r.disp.present with wear := false } } }
  if s.power.asleep then (if w = .worn then woken .worn b else b)
  else { b with power := { b.power with sleepTimer := if w = .removed then some 0 else none } }

/-- The state after a brownout begins at an input of `mv`: strobes and illuminators dark, the POWER blank condition and
mute cause present, BROWNOUT (R134). -/
def brownoutBegun (mv : Nat) (s : State) : State :=
  let b := blanked .power { s with
    power := { s.power with brownout := true, highRun := 0 }
    disp := { s.disp with eyes := s.disp.eyes.map fun d => { d with drive := 0 } }
    motion := { s.motion with cams := s.motion.cams.map fun k => { k with drive := 0 } } }
  { b with
    audio := silenced .power s.audio
    req := withEvent true .powerManager (.brownout mv) s.now b.req }

/-- The state after a brownout ends: the POWER condition and mute cause stay only for OVER_CONTRACT and level L0, and the
illuminators stay dark until the next frame start (R135). -/
def brownoutEnded (s : State) : State :=
  { s with
    power := { s.power with brownout := false, lowRun := 0 }
    motion := { s.motion with darkened := true }
    disp := { s.disp with present := { s.disp.present with power := s.power.overContract } }
    audio := if s.power.audioGrant = .l0 then silenced .power s.audio else unsilenced .power s.audio }

/-- The derate level goes up: OVERDRAW tells the average, the contract and the level (R133). -/
def derated (s : State) : State :=
  { s with
    power := { s.power with overdraw := 0, derate := min 8 (s.power.derate + 1) }
    req := withEvent true .powerManager (.overdraw s.power.average s.power.contract (min 8 (s.power.derate + 1))) s.now s.req }

end Sys2Proof.Machine
end

