-- ==== Sys2Proof/WellFormed.lean ====
section
/-! DEFINITION. The commands that the outside can send: the operands' ranges. A meaning never looks at this; it is what
statements about encodings and about the ranges of inputs take as their premise. -/

namespace Sys2Proof.WellFormed

/-- A payload's length fits the 16-bit length field of a packet header (R178). -/
def payloadFits (p : List Byte) : Bool := decide (p.length ≤ 65535)

/-- A voltage in mV or a current in mA fits 16 bits, the width of a voltage in an event's detail (section 10.5; log 8). -/
def fits16 (n : Nat) : Bool := decide (n < 65536)

/-- A packet's age is less than a turn of the 48-bit tick counter (R25; log 46). -/
def fits48 (n : Nat) : Bool := decide (n < 281474976710656)

/-- The operands of a command lie in the ranges the manual gives them: a packet's payload fits its length field (R178), a
SYNC_LOCK's error is one that locks (R32), an IMU answer carries at most seven values (R71), an audio frame has eight
slots (R106), a mark's age is below a turn of the tick counter (R25), and a voltage or a current fits 16 bits. -/
def check (i : Instr) : Bool :=
  match i with
  | .startUp mv => fits16 mv
  | .powerOnReset mv => fits16 mv
  | .frameHead p => payloadFits p
  | .row p => payloadFits p
  | .audioBlock p => payloadFits p
  | .timeMark age p => fits48 age && payloadFits p
  | .syncLock e => decide (e.natAbs ≤ 50)
  | .ctrl p => payloadFits p
  | .fill p => payloadFits p
  | .imuReadAnswer _ answer => decide (answer.values.length ≤ 7)
  | .audioFrameBoundary slots => slots.length == 8
  | .inputMonitorSample mv ma => fits16 mv && fits16 ma
  | .unknownClassPacket | .badPacket | .sessionStart | .silenceTimerExpiry | .holdTimerExpiry
  | .superframeStart | .badPacketWindowEnd | .upstreamSlot | .unknownKind | .deviceIdentify | .deviceStatus
  | .systemReset | .grantSet | .faultRead | .faultClear | .linkSlots | .linkStatus | .timeStatus | .timelineSet
  | .timelineCommit | .timelineRun | .timelineStop | .frameAnchor | .timelineStatus | .displayConfig
  | .displayDrive | .panelPowerOn | .panelPowerOff | .displayBlank | .displayResume | .displayStatus
  | .lateShift | .motionConfig | .cameraConfig | .motionStatus | .audioConfig | .audioStart | .audioStop
  | .audioVolume | .audioMuteOn | .audioMuteOff | .captureStart | .captureStop | .audioStatus | .powerContract
  | .powerPolicy | .powerStatus | .frameStart | .phaseLocked | .frameRecordDue | .derateUp | .derateDown
  | .latch _ | .videoStall _ | .scanWindowOpen _ | .scanRow _ | .strobeWindowOpen _ | .strobeWindowClose _
  | .exposureWindowOpen _ | .exposureWindowClose _ | .exposureDeadline _ | .frameValidRise _
  | .frameValidFall _ | .wakeTimerExpiry _ | .startTimerExpiry | .dataReadyEdge | .imuReadTimeout
  | .imuPortFailed | .sensorDue | .proximitySample _ | .wearChanged | .sleepTimerExpiry | .holdoverCoarse
  | .holdoverUnsynced | .dividerRecompute | .muteRampEnd | .gainStep | .codecFaultAssert | .codecFaultDeassert
  | .brownoutBegin | .brownoutEnd | .malformedVideoPacket => true

end Sys2Proof.WellFormed
end

