-- ==== Sys2Proof/Certificates/Slice0/Obligations.lean ====
section
/-! DEFINITION. The statements for the provers. -/

open Sys2Proof Sys2Proof.Machine

/-! ## Steps, start and reset -/

/-- A step with a command waiting runs that command's meaning on the state with the queue's rest. -/
def Obligations.StepRunsFront : Prop :=
  ∀ (c : Instr) (rest : List Instr) (s : State), s.pending = c :: rest → step s = exec c (s.withPending rest)

/-- With no command waiting a part that runs does one of the events that are due, and a part held in reset starts when
its input is above 9,000 mV and otherwise stands still: the model's choice (log 2, log 3, log 5). The events due are,
each exactly while its condition holds, those of the timeline's windows and latches, of the timers, of the superframe and
its slots, of the inputs sampled and of the intake; they rest on these choices: a latch comes before its scan (log 18),
a slot begins in the tick that contains its instant (log 23), tick 0 is a multiple of 100 and of 1,000 (log 54), an audio
boundary comes in the tick with fewer than 48 oscillator cycles left to it (log 15), the inputs that the part samples by
itself, and the input voltage at which it starts, are the levels that the last commands left at the pins (log 8), and a
level at the codec fault input that differs from the CODEC cause is an edge still to come (log 20) (R3, R4, R33, R132, R152, R162).
With no event due one device tick passes: the tick counter, the frame counter in RUN, and each timer that runs, move by
one, the marks of what has been done at the tick are cleared, and nothing else changes but the audio frame's remaining
oscillator cycles (R1, R25, R44, R68, R138, R144). -/
def Obligations.IdleRunsDueEventOrTick : Prop :=
  (∀ (s : State) (i : Instr), i ∈ dueEvents s ↔
    let c := s.tl.counter
    let live : Prop := s.tl.running = true
    let opens (w : Window) (p : WindowPhase) : Prop := live ∧ w.on = true ∧ p = .before ∧ w.start ≤ c
    let closes (w : Window) (p : WindowPhase) : Prop := live ∧ p = .opened ∧ w.stop ≤ c
    let each (n : Nat) (done : Bool) : Prop := s.now.toNat % n = 0 ∧ done = false
    match i with
    | .frameStart => live ∧ (s.tl.active.period : Int) + s.tl.adj ≤ c ∧ (∀ e, s.tl.strobe.get e ≠ .opened) ∧
        ∀ k, s.tl.expose.get k ≠ .opened
    | .latch e => live ∧ s.tl.latched.get e = false ∧ (s.tl.windows.scan.get e).on = true ∧
        ∃ lead, s.tl.leads.get e = some lead ∧ (s.tl.windows.scan.get e).start - lead ≤ c
    | .scanWindowOpen e => live ∧ (s.tl.windows.scan.get e).on = true ∧ s.tl.scanOpened.get e = false ∧
        s.tl.latched.get e = true ∧ (s.tl.windows.scan.get e).start ≤ c
    | .scanRow e => live ∧ ∃ k, (s.disp.eyes.get e).scan = some k ∧ k < s.disp.config.rows ∧
        (let w := s.tl.windows.scan.get e
         w.start + k * (w.stop - w.start) / s.disp.config.rows ≤ c)
    | .strobeWindowOpen e => opens (s.tl.windows.strobe.get e) (s.tl.strobe.get e)
    | .strobeWindowClose e => closes (s.tl.windows.strobe.get e) (s.tl.strobe.get e)
    | .wakeTimerExpiry e => (s.disp.eyes.get e).panel = .waking ∧ (s.disp.eyes.get e).wake = 0
    | .exposureWindowOpen k => opens (s.tl.windows.expose.get k) (s.tl.expose.get k)
    | .exposureWindowClose k => closes (s.tl.windows.expose.get k) (s.tl.expose.get k)
    | .exposureDeadline k => (s.motion.cams.get k).state = .closing ∧
        ∃ x, (s.motion.cams.get k).context = some x ∧ 0 ≤ tickDiff s.now x.deadline
    | .startTimerExpiry => s.motion.port = .starting ∧ s.motion.start = 0
    | .imuReadTimeout => s.motion.port = .running ∧ ∃ r, s.motion.read = some r ∧ 100 ≤ tickDiff s.now r.began
    | .silenceTimerExpiry => s.link.state = .up ∧ 200 ≤ s.link.silence
    | .holdTimerExpiry => s.link.state = .hold ∧ 20000 ≤ s.link.hold
    | .superframeStart => each 250 s.clock.superframeDone
    | .upstreamSlot => s.link.nextSlot < 16 ∧
        ((s.link.nextSlot * 125 / 8 : Nat) : Int) ≤ tickDiff s.now s.link.superframeTick
    | .proximitySample active => active = s.pins.proximity ∧ each 1000 s.clock.proximityDone
    | .gainStep => each 1000 s.clock.gainDone
    | .inputMonitorSample mv ma => mv = s.pins.mv ∧ ma = s.pins.ma ∧ each 100 s.clock.monitorDone
    | .audioFrameBoundary slots => slots = s.pins.capture ∧ s.audio.cycles < 48
    | .codecFaultAssert => s.pins.codecFault = true ∧ s.audio.mute.codec = false
    | .codecFaultDeassert => s.pins.codecFault = false ∧ s.audio.mute.codec = true
    | .sleepTimerExpiry => s.power.asleep = false ∧ 1 ≤ s.power.timeout ∧
        ∃ n, s.power.sleepTimer = some n ∧ s.power.timeout * 1000000 ≤ n
    | .holdoverCoarse => s.time.sync = .locked ∧ 10000000 ≤ tickDiff s.now s.time.dLast
    | .holdoverUnsynced => s.time.sync = .coarse ∧ 60000000 ≤ tickDiff s.now s.time.dLast
    | _ => i = takeCommand s ∧ s.req.intake ≠ [] ∧
        s.req.replies.length + (s.req.table.map fun e => if e.dups = 0 then 1 else 2).sum < 32) ∧
  ∀ s : State, s.pending = [] →
    (s.powered = true → dueEvents s ≠ [] →
      ∃ i ∈ dueEvents s, step s = exec i s ∨ step s = exec i (s.mapFree (· + 1))) ∧
    (s.powered = false → 9000 < s.pins.mv → step s = exec (.startUp s.pins.mv) s) ∧
    (s.powered = false → s.pins.mv ≤ 9000 → step s = .next s) ∧
    (s.powered = true → dueEvents s = [] →
      ∃ t, step s = .next t ∧
        t.clock = ⟨s.clock.tick + 1, s.clock.wrapped || s.clock.tick == 281474976710655, false, false, false, false,
          false⟩ ∧
        t.tl = { s.tl with counter := if s.tl.running then s.tl.counter + 1 else s.tl.counter } ∧
        t.link = { s.link with
          silence := if s.link.state = .up then s.link.silence + 1 else s.link.silence
          hold := if s.link.state = .hold then s.link.hold + 1 else s.link.hold } ∧
        (∀ e, t.disp.eyes.get e = { s.disp.eyes.get e with
          wake := if (s.disp.eyes.get e).panel = .waking then (s.disp.eyes.get e).wake - 1
            else (s.disp.eyes.get e).wake }) ∧
        t.disp = { s.disp with eyes := t.disp.eyes } ∧
        t.motion = { s.motion with start := if s.motion.port = .starting then s.motion.start - 1 else s.motion.start } ∧
        t.power = { s.power with sleepTimer := s.power.sleepTimer.map (· + 1) } ∧
        t.audio = { s.audio with cycles := s.audio.cycles - 48 } ∧
        t = { s with
          clock := t.clock, tl := t.tl, link := t.link, disp := t.disp, motion := t.motion, power := t.power
          audio := t.audio })

/-- START_UP of a part held in reset, with the input above 9,000 mV: every block at its power-on values and the first
grant computation made, with A = 1,800 and the audio ceiling at L1; otherwise it leaves a running part as it is (log 1)
and a held part held. POWER_ON_RESET below 9,000 mV holds the part with every block at its power-on values, and at or
above 9,000 mV changes nothing (log 1; exactly 9,000 mV: log 25). The waiting commands, the pins and the count of free
choices are the model's own and are kept (log 5, log 8). -/
def Obligations.StartAndPowerOnReset : Prop :=
  ∀ (mv : Nat) (s : State),
    (s.powered = false → 9000 < mv →
      ∃ t, exec (.startUp mv) s = .next t ∧ t.available = 1800 ∧
        t = { State.reset with
          pending := s.pending, powered := true, pins := { s.pins with mv := mv }, free := s.free
          audio := { Audio.reset with ceiling := .l1 } }) ∧
    (s.powered = true → exec (.startUp mv) s = .next s) ∧
    (s.powered = false → mv ≤ 9000 → exec (.startUp mv) s = .next { s with pins := { s.pins with mv := mv } }) ∧
    (mv < 9000 → exec (.powerOnReset mv) s =
      .next { State.reset with pending := s.pending, pins := { s.pins with mv := mv }, free := s.free }) ∧
    (9000 ≤ mv → exec (.powerOnReset mv) s = .next s)

/-! ## Link and sessions -/

/-- In DOWN and LOST a valid packet of any class makes the link ACQUIRE with a run of 1, in ACQUIRE one short of the
eighth increments the run; it is counted and handed to no owner. FILL and UNKNOWN_CLASS_PACKET in UP are counted and
restart the silence timer; BAD_PACKET is counted, in the window too, breaks an acquisition run and changes no link state
(R143, R144, R149). -/
def Obligations.PacketsAndLinkState : Prop :=
  (∀ (c : Instr) (f : Link → Link) (s : State), packetCount c = some f → s.powered = true →
    ((s.link.state = .down ∨ s.link.state = .lost) →
      exec c s = .next { s with link := { f s.link with state := .acquire, run := 1, lastValid := s.now } }) ∧
    (s.link.state = .acquire → s.link.run < 7 →
      exec c s = .next { s with link := { f s.link with run := s.link.run + 1, lastValid := s.now } })) ∧
  ∀ s : State, s.powered = true →
    (s.link.state = .up → ∀ p, exec (.fill p) s = .next { s with link := heardFill s }) ∧
    (s.link.state = .up →
      exec .unknownClassPacket s = .next { s with link := heard { s.link with unknown := s.link.unknown + 1 } s.now }) ∧
    exec .badPacket s = .next { s with link := { s.link with
      bad := s.link.bad + 1
      badCount := if s.link.badCount < 65535 then s.link.badCount + 1 else 65535
      run := if s.link.state = .acquire then 0 else s.link.run } }

/-- A session starts when the acquisition run reaches 8: SESSION_START itself (alone: log 4), and the eighth valid
packet, of whatever class, which then acts as the same packet does in the session so begun: counted, and handed to its
owner, a TIME_MARK as the first mark of the new session. SYNC_CHANGED comes before PHASE_LOCK_CHANGED and LINK_UP (log
13), and LINK_UP tells 0 for the time in HOLD (log 17). The mark's tick is given by its packet's age (log 46) (R146, R41,
R18, R26, R149). -/
def Obligations.SessionStarts : Prop :=
  ∀ s : State, s.powered = true → s.link.state = .acquire → LightsSound s →
    (8 ≤ s.link.run → exec .sessionStart s = .next (sessionStarted s.link s)) ∧
    (s.link.run = 7 → ∀ c f, packetCount c = some f → exec c s = exec c (sessionStarted s.link s)) ∧
    (s.link.run = 7 → ∀ p, exec (.fill p) s = .next (sessionStarted (heardFill s) s)) ∧
    (s.link.run = 7 → ∀ age p h, parseMark p = some h →
      exec (.timeMark age p) s = .next (firstMarked (s.capturedTick age) h (sessionStarted (heardMark s) s)))

/-- 200 µs of silence in UP make the link HOLD and raise LINK_HOLD; a valid packet in HOLD, of whatever class, returns it
to UP and raises LINK_UP with cause RESUMED and the time in HOLD, and then acts as the same packet does in UP: counted,
and handed to its owner (R144, R149, R150). -/
def Obligations.HoldAndResume : Prop :=
  ∀ s : State, s.powered = true →
    (s.link.state = .up → 200 ≤ s.link.silence →
      exec .silenceTimerExpiry s = .next { s with
        link := { s.link with state := .hold, silence := 0, hold := 0 }
        req := withEvent true .linkController (.linkHold s.link.lastValid) s.now s.req }) ∧
    (s.link.state = .hold → ∀ c f, packetCount c = some f → exec c s = exec c { s with
      link := { s.link with state := .up, silence := 0, hold := 0 }
      req := withEvent true .linkController (.linkUp s.link.session true s.link.hold) s.now s.req }) ∧
    (s.link.state = .hold → ∀ p,
      exec (.fill p) s = .next { s with
        link := { heardFill s with state := .up, hold := 0 }
        req := withEvent true .linkController (.linkUp s.link.session true s.link.hold) s.now s.req })

/-- 20,000 µs in HOLD end the session: the link is LOST; reports, tallies, intake, table and replies are emptied without
replies; a waiting commit is withdrawn; the LINK blank condition becomes present, which latches it and darkens the
strobes; the LINK mute cause becomes present; the capture FIFO is emptied; LINK_LOST carries the session and the counts,
and comes after DISPLAY_BLANKED (log 13). The Timebase, the Late Shift Unit, the Power Manager and the Motion Hub are not
changed (R145, R147, R177, R57, R124). -/
def Obligations.SessionEnds : Prop :=
  ∀ s : State, s.powered = true → s.link.state = .hold → 20000 ≤ s.link.hold → LightsSound s →
    let ended : State := blanked .link { s with
      link := { s.link with state := .lost, silence := 0, hold := 0, reports := [], tallies := ⟨0, 0, 0⟩ }
      tl := { s.tl with waiting := none }
      req := { s.req with intake := [], table := [], replies := [] } }
    exec .holdTimerExpiry s = .next { ended with
      audio := { s.audio.muteOn .link with captured := [], discard := 0 }
      req := withEvent true .linkController
        (.linkLost s.link.session s.req.table.length s.req.replies.length s.link.reports.length) s.now ended.req }

/-- The link session does not reach the Power Manager: no packet, no timer of the link and no session start or end
changes its contract, grants, counts, brownout, sleep state or timer (R142). -/
def Obligations.LinkSparesPower : Prop :=
  ∀ (c : Instr) (s t : State),
    ((packetCount c).isSome ∨ c = .badPacket ∨ c = .sessionStart ∨ c = .silenceTimerExpiry ∨ c = .holdTimerExpiry) →
    exec c s = .next t → t.power = s.power

/-- A superframe starts at a multiple of 250 ticks: the number, the slot table, the header, and slot 0 next, whatever was
sent of the superframe before (at the counter's wrap: log 52); and at a number divisible by 4 the bad-packet window ends
and the next begins. BAD_PACKET_WINDOW_END does that part alone (log 4). The window under way at power-on, which no
superframe began, is not judged (log 16) (R151, R152). -/
def Obligations.SuperframesAndWindows : Prop :=
  ∀ s : State, s.powered = true →
    (s.now.toNat % 250 = 0 → s.clock.superframeDone = false →
      let started : State := { s with
        clock := { s.clock with superframeDone := true }
        link := { s.link with
          superframe := s.link.superframe + 1
          table := s.link.pendingTable.getD s.link.table
          pendingTable := none
          header := some ⟨s.link.session, s.time.sync, s.link.superframe + 1, s.now⟩
          superframeTick := s.now
          nextSlot := 0
          slots := [] } }
      exec .superframeStart s =
        if (s.link.superframe + 1).toNat % 4 = 0 ∧ s.link.windowFirst ≠ some (s.link.superframe + 1) then
          .next { started with
            link := { started.link with badCount := 0, windowFirst := some (s.link.superframe + 1) }
            req := withEvent (decide (16 ≤ s.link.badCount) && s.link.windowFirst.isSome) .linkController
              (.linkDegraded s.link.badCount (s.link.windowFirst.getD 0)) s.now s.req }
        else .next started) ∧
    (s.link.superframe.toNat % 4 = 0 → s.link.windowFirst ≠ some s.link.superframe →
      exec .badPacketWindowEnd s = .next { s with
        link := { s.link with badCount := 0, windowFirst := some s.link.superframe }
        req := withEvent (decide (16 ≤ s.link.badCount) && s.link.windowFirst.isSome) .linkController
          (.linkDegraded s.link.badCount (s.link.windowFirst.getD 0)) s.now s.req })

/-- The next slot of the superframe, in the tick that contains its beginning (log 23), draws on its own class's queue, or on the first not empty of replies, events, reports
and captures; it carries as many records from the head of that queue as fit in 120 bytes, which leave the queue, each
report with its stamp, one after another, and the drop tally of its kind, which returns to 0 with the first of the kind;
and a slot that finds every queue empty carries filler (R154, R155, R157, R121). -/
def Obligations.UpstreamSlots : Prop :=
  ∀ s : State, s.powered = true → s.link.nextSlot < 16 → (slotOffset s.link.nextSlot : Int) ≤ tickDiff s.now s.link.superframeTick →
    let c := s.link.table.getD s.link.nextSlot .opened
    let sent (x : Content) (l : Link) : Link :=
      { l with slots := l.slots ++ [⟨s.link.nextSlot, c, x⟩], nextSlot := l.nextSlot + 1 }
    (drawsOn s c .reply → ∃ n, fills (fun r : Reply => 8 + r.length) n s.req.replies ∧
      exec .upstreamSlot s = .next { s with
        link := sent (.replies (s.req.replies.take n)) s.link
        req := { s.req with replies := s.req.replies.drop n } }) ∧
    (drawsOn s c .event →
      exec .upstreamSlot s = .next { s with
        link := sent (.events (s.req.events.take 5)) s.link
        req := { s.req with events := s.req.events.drop 5 } }) ∧
    (drawsOn s c .sensor → ∃ n, fills Report.size n s.link.reports ∧
      let rs := s.link.reports.take n
      let kind (r : Report) : Stamped := match r with | .sensor _ => .sensor | .exposure _ => .exposure | .frame _ => .frame
      let tick (r : Report) : Tick := match r with | .sensor x => x.sample.tick | .exposure x => x.start | .frame x => x.tick
      let tally (k : Stamped) : Nat := match k with
        | .sensor => s.link.tallies.sensor
        | .exposure => s.link.tallies.exposure
        | _ => s.link.tallies.frame
      let before (i : Nat) : Timebase := (rs.take i).foldl (fun t r => t.stamped (kind r) (tick r)) s.time
      let holds (k : Stamped) (l : List Report) : Prop := ∃ r ∈ l, kind r = k
      ∃ (out : List Placed) (left : Tallies),
        exec .upstreamSlot s = .next { s with
          link := sent (.reports out) { s.link with reports := s.link.reports.drop n, tallies := left }
          time := before n } ∧
        out.length = rs.length ∧
        (∀ (i : Nat) (r : Report), rs[i]? = some r → ∃ x, out[i]? = some x ∧ x.report = r ∧
          x.host = ((before i).stampOf (kind r) (tick r)).1 ∧ x.adjusted = ((before i).stampOf (kind r) (tick r)).2 ∧
          x.sync = s.time.sync ∧ (holds (kind r) (rs.take i) → x.tally = 0) ∧
          (¬ holds (kind r) (rs.take i) → x.tally = tally (kind r))) ∧
        (holds .sensor rs → left.sensor = 0) ∧ (¬ holds .sensor rs → left.sensor = s.link.tallies.sensor) ∧
        (holds .exposure rs → left.exposure = 0) ∧ (¬ holds .exposure rs → left.exposure = s.link.tallies.exposure) ∧
        (holds .frame rs → left.frame = 0) ∧ (¬ holds .frame rs → left.frame = s.link.tallies.frame)) ∧
    (drawsOn s c .capture → ∀ first rest, s.audio.captured = first :: rest →
      let n := 104 / (3 * s.audio.config.channels)
      let stamp := s.time.stampOf .capture first.tick
      exec .upstreamSlot s = .next { s with
        link := sent (.capture ⟨first.tick, s.audio.config.channels, (s.audio.captured.take n).map CaptureFrame.samples,
          s.audio.discard, stamp.1, stamp.2, s.time.sync⟩) s.link
        time := s.time.stamped .capture first.tick
        audio := { s.audio with captured := s.audio.captured.drop n, discard := 0 } }) ∧
    ((∀ q, queueHolds s q = false) → exec .upstreamSlot s = .next { s with link := sent .filler s.link })

/-! ## Timebase -/

/-- The maps between device ticks and host times: host_of and dev_of by their formulas; host_of does not decrease, and
for every D within 60,000,000 ticks of the reference dev_of(host_of(D)) differs from D by at most one tick. Stamping: in
UNSYNCED host time 0 with ADJUSTED clear, and nothing kept; in COARSE and LOCKED the mapped time where it is above 0 and
above the last-reported one of the kind, else one more than the last-reported, with ADJUSTED, so that the host times of a
kind rise strictly as unsigned values (a last-reported time of 2^64 − 1, after which nothing rises: log 38); the last-reported times of the
other kinds stay (R35, R36, R37, R38). -/
def Obligations.MapsAndStamps : Prop :=
  (∀ t : Timebase, -200000 ≤ t.rate → t.rate ≤ 200000 →
    (∀ a b : Tick, tickDiff a t.dRef ≤ tickDiff b t.dRef → 0 ≤ hostDiff (t.hostOf b) (t.hostOf a)) ∧
    (∀ d : Tick, t.hostOf d =
      t.hRef + BitVec.ofInt 64 (tickDiff d t.dRef + roundDiv (tickDiff d t.dRef * t.rate) 1000000000)) ∧
    (∀ h : HostTime, t.devOf h =
      t.dRef + BitVec.ofInt 48 (roundDiv (hostDiff h t.hRef * 1000000000) (1000000000 + t.rate))) ∧
    ∀ d : Tick, (tickDiff d t.dRef).natAbs ≤ 60000000 → (tickDiff (t.devOf (t.hostOf d)) d).natAbs ≤ 1) ∧
  ∀ (t : Timebase) (k : Stamped) (d : Tick),
    (t.sync = .unsynced → t.stampOf k d = (0, false) ∧ t.stamped k d = t) ∧
    (t.sync ≠ .unsynced → (t.reported.get k).toNat < 18446744073709551615 →
      let mapped := t.hostOf d
      let last := t.reported.get k
      ((t.stampOf k d).2 = false → (t.stampOf k d).1 = mapped) ∧
      ((last.toNat : Int) < mapped.toInt → t.stampOf k d = (mapped, false)) ∧
      (mapped.toInt ≤ (last.toNat : Int) → t.stampOf k d = (last + 1, true)) ∧
      (mapped.toInt ≤ 0 → last = 0 → t.stampOf k d = (1, true)) ∧
      last.toNat < (t.stampOf k d).1.toNat ∧
      (t.stamped k d).reported.get k = (t.stampOf k d).1 ∧
      (∀ j, j ≠ k → (t.stamped k d).reported.get j = t.reported.get j) ∧
      t.stamped k d = { t with reported := (t.stamped k d).reported })

/-- A mark (D, H), D being its captured tick (log 46; R26), handed over in UNSYNCED is a first mark: reference pair and
last accepted mark (D, H), lock count 0, COARSE, the holdover timer from D, the rate estimate kept, the accepted counter
one more, SYNC_CHANGED with cause FIRST_MARK; the link hears a valid packet and nothing else changes (R27). A mark whose
payload is not 8 bytes is discarded, and any other has the host time of its 8 bytes, least significant first (R179). -/
def Obligations.FirstMark : Prop :=
  (∀ p : List Byte, (parseMark p = none ↔ p.length ≠ 8) ∧ ∀ h, parseMark p = some h → h.toNat = field p 0 8) ∧
  ∀ (s : State) (age : Nat) (p : List Byte), s.powered = true → s.link.state = .up →
    let d := s.capturedTick age
    (s.time.sync = .unsynced → ∀ h, parseMark p = some h →
      ∃ t, exec (.timeMark age p) s = .next t ∧ t.time.elapsed t.now = tickDiff s.now d ∧
        t = { s with
          link := heardMark s
          time := { s.time with
            sync := .coarse, dRef := d, hRef := h, dLast := d, hLast := h, lockCount := 0, accepted := s.time.accepted + 1 }
          req := withEvent true .timebase (.syncChanged .unsynced .coarse .firstMark none) s.now s.req }) ∧
    (parseMark p = none → exec (.timeMark age p) s = .next { s with link := heardMark s })

/-- The spacing and the rate of a mark in COARSE or LOCKED: a mark within 5 ms is discarded as too close; one more than a
second after the last accepted mark restarts the map; one that implies a rate beyond 200,000 ppb is rejected (the mark's
tick: log 46) (R28, R29). -/
def Obligations.MarkSpacingAndRate : Prop :=
  ∀ (s : State) (age : Nat) (h : HostTime) (p : List Byte), s.powered = true → s.link.state = .up → s.time.sync ≠ .unsynced →
    p.length = 8 → h.toNat = field p 0 8 →
    let d := s.capturedTick age
    let spacing := tickDiff d s.time.dLast
    let gain := hostDiff h s.time.hLast - spacing
    (spacing < 5000 → exec (.timeMark age p) s = .next { s with
      link := heardMark s
      time := { s.time with tooClose := s.time.tooClose + 1 } }) ∧
    (1000000 < spacing → exec (.timeMark age p) s = .next { s with
      link := heardMark s
      time := { s.time with
        sync := .coarse, dRef := d, hRef := h, dLast := d, hLast := h, lockCount := 0
        accepted := s.time.accepted + 1, restarts := s.time.restarts + 1 }
      req := withEvent (s.time.sync == .locked) .timebase (.syncChanged .locked .coarse .restart none) s.now s.req }) ∧
    (5000 ≤ spacing → spacing ≤ 1000000 → 200000 < (Int.tdiv (gain * 1000000000) spacing).natAbs →
      exec (.timeMark age p) s = .next { s with
        link := heardMark s
        time := { s.time with rejected := s.time.rejected + 1 }
        req := withEvent true .timebase (.markRejected spacing (clampInt (-2147483648) 2147483647 gain)) s.now s.req })

/-- A mark accepted for its rate steps the map when its prediction error is above 2,000 and otherwise moves the reference
a quarter of the error; the rate moves an eighth of the way toward the measured one; and an update moves the lock count
and the discipline state (the mark's tick: log 46) (R30, R31, R32, R34). -/
def Obligations.MarkStepsAndUpdates : Prop :=
  ∀ (s : State) (age : Nat) (h : HostTime) (p : List Byte), s.powered = true → s.link.state = .up → s.time.sync ≠ .unsynced →
    p.length = 8 → h.toNat = field p 0 8 →
    let d := s.capturedTick age
    let spacing := tickDiff d s.time.dLast
    let m := Int.tdiv ((hostDiff h s.time.hLast - spacing) * 1000000000) spacing
    5000 ≤ spacing → spacing ≤ 1000000 → m.natAbs ≤ 200000 →
    let e := hostDiff h (s.time.hostOf d)
    let learned := clampInt (-200000) 200000 (s.time.rate + Int.tdiv (m - s.time.rate) 8)
    (2000 < e.natAbs → exec (.timeMark age p) s = .next { s with
      link := heardMark s
      time := { s.time with
        sync := .coarse, dRef := d, hRef := h, rate := learned, dLast := d, hLast := h, lockCount := 0
        accepted := s.time.accepted + 1, steps := s.time.steps + 1 }
      req := withEvent (s.time.sync == .locked) .timebase (.syncChanged .locked .coarse .step (some e)) s.now s.req }) ∧
    (e.natAbs ≤ 2000 →
      let count := if e.natAbs ≤ 50 then min 4 (s.time.lockCount + 1) else 0
      let after : Sync :=
        if s.time.sync = .coarse ∧ count = 4 then .locked
        else if s.time.sync = .locked ∧ 200 < e.natAbs then .coarse
        else s.time.sync
      exec (.timeMark age p) s = .next { s with
        link := heardMark s
        time := { s.time with
          sync := after, dRef := d, hRef := s.time.hostOf d + BitVec.ofInt 64 (roundDiv e 4), rate := learned
          dLast := d, hLast := h, lockCount := count, accepted := s.time.accepted + 1 }
        req := withEvent (s.time.sync != after) .timebase
          (.syncChanged s.time.sync after (if after = .locked then .lock else .error) (some e)) s.now s.req })

/-- The discipline state's own changes: SYNC_LOCK at a lock count of 4 in COARSE (the model's choice where it comes
alone, log 4), and holdover at 10,000,000 ticks from LOCKED and at 60,000,000 from COARSE; with an anchor held the change
to UNSYNCED puts the phase lock in ACQUIRING with lock run 0, SYNC_CHANGED coming before PHASE_LOCK_CHANGED (log 13)
(R32, R33, R34, R18). -/
def Obligations.SyncLockAndHoldover : Prop :=
  ∀ s : State, s.powered = true →
    (s.time.sync = .coarse → 4 ≤ s.time.lockCount → ∀ e,
      exec (.syncLock e) s = .next { s with
        time := { s.time with sync := .locked }
        req := withEvent true .timebase (.syncChanged .coarse .locked .lock (some e)) s.now s.req }) ∧
    (s.time.sync = .locked → 10000000 ≤ tickDiff s.now s.time.dLast →
      exec .holdoverCoarse s = .next { s with
        time := { s.time with sync := .coarse, lockCount := 0 }
        req := withEvent true .timebase (.syncChanged .locked .coarse .holdover none) s.now s.req }) ∧
    (s.time.sync = .coarse → 60000000 ≤ tickDiff s.now s.time.dLast →
      exec .holdoverUnsynced s = .next { s with
        time := { s.time with sync := .unsynced, lockCount := 0 }
        tl := if s.tl.anchor.isSome then { s.tl with phase := .acquiring, lockRun := 0 } else s.tl
        req := withEvent (s.tl.anchor.isSome && s.tl.phase == .locked) .frameTimeline
          (.phaseLockChanged .acquiring s.tl.lastError) s.now
          (withEvent true .timebase (.syncChanged .coarse .unsynced .holdover none) s.now s.req) })

/-! ## The Request Controller -/

/-- The checks at the taking of the oldest request, in their order: a duplicate of a waiting request is counted and marks
the entry without a reply; a reused tag of a kind that can wait, a wrong length, a missing permission (which fills the
fault record and raises ACCESS_FAULT, or counts) and a full table are refused with the reply body each names; an unknown
kind is refused UNKNOWN_KIND, with an empty body. Nothing else changes. A request that none of these refuses passes: it
is admitted to its owner, a kind that cannot wait whatever replies are queued and however full the table is. The kinds
have the codes, commands, groups, accesses and body lengths of sections 9.8 and 10.5 (PANEL_POWER by its power field,
AUDIO_MUTE by its mute field, an absent one counting as on, for which AUDIO_MUTE has log 29; the fields are read from the
bytes carried: log 55); client 0 has WRITE in every
group; READ or WRITE passes a read and WRITE alone a write; and the request's fields stand in its header (R163, R166,
R168, R170, R179, R182). -/
def Obligations.RequestChecks : Prop :=
  let read (g : Group) (c : Instr) (k : Kind) (code length : Nat) : Instr × KindRow := (c, ⟨code, k, g, .read, length⟩)
  let write (g : Group) (c : Instr) (k : Kind) (code length : Nat) : Instr × KindRow := (c, ⟨code, k, g, .write, length⟩)
  let device :=
    [read .device .deviceIdentify .deviceIdentify 16 0, read .device .deviceStatus .deviceStatus 17 0,
     write .device .systemReset .systemReset 18 0, write .device .grantSet .grantSet 19 7,
     read .device .faultRead .faultRead 20 0, write .device .faultClear .faultClear 21 0]
  let link :=
    [write .link .linkSlots .linkSlots 32 16, read .link .linkStatus .linkStatus 33 0,
     read .link .timeStatus .timeStatus 34 0]
  let display :=
    [write .display .timelineSet .timelineSet 48 45, write .display .timelineCommit .timelineCommit 49 0,
     write .display .timelineRun .timelineRun 50 0, write .display .timelineStop .timelineStop 51 0,
     write .display .frameAnchor .frameAnchor 52 8, read .display .timelineStatus .timelineStatus 53 0,
     write .display .displayConfig .displayConfig 54 15, write .display .displayDrive .displayDrive 55 4,
     write .display .panelPowerOn .panelPower 56 2, write .display .displayBlank .displayBlank 57 0,
     write .display .displayResume .displayResume 58 0, read .display .displayStatus .displayStatus 59 0,
     write .display .lateShift .lateShift 60 7]
  let motion :=
    [write .motion .motionConfig .motionConfig 64 25, write .motion .cameraConfig .cameraConfig 65 4,
     read .motion .motionStatus .motionStatus 66 0]
  let audio :=
    [write .audio .audioConfig .audioConfig 80 6, write .audio .audioStart .audioStart 81 0,
     write .audio .audioStop .audioStop 82 0, write .audio .audioVolume .audioVolume 83 2,
     write .audio .audioMuteOn .audioMute 84 1, write .audio .captureStart .captureStart 85 0,
     write .audio .captureStop .captureStop 86 0, read .audio .audioStatus .audioStatus 87 0]
  let power :=
    [write .power .powerContract .powerContract 96 2, write .power .powerPolicy .powerPolicy 97 2,
     read .power .powerStatus .powerStatus 98 0]
  let table := device ++ link ++ display ++ motion ++ audio ++ power
  (∀ x ∈ table, ∀ body, takingOf x.2.kind body =
    if x.2.kind = .panelPower ∧ body[1]? = some 0 then .panelPowerOff
    else if x.2.kind = .audioMute ∧ body[0]? = some 0 then .audioMuteOff
    else x.1) ∧
  (∀ g, (Grants.get g 0) = ⟨.write, .write, .write, .write, .write, .write⟩ ∧ g.get 1 = g.client1 ∧ g.get 2 = g.client2 ∧
    g.get 3 = g.client3) ∧
  ∀ s : State, s.powered = true → takeDue s = true →
    let q := asked s
    let r := s.req
    (∀ p, r.intake.head? = some p → 4 ≤ p.length →
      q.tag.toNat = (byteAt p 0).toNat % 16 ∧ q.client.toNat = (byteAt p 0).toNat / 16 % 4 ∧ q.kind = byteAt p 1 ∧
      q.length = (byteAt p 2).toNat ∧ q.carried = (p.length : Int) - 4 ∧ q.body = p.drop 4 ∧ q.taken = s.now ∧
      oldestBody s = p.drop 4) ∧
    (∀ x ∈ table, q.kind.toNat = x.2.code → oldestRow s = some x.2) ∧
    ((∀ x ∈ table, q.kind.toNat ≠ x.2.code) → oldestRow s = none) ∧
    let marked : State := { s with req := { r with
      intake := r.intake.drop 1
      taken := r.taken + 1
      refused := r.refused + 1
      table := r.table.map fun e => if e.client = q.client ∧ e.tag = q.tag then
        { e with dups := min 255 (e.dups + 1), dupKind := q.kind } else e } }
    let twin := ∃ e ∈ r.table, e.client = q.client ∧ e.tag = q.tag
    (oldestRow s = none →
      (twin → exec .unknownKind s = .next marked) ∧
      (¬ twin → exec .unknownKind s = .next { s with req := answered q .unknownKind .empty r })) ∧
    ∀ row, oldestRow s = some row →
      let c := takingOf row.kind (oldestBody s)
      let waits := row.kind = .timelineCommit ∨ row.kind = .motionConfig ∨ (row.kind = .panelPower ∧ q.body[1]? ≠ some 0)
      let replied := waits ∧ ∃ p ∈ r.replies, p.client = q.client ∧ p.tag = q.tag
      let long := (q.length : Int) = q.carried ∧ q.length = row.length
      let held : Perm :=
        let p := r.grants.get q.client.toNat
        match row.group with
        | .device => p.device | .link => p.link | .display => p.display | .motion => p.motion | .audio => p.audio
        | .power => p.power
      let allowed := held = .write ∨ (row.perm = .read ∧ held = .read)
      (twin → exec c s = .next marked) ∧
      (¬ twin → replied → exec c s = .next { s with req := answered q .tagInUse (.duplicates 1) r }) ∧
      (¬ twin → ¬ replied → ¬ long → exec c s = .next { s with req := answered q .badLength (.required row.length) r }) ∧
      (¬ twin → ¬ replied → long → ¬ allowed →
        (r.fault = none → exec c s = .next { s with
          req := answered q .noAccess (.needs row.group row.perm)
            (withEvent true .requestController (.accessFault q.client q.kind row.group) s.now
              { r with fault := some ⟨q.client, q.tag, q.kind, s.now, false, 0⟩ }) }) ∧
        ∀ f, r.fault = some f → exec c s = .next { s with
          req := answered q .noAccess (.needs row.group row.perm)
            { r with fault := some { f with more := true, count := min 255 (f.count + 1) } } }) ∧
      (¬ twin → ¬ replied → long → allowed → waits → 16 ≤ r.table.length →
        exec c s = .next { s with req := answered q .busy (.entries r.table.length) r }) ∧
      (¬ twin → ¬ replied → long → allowed → ¬ (waits ∧ 16 ≤ r.table.length) → Admitted row.kind s)

/-- A valid CTRL packet in UP joins the intake, or is discarded, counted and told by CTRL_OVERRUN when two are held
(R161). -/
def Obligations.CtrlIntake : Prop :=
  ∀ (s : State) (p : List Byte), s.powered = true → s.link.state = .up →
    (s.req.intake.length < 2 → exec (.ctrl p) s = .next { s with
      link := heardCtrl s
      req := { s.req with intake := s.req.intake ++ [p] } }) ∧
    (2 ≤ s.req.intake.length → exec (.ctrl p) s = .next { s with
      link := heardCtrl s
      req := withEvent true .requestController (.ctrlOverrun (s.req.discarded + 1)) s.now
        { s.req with discarded := s.req.discarded + 1 } })

/-- The ten reading requests answer OK at once with their content, field by field, and change nothing but the Request
Controller's own bookkeeping. DEVICE_STATUS is of the moment after its own packet has left the intake and been counted as
taken (log 43); POWER_STATUS tells each consumer's request as it stands in its block, beside the grant and the cost of
the last computation (log 19), and the sleep timer in whole ms (log 33); a stopped wake timer shows 0 (log 53) (R21, R40, R64, R86, R122, R140, R158, R171, R174). -/
def Obligations.StatusReads : Prop :=
  ∀ s : State,
    let l := s.link
    let m := s.motion
    let a := s.audio
    let p := s.power
    let latchPoint (e : Eye) : Option Nat :=
      if (s.tl.windows.scan.get e).on then (s.tl.leads.get e).map fun x => (s.tl.windows.scan.get e).start - x else none
    let eye (e : Eye) : EyeStatus :=
      let d := s.disp.eyes.get e
      ⟨d.panel, d.wake, d.sleepMark, d.pending.map fun h => (h.id, h.pose, h.mode, h.late.isSome), d.bound.map Head.id,
        d.shift, d.scan, d.repeats, d.lit, d.missed, s.disp.present.get (stallCause e),
        (d.lines.filter fun x => d.pending.map Head.id == some x.2.id || d.bound.map Head.id == some x.2.id).length,
        d.request, (p.strobe.get e).grant, d.drive⟩
    let enabled (c : Camera) : Nat := if (m.cams.get c).state = .disabled then 0 else 1
    let camera (c : Camera) : CamStatus :=
      let k := m.cams.get c
      ⟨k.state != .disabled, k.request, (p.illum.get c).grant, k.drive, k.state, k.context.map fun x => (x.frame, x.trigger)⟩
    let loads : FixedLoads := ⟨⟨true, 700⟩, ⟨s.disp.eyes.left.panel != .off, 350⟩, ⟨s.disp.eyes.right.panel != .off, 350⟩,
      ⟨m.port == .starting || m.port == .running, 50⟩, ⟨decide (0 < enabled 0 + enabled 1 + enabled 2 + enabled 3), 400⟩⟩
    let strobe (e : Eye) : Consumer :=
      ⟨(s.disp.eyes.get e).request, (p.strobe.get e).grant, (p.strobe.get e).cost⟩
    let illum (c : Camera) : Consumer := ⟨(m.cams.get c).request, (p.illum.get c).grant, (p.illum.get c).cost⟩
    let cost (x : FixedLoad) : Nat := if x.present then x.cost else 0
    let fixed := cost loads.core + cost loads.panelLeft + cost loads.panelRight + cost loads.sensors + cost loads.cameras
    let reads (k : Kind) (c : Instr) (b : ReplyBody) : Prop :=
      Admitted k s → exec c s = .next { s with req := answered (asked s) .ok b s.req }
    reads .deviceIdentify .deviceIdentify (.identity ⟨2260, 1, 64, 32, 16, 32, 32, 2, 16, 4, 96, 256, 128⟩) ∧
    reads .deviceStatus .deviceStatus (.deviceStatus (⟨s.link.state, s.link.session, s.time.sync, s.tl.running,
      s.tl.frame, s.tl.phase, s.tl.waiting.isSome, ⟨s.disp.eyes.left.panel, s.disp.eyes.right.panel⟩, s.disp.latches,
      s.motion.port, enabled 0 + enabled 1 + enabled 2 + enabled 3, s.motion.wear, a.playback, a.mute, a.capturing,
      p.contract, p.derate, p.brownout, p.asleep, p.limited, s.req.table.length, s.req.replies.length,
      (s.req.table.map fun e => if e.dups = 0 then 1 else 2).sum, s.req.intake.length - 1, s.req.events.length,
      s.req.fault.isSome, s.req.taken + 1, s.req.refused, s.req.discarded⟩)) ∧
    reads .faultRead .faultRead (.fault s.req.fault) ∧
    reads .linkStatus .linkStatus (.linkStatus ⟨l.state, l.session, l.run, tickDiff s.now l.lastValid,
      if l.state = .hold then l.hold else 0, l.superframe, l.table, l.pendingTable, l.reports.length,
      (l.reports.filter fun r => match r with | .sensor _ => true | _ => false).length,
      (l.reports.filter fun r => match r with | .exposure _ => true | _ => false).length,
      (l.reports.filter fun r => match r with | .frame _ => true | _ => false).length,
      l.tallies, l.badCount, l.valid, l.bad, l.unknown⟩) ∧
    reads .timeStatus .timeStatus (.timeStatus ⟨s.now, if s.time.sync = .unsynced then 0 else s.time.hostOf s.now,
      s.time.sync, s.time.dRef, s.time.hRef, s.time.rate, s.time.dLast, s.time.hLast, s.time.lockCount,
      if s.time.sync = .unsynced then 0 else tickDiff s.now s.time.dLast, s.time.reported, s.time.accepted,
      s.time.tooClose, s.time.rejected, s.time.restarts, s.time.steps⟩) ∧
    reads .timelineStatus .timelineStatus (.timelineStatus ⟨s.tl.running, s.tl.counter, s.tl.frame, s.tl.startTick,
      s.tl.adj, s.tl.phase, s.tl.anchor, s.tl.lockRun, s.tl.lastError, s.tl.waiting.isSome, s.tl.active.period,
      s.tl.active.guard, s.tl.active.divider, s.tl.reportCount, s.tl.windows, ⟨latchPoint .left, latchPoint .right⟩⟩) ∧
    reads .displayStatus .displayStatus (.displayStatus ⟨⟨eye .left, eye .right⟩, s.disp.present, s.disp.latches,
      s.disp.config, s.disp.headsReceived, s.disp.headsDropped, s.disp.rowsStored, s.disp.strayRows, s.disp.malformed⟩) ∧
    reads .motionStatus .motionStatus (.motionStatus ⟨m.port, m.start, m.config, m.read.isSome, m.edge.isSome,
      m.failures, m.missed, m.ring.length, m.ring.head?.map Sample.tick, m.ring.getLast?, m.decimation,
      ⟨camera 0, camera 1, camera 2, camera 3⟩, m.wear, m.level, m.levelRun, m.stored, m.edgesMissed, m.readFailures,
      m.strayEdges⟩) ∧
    reads .audioStatus .audioStatus (.audioStatus ⟨a.playback,
      if a.playback = .muting then some (a.fromPlaying, a.ramp) else none, a.mute, a.fifo.length, a.expected, a.config,
      a.divider, a.remainder, a.recompute, a.requested, levelOf a.requested, a.ceiling, min a.requested a.ceiling.gain,
      a.gain, a.capturing, a.captured.length, a.discard, a.played, a.underruns, a.overflowed, a.gaps, a.blocksDiscarded,
      a.malformed, a.captureLost⟩) ∧
    reads .powerStatus .powerStatus (.powerStatus ⟨p.contract, loads, fixed, (p.contract : Int) - fixed,
      ⟨strobe .left, strobe .right⟩, ⟨illum 0, illum 1, illum 2, illum 3⟩, levelOf a.requested, p.audioGrant, p.audioCost, p.strobe.left.cost + p.strobe.right.cost + p.illum.c0.cost +
        p.illum.c1.cost + p.illum.c2.cost + p.illum.c3.cost + p.audioCost, p.fs, p.fi, p.limited, p.overContract, p.derate,
      p.overdraw, p.recovery, p.sample, p.count, p.average, p.brownout, p.lowRun, p.highRun, p.asleep, p.timeout,
      p.sleepTimer.getD 0 / 1000⟩)

/-- GRANT_SET replaces the permissions of a client 1 to 3 and answers those before and after, or names the client or the
first group it refuses, the client where both are wrong (log 42); FAULT_CLEAR empties the fault record and answers what
it held; LINK_SLOTS makes a table pending that names a REPLY and an EVENT slot, and is refused with the first slot of no
class, or with no body for want of one (log 34). The codes of permissions and slot classes are those of the rules (R169,
R171, R153, R180). -/
def Obligations.GrantsFaultsAndSlots : Prop :=
  ∀ s : State,
    let q := asked s
    let c := (byteAt q.body 0).toNat
    let ok (b : ReplyBody) : Requests := answered q .ok b s.req
    let code (i : Nat) : Nat := (byteAt q.body i).toNat
    let perm (i : Nat) : Perm := if code i = 0 then .none else if code i = 1 then .read else .write
    let perms : Perms := ⟨perm 1, perm 2, perm 3, perm 4, perm 5, perm 6⟩
    let slot (i : Nat) : SlotClass :=
      if code i = 0 then .opened else if code i = 1 then .sensor else if code i = 2 then .capture
      else if code i = 3 then .reply else .event
    (Admitted .grantSet s →
      (1 ≤ c → c ≤ 3 → (∀ i, 1 ≤ i → i ≤ 6 → (byteAt q.body i).toNat ≤ 2) →
        exec .grantSet s = .next { s with req :=
          { ok (.grants (if c = 1 then s.req.grants.client1 else if c = 2 then s.req.grants.client2
              else s.req.grants.client3) perms) with
            grants := if c = 1 then { s.req.grants with client1 := perms }
              else if c = 2 then { s.req.grants with client2 := perms }
              else { s.req.grants with client3 := perms } } }) ∧
      (c = 0 ∨ 3 < c → exec .grantSet s = .next { s with req := answered q .outOfRange (.client c) s.req }) ∧
      (1 ≤ c → c ≤ 3 → ∀ n, 1 ≤ n → n ≤ 6 → 2 < code n → (∀ i, 1 ≤ i → i < n → code i ≤ 2) →
        let group : Group :=
          if n = 1 then .device else if n = 2 then .link else if n = 3 then .display else if n = 4 then .motion
          else if n = 5 then .audio else .power
        exec .grantSet s = .next { s with req := answered q .outOfRange (.group group) s.req })) ∧
    (Admitted .faultClear s →
      exec .faultClear s = .next { s with req := { ok (.fault s.req.fault) with fault := none } }) ∧
    (Admitted .linkSlots s →
      ((∀ i, i < 16 → (byteAt q.body i).toNat ≤ 4) → (∃ i, i < 16 ∧ byteAt q.body i = 3) →
        (∃ i, i < 16 ∧ byteAt q.body i = 4) →
        exec .linkSlots s = .next { s with
          link := { s.link with pendingTable := some ((List.range 16).map slot) }
          req := ok (.superframe (s.link.superframe + 1)) }) ∧
      (∀ n, n < 16 → 4 < (byteAt q.body n).toNat → (∀ i, i < n → (byteAt q.body i).toNat ≤ 4) →
        exec .linkSlots s = .next { s with req := answered q .outOfRange (.slot n) s.req }) ∧
      ((∀ i, i < 16 → (byteAt q.body i).toNat ≤ 4) →
        (∀ i, i < 16 → byteAt q.body i ≠ 3) ∨ (∀ i, i < 16 → byteAt q.body i ≠ 4) →
        exec .linkSlots s = .next { s with req := answered q .outOfRange .empty s.req }))

/-- SYSTEM_RESET: every block takes its SYSTEM_RESET values and the grants are computed from them; the link, the
Timebase, the clock, the events queued, the replies queued and the intake stay; the table is emptied without replies, but
for one TAG_IN_USE to each entry with duplicates, which tells their count with the kind of the last, oldest entry first
(log 44; its time taken: log 10), before the OK (log 13); permissions and fault record are cleared; a brownout in
progress stays, with its blank and mute causes, and so does a codec fault still asserted (R175, R22, R43, R65, R87, R105,
R123, R141, R159, R166). -/
def Obligations.SystemResetEffect : Prop :=
  ∀ s : State, Admitted .systemReset s →
    ∃ (dups : List Reply) (serial : Nat),
    (let told := s.req.table.filter fun e => decide (0 < e.dups)
     dups.length = told.length ∧ ∀ (i : Nat) e x, told[i]? = some e → dups[i]? = some x → duplicatesReply e x) ∧
    exec .systemReset s = .next { s with
      tl := .reset
      disp := if s.power.brownout then
          { Display.reset with
            present := { Causes.none with power := true }, latches := { Causes.none with power := true } }
        else .reset
      shift := .reset
      motion := .reset
      audio := { Audio.reset with
        cycles := s.audio.cycles
        line := s.audio.line
        ceiling := .l1
        mute := ⟨false, false, s.pins.codecFault, s.power.brownout⟩ }
      power := { Power.powerOn with
        sample := s.power.sample, brownout := s.power.brownout, lowRun := s.power.lowRun, highRun := s.power.highRun }
      link := { s.link with pendingTable := some defaultSlots }
      req := answered (asked s) .ok (.discarded s.req.table.length)
        { withEvent s.power.brownout .displayOutput (.displayBlanked .power) s.now
            { s.req with table := [], replies := s.req.replies ++ dups, serial := serial } with
          grants := .none, fault := none } }

/-! ## Frame Timeline -/

/-- What a commit computes from a bank that passes the checks. An enabled window ends at or before P − 20, and one left
with no width is disabled; an enabled strobe that starts before its eye's enabled scan ends starts there, or is disabled
where that leaves it no width; each clamp has its flag. Of an enabled exposure the parts in the guarded span of an
enabled strobe go: untouched it is UNCHANGED, wholly covered REMOVED, and otherwise SHORTENED to the longest piece left,
the earliest of equals. A latch lead is at most L and at most the scan's start (R7, R8, R9, R10). -/
def Obligations.CommitWindows : Prop :=
  ∀ (b : Bank) (rows lead : Nat), 6000 ≤ b.period → b.period ≤ 20000 → b.guard ≤ 2000 → 1 ≤ b.divider → b.divider ≤ 8 →
    (∀ e, (b.win.scan.get e).on = true →
      (rows : Int) ≤ min ((b.win.scan.get e).stop : Int) ((b.period : Int) - 20) - (b.win.scan.get e).start) →
    1 ≤ rows →
    let c := commitOf b lead
    let sound (w : Window) : Prop := w.on = true → w.start < w.stop ∧ w.stop ≤ b.period - 20
    let stop (w : Window) : Nat := if w.on then min w.stop (b.period - 20) else w.stop
    let clamped (w : Window) : Bool := w.on && decide (b.period - 20 < w.stop)
    (∀ e, sound (c.windows.scan.get e) ∧ sound (c.windows.strobe.get e)) ∧ (∀ k, sound (c.windows.expose.get k)) ∧
    (∀ e, (c.windows.scan.get e).on = (b.win.scan.get e).on ∧
      ((b.win.scan.get e).on = true →
        c.windows.scan.get e = { b.win.scan.get e with stop := min (b.win.scan.get e).stop (b.period - 20) }) ∧
      c.scanFlags.get e = ⟨clamped (b.win.scan.get e), false, false⟩) ∧
    (∀ e, (c.windows.scan.get e).on = true → (c.windows.strobe.get e).on = true →
      (c.windows.scan.get e).stop ≤ (c.windows.strobe.get e).start) ∧
    (∀ e,
      let w := b.win.strobe.get e
      let scan := c.windows.scan.get e
      let result (x : Window) (zero moved : Bool) : Prop :=
        c.windows.strobe.get e = x ∧ c.strobeFlags.get e = ⟨clamped w, zero, moved⟩
      (w.on = false → result w false false) ∧
      (w.on = true → stop w ≤ w.start → result ⟨false, w.start, stop w⟩ true false) ∧
      (w.on = true → w.start < stop w → (scan.on = false ∨ scan.stop ≤ w.start) →
        result ⟨true, w.start, stop w⟩ false false) ∧
      (w.on = true → w.start < stop w → scan.on = true → w.start < scan.stop →
        (scan.stop < stop w → result ⟨true, scan.stop, stop w⟩ false true) ∧
        (stop w ≤ scan.stop → result ⟨false, scan.stop, stop w⟩ true true))) ∧
    Guarded c.windows b.guard ∧
    (∀ k,
      let w := b.win.expose.get k
      let x := c.windows.expose.get k
      let result (y : Window) (o : Trim) (zero : Bool) : Prop :=
        x = y ∧ c.trims.get k = o ∧ c.exposeFlags.get k = ⟨clamped w, zero, false⟩
      let clear (n : Nat) : Prop := ∀ e, (c.windows.strobe.get e).on = true →
        (n : Int) < ((c.windows.strobe.get e).start : Int) - b.guard ∨ (c.windows.strobe.get e).stop + b.guard ≤ n
      let piece (lo hi : Nat) : Prop := w.start ≤ lo ∧ lo < hi ∧ hi ≤ stop w ∧ ∀ n, lo ≤ n → n < hi → clear n
      (w.on = false → result w .unchanged false) ∧
      (w.on = true → stop w ≤ w.start → result ⟨false, w.start, stop w⟩ .unchanged true) ∧
      (w.on = true → w.start < stop w →
        (piece w.start (stop w) → result ⟨true, w.start, stop w⟩ .unchanged false) ∧
        ((∀ lo hi, ¬ piece lo hi) → result ⟨false, w.start, stop w⟩ .removed false) ∧
        (¬ piece w.start (stop w) → (∃ lo hi, piece lo hi) →
          result ⟨true, x.start, x.stop⟩ .shortened false ∧ piece x.start x.stop ∧
            ∀ lo hi, piece lo hi → hi - lo ≤ x.stop - x.start ∧ (hi - lo = x.stop - x.start → x.start ≤ lo)))) ∧
    ∀ e, c.leads.get e = (if (b.win.scan.get e).on then some (min lead (b.win.scan.get e).start) else none) ∧
      c.leadClamped.get e = ((b.win.scan.get e).on && decide ((b.win.scan.get e).start < lead))

/-- TIMELINE_SET replaces the pending bank (the body's order: log 14), and is refused BUSY while a commit waits.
TIMELINE_COMMIT is refused BUSY while one waits and OUT_OF_RANGE at the first failing check: the period of 6,000 to
20,000, the guard of 0 to 2,000, the divider of 1 to 8, and the lengths of the left and of the right scan; in STOPPED the
bank becomes active at once, with a grant computation, and is answered with the frame number held; in RUN it waits beside
its windows (R6, R7, R11, R128, R164). The BUSY refusals have no body (log 34). -/
def Obligations.TimelineSetAndCommit : Prop :=
  ∀ s : State,
    let q := asked s
    let refused (st : Status) (b : ReplyBody) : State := { s with req := answered q st b s.req }
    let bank := s.tl.pendingBank
    let byte (i : Nat) : Nat := (byteAt q.body i).toNat
    let word (i : Nat) : Nat := (u16 q.body i).toNat
    let channel (i : Nat) : Window := ⟨decide (byte (5 + i) ≠ 0), word (13 + 2 * i), word (29 + 2 * i)⟩
    let given : Bank := ⟨word 0, word 2, byte 4,
      ⟨⟨channel 0, channel 1⟩, ⟨channel 2, channel 3⟩, ⟨channel 4, channel 5, channel 6, channel 7⟩⟩⟩
    let period := 6000 ≤ bank.period ∧ bank.period ≤ 20000
    let guarded := bank.guard ≤ 2000
    let divider := 1 ≤ bank.divider ∧ bank.divider ≤ 8
    let fits (e : Eye) : Prop :=
      let w := bank.win.scan.get e
      w.on = true → (s.disp.config.rows : Int) ≤ min (w.stop : Int) ((bank.period : Int) - 20) - w.start
    (Admitted .timelineSet s →
      (s.tl.waiting = none → exec .timelineSet s = .next { s with
        tl := { s.tl with pendingBank := given }
        req := answered q .ok .empty s.req }) ∧
      (s.tl.waiting.isSome = true → exec .timelineSet s = .next (refused .busy .empty))) ∧
    (Admitted .timelineCommit s →
      (s.tl.waiting.isSome = true → exec .timelineCommit s = .next (refused .busy .empty)) ∧
      (s.tl.waiting = none →
        let names (k : CommitCheck) : Prop := exec .timelineCommit s = .next (refused .outOfRange (.commitCheck k))
        (¬ period → names .period) ∧ (period → ¬ guarded → names .guard) ∧
        (period → guarded → ¬ divider → names .divider) ∧
        (period → guarded → divider → ¬ fits .left → names (.scan .left)) ∧
        (period → guarded → divider → fits .left → ¬ fits .right → names (.scan .right))) ∧
      (s.tl.waiting = none → period → guarded → divider → fits .left → fits .right →
        let c := commitOf bank s.disp.config.lead
        (s.tl.running = true → exec .timelineCommit s = .next { s with
          tl := { s.tl with waiting := some c }
          req := leftWaiting q .commit s.req }) ∧
        (s.tl.running = false →
          let active := computeGrants { s with tl := { s.tl with active := bank, windows := c.windows, leads := c.leads } }
          exec .timelineCommit s =
            .next { active with req := answered q .ok (.committed c s.tl.frame false) active.req })))

/-- The phase adjustment at a frame start: with an anchor and a valid map the error is the signed distance to the nearest
anchor-aligned instant, the adjustment half of it against it within 20 µs, and the error moves the lock run and the mode;
otherwise the adjustment is 0 and the lock state stays. FRAME_ANCHOR takes the anchor and starts ACQUIRING, or is refused
WRONG_STATE in UNSYNCED, with no body (log 34); PHASE_LOCKED at a lock run of 8 in ACQUIRING makes the mode LOCKED (where
it comes alone: log 4) (R15, R16, R17, R18). -/
def Obligations.PhaseLock : Prop :=
  (∀ s : State,
    (s.tl.anchor = none ∨ s.time.sync = .unsynced →
      adjustPhase s = { s with tl := { s.tl with adj := 0, frameError := none } }) ∧
    ∀ a, s.tl.anchor = some a → s.time.sync ≠ .unsynced →
      let half : Int := (s.tl.active.period / 2 : Nat)
      let e := (hostDiff (s.time.hostOf s.tl.startTick) a + half) % s.tl.active.period - half
      let count := if e.natAbs ≤ 10 then min 8 (s.tl.lockRun + 1) else 0
      let after : PhaseMode :=
        if s.tl.phase = .acquiring ∧ count = 8 then .locked
        else if s.tl.phase = .locked ∧ 100 < e.natAbs then .acquiring
        else s.tl.phase
      (0 < s.tl.active.period → -half ≤ e ∧ e ≤ s.tl.active.period - 1 - half ∧
        ∃ n : Int, hostDiff (s.time.hostOf s.tl.startTick) a = n * s.tl.active.period + e) ∧
      adjustPhase s = { s with
        tl := { s.tl with
          adj := clampInt (-20) 20 (-(Int.tdiv e 2))
          lastError := some e, frameError := some e, lockRun := count, phase := after }
        req := withEvent (s.tl.phase != after) .frameTimeline (.phaseLockChanged after (some e)) s.now s.req }) ∧
  ∀ s : State,
    (Admitted .frameAnchor s →
      (s.time.sync ≠ .unsynced → exec .frameAnchor s = .next { s with
        tl := { s.tl with anchor := some (u64 (asked s).body 0), lockRun := 0, lastError := none, phase := .acquiring }
        req := answered (asked s) .ok .empty
          (withEvent (s.tl.phase != .acquiring) .frameTimeline (.phaseLockChanged .acquiring none) s.now s.req) }) ∧
      (s.time.sync = .unsynced → exec .frameAnchor s =
        .next { s with req := answered (asked s) .wrongState .empty s.req })) ∧
    (s.powered = true → s.tl.phase = .acquiring → 8 ≤ s.tl.lockRun → exec .phaseLocked s = .next { s with
      tl := { s.tl with phase := .locked }
      req := withEvent true .frameTimeline (.phaseLockChanged .locked s.tl.lastError) s.now s.req })

/-- TIMELINE_RUN: refused WRONG_STATE in RUN, with no body (log 34), and OUT_OF_RANGE where an enabled scan window is too
short for the rows in force; otherwise it begins the first frame with the leads derived anew, the report divider count 0,
the phase adjustment chosen and the grants computed, and answers the frame number and the leads (R13, R128, R132). -/
def Obligations.TimelineRunBegins : Prop :=
  ∀ s : State, Admitted .timelineRun s →
    let q := asked s
    let fits (e : Eye) : Prop := (s.tl.windows.scan.get e).on = true →
      (s.disp.config.rows : Int) ≤
        min ((s.tl.windows.scan.get e).stop : Int) ((s.tl.active.period : Int) - 20) - (s.tl.windows.scan.get e).start
    let lead (e : Eye) : Option Nat :=
      if (s.tl.windows.scan.get e).on then some (min s.disp.config.lead (s.tl.windows.scan.get e).start) else none
    (s.tl.running = true → exec .timelineRun s = .next { s with req := answered q .wrongState .empty s.req }) ∧
    (s.tl.running = false → ¬ fits .left →
      exec .timelineRun s = .next { s with req := answered q .outOfRange (.commitCheck (.scan .left)) s.req }) ∧
    (s.tl.running = false → fits .left → ¬ fits .right →
      exec .timelineRun s = .next { s with req := answered q .outOfRange (.commitCheck (.scan .right)) s.req }) ∧
    (s.tl.running = false → fits .left → fits .right →
      let first := adjustPhase { s with
        tl := { s.tl with
          running := true, counter := 0, frame := s.tl.frame + 1, startTick := s.now, leads := ⟨lead .left, lead .right⟩
          reportCount := 0, ended := none, newBank := s.tl.waiting.isSome, latched := .both false
          scanOpened := .both false, strobe := .both .before, expose := .all .before }
        motion := { s.motion with darkened := false }
        power := { s.power with sum := 0, count := 0 } }
      let t := computeGrants first
      exec .timelineRun s =
        .next { t with req := answered q .ok (.run (s.tl.frame + 1) ⟨lead .left, lead .right⟩) t.req })

/-- TIMELINE_STOP answers OK; in STOPPED it changes nothing. In RUN, a latch due at counter 0 and not yet signalled is
signalled in the same step, the left one first (log 47), and the stop ends the frame: exposures in progress are closed
early, the FRAME record is offered when it is due, with CUT_SHORT unless the frame had reached its end, every window is
closed, strobes and illuminators are dark, bound frames and shifts are gone, the frame average is closed, the phase lock
goes back to ACQUIRING with an anchor held, and a waiting commit is applied and answered at once. Records and events come
in the order of the effects, EXPOSURE before FRAME (log 13); the FRAME record tells the phase mode before the stop (log
37), and no host frame for an eye that the frame has not latched (log 39) (R4, R14, R18, R19, R63, R82, R105, R132). -/
def Obligations.TimelineStopEnds : Prop :=
  ∀ s : State, Admitted .timelineStop s →
    let q := asked s
    (s.tl.running = false → exec .timelineStop s = .next { s with req := answered q .ok .empty s.req }) ∧
    (∀ e t, s.tl.running = true → s.tl.counter = 0 → s.tl.latched.get e = false → s.tl.latchPoint e = some 0 →
      (e = .right → s.tl.latched.left = true ∨ s.tl.latchPoint .left ≠ some 0) → exec (.latch e) s = .next t →
      exec .timelineStop s = exec .timelineStop t) ∧
    (s.tl.running = true →
      (∀ e, s.tl.counter = 0 → s.tl.latched.get e = true ∨ s.tl.latchPoint e ≠ some 0) →
      let due := s.tl.active.divider ≤ s.tl.reportCount + 1
      let cut := decide ((s.tl.counter : Int) < s.tl.active.period + s.tl.adj)
      let records := cameras.filterMap (earlyRecord s) ++ (if due then [.frame (frameNow cut s)] else [])
      let dark : State := closeAverage { s with
        tl := { s.tl with
          running := false, counter := 0, adj := 0, strobe := .both .closed, expose := .all .closed, ended := none
          reportCount := if due then 0 else s.tl.reportCount + 1 }
        link := offered records s
        disp := { s.disp with
          eyes := s.disp.eyes.map fun d =>
            { d with repeats := 0, lit := false, scan := none, bound := none, shift := .zero, missed := 0, drive := 0 }
          present := { s.disp.present with stallLeft := false, stallRight := false } }
        shift := .reset
        motion := { s.motion with cams := s.motion.cams.map fun k =>
          if k.state = .disabled then { k with drive := 0 } else { k with state := .idle, context := none, drive := 0 } } }
      let free : State := { dark with
        tl := if s.tl.anchor.isSome then { dark.tl with phase := .acquiring, lockRun := 0 } else dark.tl
        req := withEvent (s.tl.anchor.isSome && s.tl.phase == .locked) .frameTimeline
          (.phaseLockChanged .acquiring s.tl.lastError) s.now dark.req }
      (s.tl.waiting = none → exec .timelineStop s = .next { free with req := answered q .ok .empty free.req }) ∧
      ∀ c, s.tl.waiting = some c → TableSound s → ∃ r', waitingEnded (fun e => e.wait = .commit) .ok
          (fun _ => .committed c s.tl.frame false) free.req r' ∧
        let applied := computeGrants { free with
          tl := { free.tl with active := s.tl.pendingBank, windows := c.windows, leads := c.leads, waiting := none }
          req := r' }
        exec .timelineStop s = .next { applied with req := answered q .ok .empty applied.req })

/-- A frame start in RUN: the counter, the frame number and the start tick of the frame now beginning; every window
before its opening; a waiting commit applied and answered; the FRAME record of the frame just ended offered when the
report divider says so; the adjustment chosen; then the frame average closed and the grants computed; strobes and
illuminators dark, for no window of the new frame is open. The record tells the phase mode after this frame start's
adjustment; events and replies come in the order of the effects (log 13) (R1, R2, R3, R11, R16, R19, R20, R63, R84,
R104, R128, R132). FRAME_RECORD_DUE alone makes the record of the frame just ended (log 4). -/
def Obligations.FrameStarts : Prop :=
  ∀ s : State, s.powered = true →
    (s.tl.running = true → (s.tl.active.period : Int) + s.tl.adj ≤ s.tl.counter → s.tl.anyOpen = false →
      let due := s.tl.active.divider ≤ s.tl.reportCount + 1
      let begun : State := { s with
        tl := { s.tl with
          counter := 0, frame := s.tl.frame + 1, startTick := s.now, newBank := s.tl.waiting.isSome, ended := none
          latched := .both false, scanOpened := .both false, strobe := .both .before, expose := .all .before }
        disp := { s.disp with eyes := s.disp.eyes.map fun d => { d with repeats := 0, lit := false } }
        shift := { s.shift with latched := .both false }
        motion := { s.motion with darkened := false } }
      let record (phase : PhaseMode) : FrameRecord := { frameNow false s with phase := phase }
      let whole (switched : State) : State :=
        let x := adjustPhase switched
        computeGrants (closeAverage { x with
          tl := { x.tl with reportCount := if due then 0 else s.tl.reportCount + 1 }
          link := offered (if due then [.frame (record x.tl.phase)] else []) s })
      (s.tl.waiting = none → exec .frameStart s = .next (whole begun)) ∧
      (∀ c, s.tl.waiting = some c → TableSound s → ∃ r', waitingEnded (fun e => e.wait = .commit) .ok
          (fun _ => .committed c (s.tl.frame + 1) true) s.req r' ∧
        exec .frameStart s = .next (whole { begun with
          tl := { begun.tl with active := s.tl.pendingBank, windows := c.windows, leads := c.leads, waiting := none }
          req := r' })) ∧
      ∃ t, exec .frameStart s = .next t ∧
        t.tl.running = true ∧ t.tl.counter = 0 ∧ t.tl.frame = s.tl.frame + 1 ∧ t.tl.startTick = s.now ∧
        t.tl.strobe = .both .before ∧ t.tl.expose = .all .before ∧ t.tl.latched = .both false ∧
        t.tl.scanOpened = .both false ∧ t.tl.waiting = none ∧ t.tl.newBank = s.tl.waiting.isSome ∧ t.tl.ended = none ∧
        t.tl.pendingBank = s.tl.pendingBank ∧ t.tl.anchor = s.tl.anchor ∧
        (s.tl.waiting = none → t.tl.active = s.tl.active ∧ t.tl.windows = s.tl.windows ∧ t.tl.leads = s.tl.leads) ∧
        (∀ c, s.tl.waiting = some c →
          t.tl.active = s.tl.pendingBank ∧ t.tl.windows = c.windows ∧ t.tl.leads = c.leads ∧
          (TableSound s → (∀ e, e ∈ t.req.table ↔ e ∈ s.req.table ∧ e.wait ≠ .commit) ∧
            ∀ e ∈ s.req.table, e.wait = .commit → ∃ x ∈ t.req.replies, x.client = e.client ∧ x.tag = e.tag ∧
              x.status = .ok ∧ x.body = .committed c (s.tl.frame + 1) true ∧ x.taken = e.taken)) ∧
        (s.tl.waiting = none → t.req = { s.req with events := t.req.events }) ∧
        (s.tl.anchor = none ∨ s.time.sync = .unsynced → t.tl.adj = 0 ∧ t.tl.frameError = none ∧
          t.tl.lastError = s.tl.lastError ∧ t.tl.phase = s.tl.phase ∧ t.tl.lockRun = s.tl.lockRun) ∧
        (∀ a, s.tl.anchor = some a → s.time.sync ≠ .unsynced →
          let half : Int := (t.tl.active.period / 2 : Nat)
          let e := (hostDiff (s.time.hostOf s.now) a + half) % t.tl.active.period - half
          t.tl.adj = clampInt (-20) 20 (-(Int.tdiv e 2)) ∧ t.tl.lastError = some e ∧ t.tl.frameError = some e) ∧
        t.tl.reportCount = (if due then 0 else s.tl.reportCount + 1) ∧
        t.link = offered (if due then [.frame (record t.tl.phase)] else []) s ∧
        (∀ e, t.disp.eyes.get e = { s.disp.eyes.get e with repeats := 0, lit := false, drive := 0 }) ∧
        t.shift = { s.shift with latched := .both false } ∧
        t.motion = { s.motion with darkened := false, cams := s.motion.cams.map fun k => { k with drive := 0 } } ∧
        t.power.count = 0 ∧ (0 < s.power.count → t.power.average = s.power.sum / s.power.count) ∧
        t = { s with
          tl := t.tl, req := t.req, link := t.link, disp := t.disp, shift := t.shift, motion := t.motion
          audio := t.audio, power := t.power, free := t.free }) ∧
    ∀ f, s.tl.ended = some f → f.divider ≤ s.tl.reportCount → exec .frameRecordDue s = .next { s with
      tl := { s.tl with reportCount := 0, ended := none }
      link := offered [.frame f.record] s }

/-! ## Display Output and Late Shift Unit -/

/-- DISPLAY_CONFIG: refused WRONG_STATE in RUN, with no body (log 34), and OUT_OF_RANGE with the first refusing field of
panel columns, panel rows, ppd_x and ppd_y; otherwise the configuration, with margins and lead clamped, replaces the one
in force, both eyes' video is flushed, the WEAR condition is judged anew, and the reply carries the configuration, the
clamp flags and the number of heads discarded (R48, R57). -/
def Obligations.DisplayConfigTaken : Prop :=
  ∀ s : State, Admitted .displayConfig s → LightsSound s →
    let q := asked s
    let word (i : Nat) : Nat := (u16 q.body i).toNat
    let given : DisplayConfig := ⟨word 0, word 2, word 4, word 6, word 8, word 10, word 12, byteAt q.body 14 != 0⟩
    let c : DisplayConfig := { given with
      marginX := min given.marginX 128, marginY := min given.marginY 32, lead := max 200 (min given.lead 3000) }
    let columns := 1000 ≤ given.columns ∧ given.columns ≤ 2560
    let rows := 1000 ≤ given.rows ∧ given.rows ≤ 2560
    let ppdX := 256 ≤ given.ppdX ∧ given.ppdX ≤ 25600
    let ppdY := 256 ≤ given.ppdY ∧ given.ppdY ≤ 25600
    (s.tl.running = true → exec .displayConfig s = .next { s with req := answered q .wrongState .empty s.req }) ∧
    (s.tl.running = false →
      let names (f : Field) : Prop :=
        exec .displayConfig s = .next { s with req := answered q .outOfRange (.field f) s.req }
      (¬ columns → names .panelColumns) ∧ (columns → ¬ rows → names .panelRows) ∧
      (columns → rows → ¬ ppdX → names .ppdX) ∧ (columns → rows → ppdX → ¬ ppdY → names .ppdY)) ∧
    (s.tl.running = false → columns → rows → ppdX → ppdY →
      let held (d : EyeDisplay) : Nat := (if d.pending.isSome then 1 else 0) + (if d.bound.isSome then 1 else 0)
      let flushed : State := { s with disp := { s.disp with
        config := c
        eyes := s.disp.eyes.map fun d => { d with lines := [], pending := none, bound := none } } }
      let t := if given.wearBlanking = true ∧ s.motion.wear = .removed then blanked .wear flushed
        else { flushed with disp := { flushed.disp with present := { s.disp.present with wear := false } } }
      exec .displayConfig s = .next { t with
        req := answered q .ok (.displayConfig c (128 < given.marginX) (32 < given.marginY)
          (given.lead < 200 || 3000 < given.lead) (held s.disp.eyes.left + held s.disp.eyes.right)) t.req })

/-- DISPLAY_DRIVE: the two requested codes, each clamped to 0..1023, replace the drive requests held at once; the reply
is OK with the codes held and a clamp flag for each; no grant is computed and no light changes (R49). -/
def Obligations.DisplayDriveTaken : Prop :=
  ∀ s : State, Admitted .displayDrive s →
    let q := asked s
    let l := (u16 q.body 0).toNat
    let r := (u16 q.body 2).toNat
    exec .displayDrive s = .next { s with
      disp := { s.disp with eyes :=
        ⟨{ s.disp.eyes.left with request := min l 1023 }, { s.disp.eyes.right with request := min r 1023 }⟩ }
      req := answered q .ok (.drive ⟨min l 1023, min r 1023⟩ ⟨decide (1023 < l), decide (1023 < r)⟩) s.req }

/-- DISPLAY_BLANK makes the HOST condition present, which sets its latch, darkens both strobes and raises DISPLAY_BLANKED
if no latch was set, and changes nothing if HOST is present already; the reply is OK with the causes latched and the
conditions present after the request (R59). -/
def Obligations.DisplayBlankTaken : Prop :=
  ∀ s : State, Admitted .displayBlank s → LightsSound s →
    let t : State := if s.disp.present.host = true then s
      else { s with
        disp := { s.disp with
          eyes := s.disp.eyes.map fun d => { d with drive := 0 }
          present := { s.disp.present with host := true }, latches := { s.disp.latches with host := true } }
        req := withEvent (!s.disp.latches.any) .displayOutput (.displayBlanked .host) s.now s.req }
    exec .displayBlank s = .next { t with req := answered (asked s) .ok (.causes t.disp.latches t.disp.present) t.req }

/-- DISPLAY_RESUME makes the HOST condition absent and then clears the latch of each cause whose condition is absent,
leaving the others; a strobe whose other conditions hold lights at once; the reply is OK with the causes still latched
and the conditions present, and no event is raised (R60). -/
def Obligations.DisplayResumeTaken : Prop :=
  ∀ s : State, Admitted .displayResume s →
    let present := { s.disp.present with host := false }
    let p := s.disp.present
    let l := s.disp.latches
    let latches : Causes := ⟨l.link && p.link, l.power && p.power, l.wear && p.wear, l.stallLeft && p.stallLeft,
      l.stallRight && p.stallRight, false⟩
    exec .displayResume s = .next { lights { s with disp := { s.disp with present := present, latches := latches } } with
      req := answered (asked s) .ok (.causes latches present) s.req }

/-- PANEL_POWER with power on: refused OUT_OF_RANGE for a bad mask (judged first: log 31), WRONG_STATE asleep, BUSY while
a named eye is WAKING, each with no body (log 34); answered OK at once when every named eye is ON, with the state of each
as a request that waited has it (log 50); otherwise the named eyes that are OFF become WAKING for 30,000 µs, the grants
are computed and the request waits. WAKE_TIMER_EXPIRY makes the panel ON, which may light its strobe, and answers the
waiting requests whose eyes are all ON (R44, R45, R126, R128). -/
def Obligations.PanelPowerOnAndWake : Prop :=
  ∀ s : State,
    let q := asked s
    let mask := (byteAt q.body 0).toNat
    let n : PerEye Bool := ⟨decide (mask % 2 = 1), decide (2 ≤ mask)⟩
    let panel (t : State) (e : Eye) := (t.disp.eyes.get e).panel
    (Admitted .panelPower s → byteAt q.body 1 ≠ 0 →
      let refused (st : Status) : State := { s with req := answered q st .empty s.req }
      (mask = 0 ∨ 3 < mask → exec .panelPowerOn s = .next (refused .outOfRange)) ∧
      (1 ≤ mask → mask ≤ 3 →
        (s.power.asleep = true → exec .panelPowerOn s = .next (refused .wrongState)) ∧
        (s.power.asleep = false → (∃ e, n.get e = true ∧ panel s e = .waking) →
          exec .panelPowerOn s = .next (refused .busy)) ∧
        (s.power.asleep = false → (∀ e, n.get e = true → panel s e = .on) →
          exec .panelPowerOn s = .next { s with
            req := answered q .ok (.panels ⟨if n.left then some .on else none, if n.right then some .on else none⟩) s.req }) ∧
        (s.power.asleep = false → (∀ e, n.get e = true → panel s e ≠ .waking) →
          (∃ e, n.get e = true ∧ panel s e = .off) →
          let wake (e : Eye) : EyeDisplay := if n.get e = true ∧ panel s e = .off
            then { s.disp.eyes.get e with panel := .waking, wake := 30000 } else s.disp.eyes.get e
          let t := computeGrants { s with disp := { s.disp with eyes := ⟨wake .left, wake .right⟩ } }
          exec .panelPowerOn s = .next { t with req := leftWaiting q (.panels n.left n.right) t.req }))) ∧
    ∀ e, s.powered = true → panel s e = .waking → (s.disp.eyes.get e).wake = 0 → TableSound s →
      let t := lights { s with disp := { s.disp with
        eyes := s.disp.eyes.set e { s.disp.eyes.get e with panel := .on } } }
      let allOn (x : Entry) : Prop :=
        ∃ l r, x.wait = .panels l r ∧ (l = true → panel t .left = .on) ∧ (r = true → panel t .right = .on)
      let body (x : Entry) : ReplyBody :=
        match x.wait with
        | .panels l r =>
          .panels ⟨if l then some (panel t .left) else none, if r then some (panel t .right) else none⟩
        | _ => .empty
      ∃ r', waitingEnded allOn .ok body s.req r' ∧ exec (.wakeTimerExpiry e) s = .next { t with req := r' }

/-- PANEL_POWER with power off: refused OUT_OF_RANGE for a bad mask (log 31), with no body (log 34); otherwise each named
eye is OFF at once, its wake timer stopped at 0 (log 53), its off-by-sleep mark cleared, its scan ended and its strobe dark; the grants
are computed if a named eye was WAKING or ON; waiting requests that name such an eye are answered CANCELLED, with no body
(log 34), two of them in the table's order (log 48), before the OK (log 13); the reply is OK (R46, R126, R128). -/
def Obligations.PanelPowerOffTaken : Prop :=
  ∀ s : State, Admitted .panelPower s → LightsSound s → TableSound s →
    let q := asked s
    byteAt q.body 1 = 0 →
    let mask := (byteAt q.body 0).toNat
    let n : PerEye Bool := ⟨decide (mask % 2 = 1), decide (2 ≤ mask)⟩
    (mask = 0 ∨ 3 < mask →
      exec .panelPowerOff s = .next { s with req := answered q .outOfRange .empty s.req }) ∧
    (1 ≤ mask → mask ≤ 3 →
      let off (e : Eye) : EyeDisplay := if n.get e = true
        then { s.disp.eyes.get e with panel := .off, wake := 0, sleepMark := false, scan := none, drive := 0 }
        else s.disp.eyes.get e
      let dark : State := { s with disp := { s.disp with eyes := ⟨off .left, off .right⟩ } }
      let t := if (n.left = true ∧ s.disp.eyes.left.panel ≠ .off) ∨ (n.right = true ∧ s.disp.eyes.right.panel ≠ .off)
        then computeGrants dark else dark
      ∃ r', waitingEnded (fun x => ∃ l r, x.wait = .panels l r ∧ ((l = true ∧ n.left = true) ∨ (r = true ∧ n.right = true)))
          .cancelled (fun _ => .empty) t.req r' ∧
        exec .panelPowerOff s = .next { t with req := answered q .ok .empty r' })

/-- LATE_SHIFT: refused OUT_OF_RANGE for a bad mask, with no body (log 34); otherwise judged for each named eye against
its heads: with an eye NOT_FOUND it is refused WRONG_STATE and stores nothing (the outcomes in that reply: log 35); with
none, the clamped values are stored on each pending head of that id, and the reply is LATE where some eye's frame is
already bound, else OK (R92, R93). -/
def Obligations.LateShiftTaken : Prop :=
  ∀ s : State, Admitted .lateShift s →
    let q := asked s
    let mask := (byteAt q.body 0).toNat
    let n : PerEye Bool := ⟨decide (mask % 2 = 1), decide (2 ≤ mask)⟩
    (mask = 0 ∨ 3 < mask →
      exec .lateShift s = .next { s with req := answered q .outOfRange .empty s.req }) ∧
    (1 ≤ mask → mask ≤ 3 →
      let id := u16 q.body 1
      let x := (u16 q.body 3).toInt
      let y := (u16 q.body 5).toInt
      let mx : Int := s.disp.config.marginX
      let my : Int := s.disp.config.marginY
      let late : LateShift := ⟨max (-mx) (min x mx), max (-my) (min y my), x < -mx || mx < x, y < -my || my < y⟩
      let isStored (e : Eye) : Prop := ∃ h, (s.disp.eyes.get e).pending = some h ∧ h.id = id
      let isLate (e : Eye) : Prop := ¬ isStored e ∧ ∃ h, (s.disp.eyes.get e).bound = some h ∧ h.id = id
      ∃ o : PerEye (Option LateOutcome),
        (∀ e, n.get e = false → o.get e = none) ∧
        (∀ e h, n.get e = true → (s.disp.eyes.get e).pending = some h → h.id = id →
          o.get e = some (.stored late h.mode)) ∧
        (∀ e, n.get e = true → isLate e → o.get e = some (.late (s.shift.record.get e))) ∧
        (∀ e, n.get e = true → ¬ isStored e → ¬ isLate e → o.get e = some .notFound) ∧
        ((∃ e, n.get e = true ∧ ¬ isStored e ∧ ¬ isLate e) →
          exec .lateShift s = .next { s with req := answered q .wrongState (.lateShift o) s.req }) ∧
        ((∀ e, n.get e = true → isStored e ∨ isLate e) →
          ∃ st, ((∃ e, n.get e = true ∧ isLate e) → st = Status.late) ∧
            ((∀ e, n.get e = true → isStored e) → st = Status.ok) ∧
            ∃ eyes : PerEye EyeDisplay,
              (∀ e h, n.get e = true → (s.disp.eyes.get e).pending = some h → h.id = id →
                eyes.get e = { s.disp.eyes.get e with pending := some { h with late := some late } }) ∧
              (∀ e, ¬ (n.get e = true ∧ isStored e) → eyes.get e = s.disp.eyes.get e) ∧
              exec .lateShift s = .next { s with
                disp := { s.disp with eyes := eyes }
                req := answered q st (.lateShift o) s.req }))

/-- Video packets in UP: a well-formed head becomes the eye's pending head, and one that replaces another counts it and
raises FRAME_DROPPED; a row whose id a head of the eye has goes into slot s mod 96, every other slot as before; other
rows are strays; malformed heads and rows, and packets that are neither, are counted. A head has 12 bytes: eye, shift
mode, id and pose time; a row has 8 bytes and three for each of its W + 2M_x pixels: eye, id, source row below H_p +
2M_y, pixel count (R50, R52, R179). -/
def Obligations.HeadsAndRows : Prop :=
  ∀ (s : State) (p : List Byte), s.powered = true → s.link.state = .up →
    let counted : State := { s with link := heardVideo s, disp := { s.disp with malformed := s.disp.malformed + 1 } }
    let mode (m : ShiftMode) : Nat := match m with | .auto => 0 | .host => 1 | .none => 2
    let side (e : Eye) : Nat := match e with | .left => 0 | .right => 1
    (parseHead p = none ↔ p.length ≠ 12 ∨ 1 < (byteAt p 0).toNat ∨ 2 < (byteAt p 1).toNat) ∧
    (∀ e h, parseHead p = some (e, h) → (byteAt p 0).toNat = side e ∧ (byteAt p 1).toNat = mode h.mode ∧
      h.id = u16 p 2 ∧ h.pose = u64 p 4 ∧ h.late = none) ∧
    (parseRow s.disp.config p = none ↔ p.length < 8 ∨ p.length ≠ 8 + 3 * (u16 p 6).toNat ∨
      (u16 p 6).toNat ≠ s.disp.config.columns + 2 * s.disp.config.marginX ∨
      s.disp.config.rows + 2 * s.disp.config.marginY ≤ (u16 p 4).toNat ∨ 1 < (byteAt p 0).toNat) ∧
    (∀ e r, parseRow s.disp.config p = some (e, r) →
      (byteAt p 0).toNat = side e ∧ r.id = u16 p 2 ∧ r.row = (u16 p 4).toNat ∧ r.pixels = p.drop 8) ∧
    (parseHead p = none → exec (.frameHead p) s = .next counted) ∧
    (parseRow s.disp.config p = none → exec (.row p) s = .next counted) ∧
    exec .malformedVideoPacket s = .next counted ∧
    (∀ e h, parseHead p = some (e, h) →
      let d := s.disp.eyes.get e
      ((d.pending = none → exec (.frameHead p) s = .next { s with
        link := heardVideo s
        disp := { s.disp with
          headsReceived := s.disp.headsReceived + 1, eyes := s.disp.eyes.set e { d with pending := some h } } }) ∧
      ∀ old, d.pending = some old → exec (.frameHead p) s = .next { s with
        link := heardVideo s
        disp := { s.disp with
          headsReceived := s.disp.headsReceived + 1, headsDropped := s.disp.headsDropped + 1
          eyes := s.disp.eyes.set e { d with pending := some h } }
        req := withEvent true (.eye e) (.frameDropped old.id h.id) s.now s.req })) ∧
    ∀ e r, parseRow s.disp.config p = some (e, r) →
      let d := s.disp.eyes.get e
      let known := d.pending.map Head.id = some r.id ∨ d.bound.map Head.id = some r.id
      (known → StoresSound s → ∃ lines, exec (.row p) s = .next { s with
          link := heardVideo s
          disp := { s.disp with
            rowsStored := s.disp.rowsStored + 1, eyes := s.disp.eyes.set e { d with lines := lines } } } ∧
        lines.wf = true ∧ LineStore.read lines (r.row % 96) = some r ∧
        ∀ i, i ≠ r.row % 96 → LineStore.read lines i = LineStore.read d.lines i) ∧
      (¬ known → exec (.row p) s = .next { s with
        link := heardVideo s, disp := { s.disp with strayRows := s.disp.strayRows + 1 } })

/-- The latch of an eye whose latch point the counter has reached: with a pending head the eye binds it, with the shift
result as its latched shift, missed-frame run 0 and its VIDEO_STALL condition absent, and a late shift stored on the head
is consumed; without one it misses: no bound
head, a zero shift, the run one more, and at a run of 3 the VIDEO_STALL condition becomes present, DISPLAY_BLANKED coming
before VIDEO_STALL (log 13). VIDEO_STALL alone does that last part (log 4). The lights follow (R4, R53, R54, R57, R61,
R89, R94). -/
def Obligations.LatchBindsOrMisses : Prop :=
  ∀ (s : State) (e : Eye), s.powered = true →
    let d := s.disp.eyes.get e
    let stalled (run : Nat) (t : State) : State :=
      let b := blanked (stallCause e) t
      { b with req := withEvent true (.eye e) (.videoStall run) s.now b.req }
    (∀ at_, s.tl.running = true → s.tl.latched.get e = false → s.tl.latchPoint e = some at_ → at_ ≤ s.tl.counter →
      let latched : Timeline := { s.tl with latched := s.tl.latched.set e true }
      (∀ h, d.pending = some h →
        let r := shiftFor e h s
        exec (.latch e) s = .next (lights { s with
          tl := latched
          disp := { s.disp with
            eyes := s.disp.eyes.set e { d with pending := none, bound := some { h with late := none }, shift := r, missed := 0 }
            present := s.disp.present.set (stallCause e) false }
          shift := ⟨s.shift.record.set e r, s.shift.latched.set e true⟩ })) ∧
      (d.pending = none →
        let run := min 65535 (d.missed + 1)
        let missed := lights { s with
          tl := latched
          disp := { s.disp with eyes := s.disp.eyes.set e { d with bound := none, shift := .zero, missed := run } }
          shift := { s.shift with record := s.shift.record.set e .zero } }
        exec (.latch e) s =
          .next (if 3 ≤ run ∧ s.disp.present.get (stallCause e) = false then stalled run missed else missed))) ∧
    (LightsSound s → 3 ≤ d.missed → s.disp.present.get (stallCause e) = false →
      exec (.videoStall e) s = .next (stalled d.missed s))

/-- The shift result of a latch: mode NONE gives a zero shift of source NONE; mode HOST with a stored late shift gives
that shift; otherwise it is computed: zero with the flag NOSYNC in UNSYNCED, zero with the flag NODATA with an empty
ring, zero with no flag with the middle of the light at or before the pose, and else the rates of the ring less the biases, each held from its sample's
tick to the next sample's and the newest to the end, summed over the interval from the pose, at most 100 ms back and no
further than the ring, give the pixels; every result lies within the margins (R89, R91, R96 to R102). -/
def Obligations.ShiftResults : Prop :=
  ∀ (s : State) (e : Eye) (h : Head),
    let r := shiftFor e h s
    let src : ShiftSource := if h.mode = .host then .hostLate else .auto
    let computed := h.mode = .auto ∨ (h.mode = .host ∧ h.late = none)
    withinMargins s.disp.config r ∧
    (h.mode = .none → r = ⟨0, 0, .none, false, false, false, false, false⟩) ∧
    (∀ l, h.mode = .host → h.late = some l →
      let mx : Int := s.disp.config.marginX
      let my : Int := s.disp.config.marginY
      (-mx ≤ l.sx) → l.sx ≤ mx → -my ≤ l.sy → l.sy ≤ my →
        r = ⟨l.sx, l.sy, .host, l.clampX || l.clampY, false, false, false, false⟩) ∧
    (computed → s.time.sync = .unsynced → r = ⟨0, 0, src, false, false, false, false, true⟩) ∧
    (computed → s.time.sync ≠ .unsynced → s.motion.ring = [] → r = ⟨0, 0, src, false, false, false, true, false⟩) ∧
    (computed → s.time.sync ≠ .unsynced → ∀ first rest, s.motion.ring = first :: rest →
      let w := if (s.tl.windows.strobe.get e).on then s.tl.windows.strobe.get e else s.tl.windows.scan.get e
      let b := s.tl.startTick + BitVec.ofNat 48 ((w.start + w.stop) / 2)
      let len := tickDiff b (s.time.devOf h.pose)
      (len ≤ 0 → r = ⟨0, 0, src, false, false, false, false, false⟩) ∧
      (0 < len →
        let wanted := if 100000 < len then b - 100000 else s.time.devOf h.pose
        let short := decide (tickDiff wanted first.tick < 0)
        let a := if short then first.tick else wanted
        let bias := s.motion.config.bias
        let c := s.disp.config
        let start (i : Nat) : Int := tickDiff ((s.motion.ring[i]?.map Sample.tick).getD 0) a
        let till (i : Nat) : Int := if i + 1 < s.motion.ring.length then start (i + 1) else tickDiff b a
        let held (i : Nat) : Int := max 0 (min (till i) (tickDiff b a) - max (start i) 0)
        let yaw := (s.motion.ring.zipIdx.map fun x => (x.1.gyro.yaw - bias.yaw) * held x.2).sum
        let pitch := (s.motion.ring.zipIdx.map fun x => (x.1.gyro.pitch - bias.pitch) * held x.2).sum
        let x := -(roundDiv (yaw * c.ppdX) 256000000000)
        let y := roundDiv (pitch * c.ppdY) 256000000000
        let sx : Int := max (-(c.marginX : Int)) (min c.marginX x)
        let sy : Int := max (-(c.marginY : Int)) (min c.marginY y)
        r = ⟨sx, sy, src, sx != x || sy != y, short, decide (100000 < len), false, false⟩))

/-- The scan and the strobe of an eye: the scan begins at its window's opening when the eye latched a bound frame in this
frame and its panel is ON; a row whose slot holds (bound id, s) is written, shifted, and any other repeats the row before
it, black for the first (pixels of zero components: log 27), and is counted; the strobe lights at its window's opening
exactly when its conditions hold and is dark after its close (R55, R56, R61, R62). -/
def Obligations.ScanAndStrobe : Prop :=
  ∀ (s : State) (e : Eye), s.powered = true → s.tl.running = true →
    let d := s.disp.eyes.get e
    let c := s.disp.config
    ((s.tl.windows.scan.get e).on = true → s.tl.scanOpened.get e = false → s.tl.latched.get e = true →
      (s.tl.windows.scan.get e).start ≤ s.tl.counter →
      exec (.scanWindowOpen e) s = .next { s with
        tl := { s.tl with scanOpened := s.tl.scanOpened.set e true }
        disp := { s.disp with
          eyes := s.disp.eyes.set e (if d.bound.isSome = true ∧ s.shift.latched.get e = true ∧ d.panel = .on
            then { d with scan := some 0, lastRow := none } else d) } }) ∧
    (∀ k h, d.scan = some k → k < c.rows → d.bound = some h →
      rowInstant (s.tl.windows.scan.get e) c.rows k ≤ s.tl.counter →
      let row := ((k : Int) + c.marginY + d.shift.sy).toNat
      let next := if k + 1 < c.rows then some (k + 1) else none
      (∀ px, LineStore.read d.lines (row % 96) = some ⟨h.id, row, px⟩ →
        exec (.scanRow e) s = .next { s with disp := { s.disp with
          eyes := s.disp.eyes.set e { d with
            scan := next
            lastRow := some (k, (px.drop (3 * ((c.marginX : Int) + d.shift.sx).toNat)).take (3 * c.columns)) } } }) ∧
      ((∀ px, LineStore.read d.lines (row % 96) ≠ some ⟨h.id, row, px⟩) →
        exec (.scanRow e) s = .next { s with disp := { s.disp with
          eyes := s.disp.eyes.set e { d with
            scan := next
            lastRow := some (k, (d.lastRow.map Prod.snd).getD (List.replicate (3 * c.columns) 0))
            repeats := min 65535 (d.repeats + 1) } } })) ∧
    (LightsSound s → (s.tl.windows.strobe.get e).on = true → s.tl.strobe.get e = .before →
      (s.tl.windows.strobe.get e).start ≤ s.tl.counter →
      let lit := d.panel == .on && d.bound.isSome && s.shift.latched.get e && !s.disp.latches.any && !s.power.brownout &&
        decide (0 < (s.power.strobe.get e).grant)
      exec (.strobeWindowOpen e) s = .next { s with
        tl := { s.tl with strobe := s.tl.strobe.set e .opened }
        disp := { s.disp with
          eyes := s.disp.eyes.set e { d with
            drive := if lit then (s.power.strobe.get e).grant else 0
            lit := d.lit || lit } } }) ∧
    (LightsSound s → s.tl.strobe.get e = .opened → (s.tl.windows.strobe.get e).stop ≤ s.tl.counter →
      exec (.strobeWindowClose e) s = .next { s with
        tl := { s.tl with strobe := s.tl.strobe.set e .closed }
        disp := { s.disp with eyes := s.disp.eyes.set e { d with drive := 0 } } })

/-! ## Motion Hub -/

/-- The exposure window of a camera: at its opening an IDLE channel becomes OPEN with a new context, a CLOSING one after
its exposure is closed as its deadline would close it, and a DISABLED one does nothing; at its close a channel in OPEN
becomes IDLE if its record is made and CLOSING, with its deadline 500 ticks on, if not; and a deadline closes the
exposure. The illuminator is lit in the window while its other conditions hold (R79, R81, R84). -/
def Obligations.ExposureWindows : Prop :=
  ∀ (s : State) (c : Camera), s.powered = true → LightsSound s →
    let k := s.motion.cams.get c
    let w := s.tl.windows.expose.get c
    let phase (p : WindowPhase) : Timeline := { s.tl with expose := s.tl.expose.set c p }
    let lamp : Nat :=
      if s.power.brownout = false ∧ s.motion.darkened = false ∧ s.power.asleep = false then (s.power.illum.get c).grant else 0
    let opened (t : State) : State := { t with
      tl := phase .opened
      motion := { t.motion with cams := t.motion.cams.set c { k with
        state := .opened, context := some ⟨s.tl.frame, s.now, none, none, 0, false, false, 0⟩, drive := lamp } } }
    let closed (x : Cam) : State := { s with
      tl := phase .closed, motion := { s.motion with cams := s.motion.cams.set c { x with drive := 0 } } }
    (s.tl.running = true → w.on = true → s.tl.expose.get c = .before → w.start ≤ s.tl.counter →
      (k.state = .idle → exec (.exposureWindowOpen c) s = .next (opened s)) ∧
      (∀ x, k.state = .closing → k.context = some x →
        exec (.exposureWindowOpen c) s = .next (opened (deadlineClosed c x s))) ∧
      (k.state = .disabled → exec (.exposureWindowOpen c) s = .next { s with tl := phase .opened })) ∧
    (s.tl.running = true → s.tl.expose.get c = .opened → w.stop ≤ s.tl.counter →
      (∀ x, k.state = .opened → k.context = some x → x.recorded = true →
        exec (.exposureWindowClose c) s = .next (closed { k with state := .idle, context := none })) ∧
      (∀ x, k.state = .opened → k.context = some x → x.recorded = false →
        exec (.exposureWindowClose c) s =
          .next (closed { k with state := .closing, context := some { x with deadline := s.now + 500 } })) ∧
      (k.state ≠ .opened → exec (.exposureWindowClose c) s = .next { s with tl := phase .closed })) ∧
    ∀ x, k.state = .closing → k.context = some x → 0 ≤ tickDiff s.now x.deadline →
      exec (.exposureDeadline c) s = .next (deadlineClosed c x s)

/-- The frame-valid edges of a camera: in OPEN or CLOSING the first rising edge gives the start tick with the drive
applied then, the first falling edge after it the end tick and the record, which leaves OPEN until the window closes and
CLOSING for IDLE; every other edge is a stray, counted, and changes no context (R80, R82). -/
def Obligations.CameraEdges : Prop :=
  ∀ (s : State) (c : Camera), s.powered = true →
    let k := s.motion.cams.get c
    let active := k.state = .opened ∨ k.state = .closing
    let channel (x : Cam) : Motion := { s.motion with cams := s.motion.cams.set c x }
    let stray : State := { s with motion := { s.motion with strayEdges := s.motion.strayEdges + 1 } }
    (∀ x, active → k.context = some x → x.start = none →
      exec (.frameValidRise c) s = .next { s with motion := channel { k with
        context := some { x with start := some s.now, drive := k.drive, lateStart := k.state == .closing } } }) ∧
    (∀ x t, active → k.context = some x → x.start = some t → x.stop = none →
      exec (.frameValidFall c) s = .next { s with
        link := offered [.exposure ⟨c, x.frame, t, x.trigger, some s.now, x.drive, false, false, false, x.lateStart⟩] s
        motion := channel (if k.state = .closing then { k with state := .idle, context := none }
          else { k with context := some { x with stop := some s.now, recorded := true } }) }) ∧
    ((¬ active ∨ k.context = none ∨ ∃ x t, k.context = some x ∧ x.start = some t) →
      exec (.frameValidRise c) s = .next stray) ∧
    ((¬ active ∨ k.context = none ∨ ∃ x, k.context = some x ∧ (x.start = none ∨ ∃ t, x.stop = some t)) →
      exec (.frameValidFall c) s = .next stray)

/-- MOTION_CONFIG: refused BUSY in STARTING, with no body (log 34), and OUT_OF_RANGE with the first refusing field of
gyro range, accelerometer range, sample rate, axis map and decimation; otherwise the configuration, its biases clamped,
is in force, reads, ring and counts are cleared, the port is STARTING for 50,000 µs, the grants are computed if the port
was OFF or FAILED, and the request waits until START_TIMER_EXPIRY makes the port RUNNING and answers it. The body has the
three axes before the three signs (log 40). CAMERA_CONFIG, refused OUT_OF_RANGE with no body (log 34) for a bad camera,
replaces the drive request, clamped, and a change of enable makes the channel IDLE or DISABLED, an exposure in progress
closed early, with a grant computation (R67, R68, R78, R82, R128). -/
def Obligations.MotionAndCameraConfig : Prop :=
  (∀ s : State,
    let q := asked s
    let byte (i : Nat) : Nat := (byteAt q.body i).toNat
    let switch (i : Nat) : Bool := byteAt q.body i != 0
    let c : MotionConfig := ⟨(u16 q.body 0).toNat, byte 2, (u16 q.body 3).toNat, ⟨byte 5, byte 6, byte 7⟩,
      ⟨switch 8, switch 9, switch 10⟩, ⟨(u32 q.body 11).toInt, (u32 q.body 15).toInt, (u32 q.body 19).toInt⟩, byte 23,
      switch 24⟩
    let gyro := c.gyroRange ∈ [250, 500, 1000, 2000]
    let accel := c.accelRange ∈ [2, 4, 8, 16]
    let rate := c.rate ∈ [500, 1000, 2000]
    let axes := [c.axis.yaw, c.axis.pitch, c.axis.roll].Nodup ∧ c.axis.yaw ≤ 2 ∧ c.axis.pitch ≤ 2 ∧ c.axis.roll ≤ 2
    let decimation := 1 ≤ c.decimation ∧ c.decimation ≤ 8
    let bias (b : Int) : Int := max (-50000) (min 50000 b)
    let clamped : PerAxis Bool :=
      ⟨bias c.bias.yaw != c.bias.yaw, bias c.bias.pitch != c.bias.pitch, bias c.bias.roll != c.bias.roll⟩
    (Admitted .motionConfig s →
      (s.motion.port = .starting → exec .motionConfig s = .next { s with req := answered q .busy .empty s.req }) ∧
      (s.motion.port ≠ .starting →
        let names (f : Field) : Prop :=
          exec .motionConfig s = .next { s with req := answered q .outOfRange (.field f) s.req }
        (¬ gyro → names .gyroRange) ∧ (gyro → ¬ accel → names .accelRange) ∧
        (gyro → accel → ¬ rate → names .sampleRate) ∧ (gyro → accel → rate → ¬ axes → names .axisMap) ∧
        (gyro → accel → rate → axes → ¬ decimation → names .decimation)) ∧
      (s.motion.port ≠ .starting → gyro → accel → rate → axes → decimation →
        let taken : State := { s with motion := { s.motion with
          config := { c with bias := ⟨bias c.bias.yaw, bias c.bias.pitch, bias c.bias.roll⟩ }
          read := none, edge := none, ring := [], decimation := 0, missed := 0, failures := 0
          port := .starting, start := 50000 } }
        let t := if s.motion.port = .running then taken else computeGrants taken
        exec .motionConfig s = .next { t with req := leftWaiting q (.motion clamped) t.req })) ∧
    (s.powered = true → s.motion.port = .starting → s.motion.start = 0 → TableSound s →
      let body (x : Entry) : ReplyBody :=
        match x.wait with
        | .motion f => .motionConfig s.motion.config f
        | _ => .empty
      ∃ r', waitingEnded (fun x => ∃ f, x.wait = .motion f) .ok body s.req r' ∧
        exec .startTimerExpiry s = .next { s with motion := { s.motion with port := .running }, req := r' })) ∧
  ∀ s : State, Admitted .cameraConfig s → LightsSound s →
    let q := asked s
    let on := byteAt q.body 1 ≠ 0
    let given := (u16 q.body 2).toNat
    (3 < (byteAt q.body 0).toNat → exec .cameraConfig s = .next { s with req := answered q .outOfRange .empty s.req }) ∧
    ∀ c : Camera, (byteAt q.body 0).toNat = c.val →
      let k := { s.motion.cams.get c with request := min given 1023 }
      let replied (t : State) : State :=
        { t with req := answered q .ok (.camera (decide on) (min given 1023) (decide (1023 < given))) t.req }
      let channel (x : Cam) : State := { s with motion := { s.motion with cams := s.motion.cams.set c x } }
      ((on ↔ k.state ≠ .disabled) → exec .cameraConfig s = .next (replied (channel k))) ∧
      (on → k.state = .disabled → exec .cameraConfig s =
        .next (replied (computeGrants (channel { k with state := .idle, context := none })))) ∧
      (¬ on → k.state ≠ .disabled → exec .cameraConfig s =
        .next (replied (computeGrants { channel { k with state := .disabled, context := none, drive := 0 } with
          link := offered (earlyRecord s c).toList s })))

/-- The IMU port: an edge begins a read, becomes pending or is missed in RUNNING, and is ignored otherwise, and so is a
second edge at one tick (log 41); a well-formed answer within the read's time is converted and stored with its edge's
tick, the ring keeping the newest 64, and a due sample is offered while reporting is on; a malformed answer and a timeout
at 100 µs fail the read and raise IMU_FAULT; an answer that finds no read in flight, or is to another read than the one
in flight, which the tick of its read's beginning tells (log 51), is ignored; a timeout that comes with no read in flight
changes nothing (log 1); and the eighth failure in a row makes the port FAILED, with a grant computation; a pending edge
then begins its read. Of more than seven values the first seven count (log 26); IMU_PORT_FAILED and SENSOR_DUE alone do
their part (log 4) (R68, R70, R71, R72, R73, R74, R76, R77, R87). -/
def Obligations.ImuReads : Prop :=
  ∀ s : State, s.powered = true →
    let m := s.motion
    (m.port ≠ .running → exec .dataReadyEdge s = .next s ∧
      ∀ began answer, exec (.imuReadAnswer began answer) s = .next s) ∧
    (m.read = none → exec .imuReadTimeout s = .next s) ∧
    (∀ began answer, (∀ r, m.read = some r → r.began ≠ began) → exec (.imuReadAnswer began answer) s = .next s) ∧
    (m.port = .running →
      (s.clock.edgeDone = true → exec .dataReadyEdge s = .next s) ∧
      (s.clock.edgeDone = false → m.read = none → exec .dataReadyEdge s = .next { s with
        clock := { s.clock with edgeDone := true }, motion := { m with read := some ⟨s.now, s.now⟩ } }) ∧
      (s.clock.edgeDone = false → m.read.isSome = true → m.edge = none →
        exec .dataReadyEdge s = .next { s with
          clock := { s.clock with edgeDone := true }, motion := { m with edge := some s.now } }) ∧
      (s.clock.edgeDone = false → m.read.isSome = true → m.edge.isSome = true →
        exec .dataReadyEdge s = .next { s with clock := { s.clock with edgeDone := true }, motion := { m with
          missed := min 65535 (m.missed + 1), edgesMissed := m.edgesMissed + 1 } }) ∧
      ∀ r, m.read = some r →
        let failed (cause : ReadCause) : State :=
          let n := min 8 (m.failures + 1)
          let counted := { m with failures := n, readFailures := m.readFailures + 1 }
          let told (p : Port) : Requests := withEvent true .motionHub (.imuFault cause n p) s.now s.req
          if n = 8 then computeGrants { s with
            motion := { counted with port := .failed, read := none, edge := none }, req := told .failed }
          else { s with motion := afterRead s.now counted, req := told .running }
        (∀ values : List (BitVec 16), 7 ≤ values.length →
          let scaled (base range axis : Nat) (negative : Bool) : Int :=
            let v := Int.tdiv ((values.getD (base + axis) 0).toInt * range * 1000) 32768
            if negative then -v else v
          let axes (base range : Nat) : PerAxis Int :=
            ⟨scaled base range m.config.axis.yaw m.config.negative.yaw,
              scaled base range m.config.axis.pitch m.config.negative.pitch,
              scaled base range m.config.axis.roll m.config.negative.roll⟩
          let x : Sample := ⟨r.edge, axes 0 m.config.gyroRange, axes 3 m.config.accelRange,
            2500 + Int.tdiv ((values.getD 6 0).toInt * 100) 256⟩
          let due := decide (m.config.decimation ≤ m.decimation + 1)
          let sent := due && m.config.reporting
          exec (.imuReadAnswer r.began ⟨true, values⟩) s = .next { s with
            motion := afterRead s.now { m with
              failures := 0, stored := m.stored + 1
              ring := (if m.ring.length < 64 then m.ring else m.ring.drop 1) ++ [x]
              decimation := if due then 0 else m.decimation + 1
              missed := if sent ∧ (s.link.state = .up ∨ s.link.state = .hold) then 0 else m.missed }
            link := offered (if sent then [.sensor ⟨x, m.missed⟩] else []) s }) ∧
        (∀ fresh values, fresh = false ∨ values.length < 7 →
          exec (.imuReadAnswer r.began ⟨fresh, values⟩) s = .next (failed .malformed)) ∧
        (100 ≤ tickDiff s.now r.began → exec .imuReadTimeout s = .next (failed .timeout))) ∧
    (m.port = .running → 8 ≤ m.failures → exec .imuPortFailed s =
      .next (computeGrants { s with motion := { m with port := .failed, read := none, edge := none } })) ∧
    ∀ older x, m.ring = older ++ [x] → m.config.decimation ≤ m.decimation →
      exec .sensorDue s = .next { s with
        motion := { m with
          decimation := 0
          missed := if m.config.reporting ∧ (s.link.state = .up ∨ s.link.state = .hold) then 0 else m.missed }
        link := offered (if m.config.reporting then [.sensor ⟨x, m.missed⟩] else []) s }

/-- The proximity input, sampled at each multiple of 1,000 ticks (tick 0 too: log 54): a run of 16 equal levels that means another wear state
than the one held changes it, once, at that sample; a level that comes at another time only stands at the pin (log 8).
WEAR_CHANGED alone makes the change (log 4); its event comes before DISPLAY_BLANKED and SLEEP_CHANGED (log 13) (R85,
R138, R139). -/
def Obligations.WearDebounce : Prop :=
  ∀ (s : State) (active : Bool), LightsSound s →
    let pinned : State := { s with pins := { s.pins with proximity := active } }
    let means (b : Bool) : Wear := if b then .worn else .removed
    (s.powered = false ∨ s.now.toNat % 1000 ≠ 0 ∨ s.clock.proximityDone = true →
      exec (.proximitySample active) s = .next pinned) ∧
    (s.powered = true → s.now.toNat % 1000 = 0 → s.clock.proximityDone = false →
      let run := if s.motion.level = some active then min 16 (s.motion.levelRun + 1) else 1
      let sampled : State := { pinned with
        clock := { s.clock with proximityDone := true }
        motion := { s.motion with level := some active, levelRun := run } }
      exec (.proximitySample active) s =
        .next (if run = 16 ∧ s.motion.wear ≠ means active then wearTaken (means active) sampled else sampled)) ∧
    ∀ b, s.powered = true → 16 ≤ s.motion.levelRun → s.motion.level = some b → s.motion.wear ≠ means b →
      exec .wearChanged s = .next (wearTaken (means b) s)

/-! ## Power Manager -/

/-- Sleep and its policy: the timer's expiry puts the part to sleep, each panel OFF with its wake timer stopped at 0 (log
53), and cancels what the panels waited for, answered with
no body (log 34), two of them in the table's order (log 48), and before the OK of a POWER_POLICY (log 13); POWER_POLICY
above 600 is refused OUT_OF_RANGE, with no body (log 34), and otherwise holds the timeout, wakes a part asleep at 0 and
puts a part awake to sleep at once where the timer has passed it (equality counts: log 36); the reply gives the elapsed
time in whole ms (log 33) (R137, R138, R139, R47). -/
def Obligations.SleepAndPolicy : Prop :=
  ∀ s : State, LightsSound s → TableSound s →
    (∀ n, s.powered = true → s.power.asleep = false → 1 ≤ s.power.timeout → s.power.sleepTimer = some n →
      s.power.timeout * 1000000 ≤ n →
      ∃ r', waitingEnded (cancelledBySleep s) .cancelled (fun _ => .empty) (fallenAsleep s).req r' ∧
        exec .sleepTimerExpiry s = .next { fallenAsleep s with req := r' }) ∧
    (Admitted .powerPolicy s →
      let q := asked s
      let given := (u16 q.body 0).toNat
      let held : State := { s with power := { s.power with timeout := given } }
      let replied (t : State) (r : Requests) : State :=
        { t with req := answered q .ok (.policy given t.power.asleep (t.power.sleepTimer.getD 0 / 1000)) r }
      let passed := ∃ n, s.power.sleepTimer = some n ∧ given * 1000000 ≤ n
      (600 < given → exec .powerPolicy s = .next { s with req := answered q .outOfRange .empty s.req }) ∧
      (given ≤ 600 →
        (s.power.asleep = false → ¬ (1 ≤ given ∧ passed) → exec .powerPolicy s = .next (replied held s.req)) ∧
        (s.power.asleep = true → 1 ≤ given → exec .powerPolicy s = .next (replied held s.req)) ∧
        (s.power.asleep = true → given = 0 →
          exec .powerPolicy s = .next (replied (woken .policy held) (woken .policy held).req)) ∧
        (s.power.asleep = false → 1 ≤ given → passed →
          ∃ r', waitingEnded (cancelledBySleep s) .cancelled (fun _ => .empty) (fallenAsleep held).req r' ∧
            exec .powerPolicy s = .next (replied (fallenAsleep held) r'))))

/-- The levels L0 to L4 cost 0, 85, 130, 220 and 400 mW, and their ceilings are −180, −36, −24, −12 and 0 half-dB steps.
A grant computation: with A below 0 nothing is granted, and the factors that stand are open (log 12); otherwise the
consumer lines are those of the first setting whose costs do not exceed A, in the order of the seven steps: both factors
at 16 − d; fs down to 4; fi down to 8; the audio level down to L1; fs down to 0; fi down to 0; audio L0, the audio steps
skipped in STOPPED. The limited indication and OVER_CONTRACT follow, POWER_LIMITED tells of one newly set, and the POWER
condition, the ceiling, the POWER mute cause, with the move to MUTING or from MUTED, and the lights follow the grants;
POWER_LIMITED comes before DISPLAY_BLANKED (log 13), and the table keeps the requests it was made with (log 19).
POWER_CONTRACT outside 500..15,000 is refused with no body (log 34); otherwise it takes the contract, clears the two
counts and computes (R57, R61, R84, R113, R114, R116, R118, R125, R127, R129, R130, R131). -/
def Obligations.ContractAndGrants : Prop :=
  (∀ l : Level, l.rank = (match l with | .l0 => 0 | .l1 => 1 | .l2 => 2 | .l3 => 3 | .l4 => 4) ∧
    l.cost = (match l with | .l0 => 0 | .l1 => 85 | .l2 => 130 | .l3 => 220 | .l4 => 400) ∧
    l.gain = (match l with | .l0 => -180 | .l1 => -36 | .l2 => -24 | .l3 => -12 | .l4 => 0)) ∧
  (∀ s : State,
    let period := s.tl.active.period
    let strobe (e : Eye) (fs : Nat) : Consumer :=
      let code := (s.disp.eyes.get e).request
      ⟨code, code * fs / 16, code * fs / 16 * 6 * (s.tl.windows.strobe.get e).width / period⟩
    let illum (c : Camera) (fi : Nat) : Consumer :=
      let k := s.motion.cams.get c
      if k.state = .disabled then ⟨k.request, 0, 0⟩
      else ⟨k.request, k.request * fi / 16, k.request * fi / 16 * 3 * (s.tl.windows.expose.get c).width / period⟩
    let stopped := s.audio.playback = .stopped
    let audio (l : Level) : Nat := if stopped then 0 else l.cost
    let cost (x : Setting) : Nat := (strobe .left x.fs).cost + (strobe .right x.fs).cost + (illum 0 x.fi).cost +
      (illum 1 x.fi).cost + (illum 2 x.fi).cost + (illum 3 x.fi).cost + audio x.level
    let d := s.power.derate
    let gain := s.audio.requested
    let level : Level := if -11 ≤ gain then .l4 else if -23 ≤ gain then .l3 else if -35 ≤ gain then .l2 else .l1
    let last : Level := if stopped then level else .l1
    let down (hi lo : Nat) : List Nat := (List.range (hi + 1 - lo)).map fun i => hi - i
    let lower : List Level :=
      if stopped then []
      else match level with
        | .l4 => [.l3, .l2, .l1] | .l3 => [.l2, .l1] | .l2 => [.l1] | _ => []
    let settings : List Setting :=
      [⟨16 - d, 16 - d, level⟩] ++ (down (15 - d) 4).map (fun f => ⟨f, 16 - d, level⟩) ++
        (down (15 - d) 8).map (fun f => ⟨4, f, level⟩) ++ lower.map (fun l => ⟨4, 8, l⟩) ++
        (down 3 0).map (fun f => ⟨f, 8, last⟩) ++ (down 7 0).map (fun f => ⟨0, f, last⟩) ++
        (if stopped then [] else [⟨0, 0, .l0⟩])
    let refused (x : Consumer) : Consumer := ⟨x.request, 0, 0⟩
    let t := computeGrants s
    ∃ p : Power,
      (s.available < 0 → ∃ fs fi, fs ≤ 16 ∧ fi ≤ 16 ∧ p = { s.power with
        strobe := ⟨refused (strobe .left 0), refused (strobe .right 0)⟩
        illum := ⟨refused (illum 0 0), refused (illum 1 0), refused (illum 2 0), refused (illum 3 0)⟩
        audioRequest := level, audioGrant := .l0, audioCost := 0
        fs := fs, fi := fi, limited := p.limited, overContract := true }) ∧
      (0 ≤ s.available → ∃ x earlier later,
        settings = earlier ++ x :: later ∧
          (∀ y ∈ earlier, s.available < cost y) ∧ cost x ≤ s.available ∧
          p = { s.power with
            strobe := ⟨strobe .left x.fs, strobe .right x.fs⟩
            illum := ⟨illum 0 x.fi, illum 1 x.fi, illum 2 x.fi, illum 3 x.fi⟩
            audioRequest := level, audioGrant := x.level, audioCost := audio x.level
            fs := x.fs, fi := x.fi, limited := p.limited, overContract := false }) ∧
      (p.limited = true ↔ (∃ e, (p.strobe.get e).grant < (s.disp.eyes.get e).request) ∨
        (∃ c, (s.motion.cams.get c).state ≠ .disabled ∧ (p.illum.get c).grant < (s.motion.cams.get c).request) ∨
        p.audioGrant.rank < level.rank) ∧
      let condition := p.overContract || s.power.brownout
      let newly := condition && !s.disp.present.power
      let latches : Causes := { s.disp.latches with power := s.disp.latches.power || newly }
      let eye (e : Eye) : EyeDisplay :=
        let d := s.disp.eyes.get e
        if s.tl.running = true ∧ s.tl.strobe.get e = .opened ∧ d.panel = .on ∧ d.bound.isSome = true ∧
            s.shift.latched.get e = true ∧ latches = Causes.none ∧ s.power.brownout = false ∧ 0 < (p.strobe.get e).grant
          then { d with drive := (p.strobe.get e).grant, lit := true } else { d with drive := 0 }
      let cam (c : Camera) : Cam :=
        let k := s.motion.cams.get c
        if s.tl.running = true ∧ s.tl.expose.get c = .opened ∧ k.state = .opened ∧ 0 < (p.illum.get c).grant ∧
            s.power.brownout = false ∧ s.motion.darkened = false ∧ s.power.asleep = false
          then { k with drive := (p.illum.get c).grant } else { k with drive := 0 }
      LightsSound t ∧
      t = { s with
        power := p
        req := withEvent (newly && !s.disp.latches.any) .displayOutput (.displayBlanked .power) s.now
          (withEvent (p.limited && !s.power.limited || p.overContract && !s.power.overContract) .powerManager
            (.powerLimited p.fs p.fi p.audioGrant s.power.derate s.available p.overContract) s.now s.req)
        audio := { if p.audioGrant = .l0 ∨ s.power.brownout = true then silenced .power s.audio
          else unsilenced .power s.audio with ceiling := p.audioGrant }
        disp := { s.disp with
          eyes := ⟨eye .left, eye .right⟩
          present := { s.disp.present with power := condition }
          latches := latches }
        motion := { s.motion with cams := ⟨cam 0, cam 1, cam 2, cam 3⟩ }
        free := if s.available < 0 then s.free + 2 else s.free }) ∧
  ∀ s : State, Admitted .powerContract s →
    let q := asked s
    let mw := (u16 q.body 0).toNat
    (mw < 500 ∨ 15000 < mw → exec .powerContract s = .next { s with req := answered q .outOfRange .empty s.req }) ∧
    (500 ≤ mw → mw ≤ 15000 →
      let t := computeGrants { s with power := { s.power with contract := mw, overdraw := 0, recovery := 0 } }
      let held : ContractReply := ⟨mw, (mw : Int) - s.fixedSum, t.power.fs, t.power.fi, t.power.strobe, t.power.illum,
        t.power.audioGrant, t.power.audioCost, t.power.limited, t.power.overContract⟩
      exec .powerContract s = .next { t with req := answered q .ok (.contract held) t.req })

/-- The input monitor: below 9,000 mV the part is held in power-on reset; a sample at a multiple of 100 ticks (tick 0
too: log 54) becomes the last sample, is added to the frame's sum in RUN, and moves the low run, whose third sample below 10,800 mV begins a
brownout, or in a brownout the high run, whose 101st sample at or above 11,200 mV ends it. DISPLAY_BLANKED comes before
BROWNOUT (log 13). BROWNOUT_BEGIN and BROWNOUT_END alone do that (log 4; that a level at another time only stands at the
pins: log 8; the 9,000 mV itself: log 25) (R132, R134, R135, R136). -/
def Obligations.InputMonitor : Prop :=
  ∀ s : State, LightsSound s →
    (∀ mv ma : Nat,
      let pins := { s.pins with mv := mv, ma := ma }
      (mv < 9000 → exec (.inputMonitorSample mv ma) s =
        .next { State.reset with pending := s.pending, pins := pins, free := s.free }) ∧
      (9000 ≤ mv → s.powered = false ∨ s.now.toNat % 100 ≠ 0 ∨ s.clock.monitorDone = true →
        exec (.inputMonitorSample mv ma) s = .next { s with pins := pins }) ∧
      (9000 ≤ mv → s.powered = true → s.now.toNat % 100 = 0 → s.clock.monitorDone = false →
        let sampled (p : Power) : State := { s with
          pins := pins
          clock := { s.clock with monitorDone := true }
          power := { p with
            sample := some ⟨mv, ma, mv * ma / 1000⟩
            sum := if s.tl.running then p.sum + mv * ma / 1000 else p.sum
            count := if s.tl.running then p.count + 1 else p.count } }
        (s.power.brownout = false →
          let low := if mv < 10800 then min 3 (s.power.lowRun + 1) else 0
          let t := sampled { s.power with lowRun := low }
          exec (.inputMonitorSample mv ma) s = .next (if low = 3 then brownoutBegun mv t else t)) ∧
        (s.power.brownout = true → s.disp.present.power = true → s.disp.latches.power = true →
          let high := if 11200 ≤ mv then min 101 (s.power.highRun + 1) else 0
          let t := sampled { s.power with highRun := high }
          exec (.inputMonitorSample mv ma) s = .next (if high = 101 then brownoutEnded t else t)))) ∧
    (s.powered = true → s.power.brownout = false → 3 ≤ s.power.lowRun → exec .brownoutBegin s =
      .next (brownoutBegun ((s.power.sample.map InputSample.mv).getD 0) s)) ∧
    (s.powered = true → s.power.brownout = true → 101 ≤ s.power.highRun → s.disp.present.power = true →
      s.disp.latches.power = true → exec .brownoutEnd s = .next (brownoutEnded s))

/-- The derate level: a frame average above the contract moves the overdraw count, one at or below 95% of it the recovery
count, each clearing the other; the fourth overdraw raises d, at most to 8, and OVERDRAW; the sixteenth recovery lowers
d. DERATE_UP and DERATE_DOWN alone do that part (log 4) (R132, R133). -/
def Obligations.DerateLevel : Prop :=
  ∀ s : State,
    let average := s.power.sum / s.power.count
    let p : Power := { s.power with average := average, sum := 0, count := 0 }
    (s.power.count = 0 → closeAverage s = s) ∧
    (0 < s.power.count → s.power.contract < average →
      let counted : State := { s with power := { p with overdraw := p.overdraw + 1, recovery := 0 } }
      closeAverage s = if 4 ≤ p.overdraw + 1 then derated counted else counted) ∧
    (0 < s.power.count → average ≤ s.power.contract → s.power.contract * 95 < average * 100 →
      closeAverage s = { s with power := { p with overdraw := 0, recovery := 0 } }) ∧
    (0 < s.power.count → average * 100 ≤ s.power.contract * 95 →
      closeAverage s = { s with power := if 16 ≤ p.recovery + 1
        then { p with overdraw := 0, recovery := 0, derate := p.derate - 1 }
        else { p with overdraw := 0, recovery := p.recovery + 1 } }) ∧
    (s.powered = true → 4 ≤ s.power.overdraw → exec .derateUp s = .next (derated s)) ∧
    (s.powered = true → 16 ≤ s.power.recovery → exec .derateDown s =
      .next { s with power := { s.power with recovery := 0, derate := s.power.derate - 1 } })

/-! ## Audio Engine -/

/-- AUDIO_CONFIG is refused WRONG_STATE, with no body (log 34), unless playback is STOPPED and capture OFF, OUT_OF_RANGE
with the first refusing field of slot width, channel count and the slots of channels 1 to the count, and otherwise
replaces the configuration; AUDIO_START in STOPPED makes playback PRIMING, or MUTED with a mute cause present, and
computes the grants; AUDIO_STOP empties the FIFO, makes playback STOPPED and computes the grants, and in STOPPED changes
nothing (R108, R111, R112, R128). -/
def Obligations.AudioConfigStartStop : Prop :=
  ∀ s : State,
    let q := asked s
    (Admitted .audioConfig s →
      let width := (byteAt q.body 0).toNat
      let count := (byteAt q.body 1).toNat
      let slot (i : Nat) : Nat := (byteAt q.body (2 + i)).toNat
      let wide := width ∈ [16, 24, 32]
      let counted := 1 ≤ count ∧ count ≤ 4
      let good (i : Nat) : Prop := 2 ≤ slot i ∧ slot i ≤ 7
      let c : AudioConfig := ⟨width, count, (List.range count).map slot⟩
      (s.audio.playback ≠ .stopped ∨ s.audio.capturing = true →
        exec .audioConfig s = .next { s with req := answered q .wrongState .empty s.req }) ∧
      (s.audio.playback = .stopped → s.audio.capturing = false →
        let names (f : Field) : Prop :=
          exec .audioConfig s = .next { s with req := answered q .outOfRange (.field f) s.req }
        (¬ wide → names .slotWidth) ∧ (wide → ¬ counted → names .channelCount) ∧
        ∀ i, wide → counted → i < count → ¬ good i → (∀ j, j < i → good j) → names (.channelSlot (i + 1))) ∧
      (s.audio.playback = .stopped → s.audio.capturing = false → wide → counted → (∀ i, i < count → good i) → exec .audioConfig s = .next { s with
        audio := { s.audio with config := c }
        req := answered q .ok (.audioConfig c (104 / (3 * count))) s.req })) ∧
    (Admitted .audioStart s →
      let any := s.audio.mute.host || s.audio.mute.link || s.audio.mute.codec || s.audio.mute.power
      let t := if s.audio.playback = .stopped
        then computeGrants { s with audio := { s.audio with playback := if any then .muted else .priming } } else s
      exec .audioStart s = .next { t with req := answered q .ok (.playback t.audio.playback t.audio.mute) t.req }) ∧
    (Admitted .audioStop s →
      (s.audio.playback = .stopped →
        exec .audioStop s = .next { s with req := answered q .ok (.emptied 0) s.req }) ∧
      (s.audio.playback ≠ .stopped →
        let t := computeGrants { s with audio := { s.audio with playback := .stopped, fifo := [] } }
        exec .audioStop s = .next { t with req := answered q .ok (.emptied s.audio.fifo.length) t.req }))

/-- AUDIO_VOLUME takes the requested gain, clamped to −180..0 half-dB steps, and answers it with its clamp flag, the
requested level, the ceiling and the target, the lower of the gain and the ceiling's; no grant is computed. AUDIO_MUTE
makes the HOST cause present or absent, CAPTURE_START makes capture ON, skipping the first boundary, and CAPTURE_STOP
makes it OFF and empties the FIFO; each that finds nothing to change changes nothing (R116, R117, R118, R119). -/
def Obligations.VolumeMuteCapture : Prop :=
  ∀ s : State,
    let q := asked s
    let a := s.audio
    (Admitted .audioVolume s →
      let given := (u16 q.body 0).toInt
      let gain := max (-180) (min 0 given)
      let level : Level := if -11 ≤ gain then .l4 else if -23 ≤ gain then .l3 else if -35 ≤ gain then .l2 else .l1
      exec .audioVolume s = .next { s with
        audio := { a with requested := gain }
        req := answered q .ok (.volume gain (decide (given < -180 ∨ 0 < given)) level a.ceiling (min gain a.ceiling.gain))
          s.req }) ∧
    (Admitted .audioMute s →
      let replied (b : Audio) : State := { s with audio := b, req := answered q .ok (.playback b.playback b.mute) s.req }
      (byteAt q.body 0 ≠ 0 → q.body ≠ [] → exec .audioMuteOn s = .next (replied (silenced .host a))) ∧
      (byteAt q.body 0 = 0 → q.body ≠ [] → exec .audioMuteOff s = .next (replied (unsilenced .host a)))) ∧
    (Admitted .captureStart s → exec .captureStart s = .next { s with
      audio := if a.capturing then a else { a with capturing := true, skip := true }
      req := answered q .ok (.capture a.config.channels (104 / (3 * a.config.channels))) s.req }) ∧
    (Admitted .captureStop s →
      (a.capturing = true → exec .captureStop s = .next { s with
        audio := { a with capturing := false, skip := false, captured := [], discard := 0 }
        req := answered q .ok (.emptied a.captured.length) s.req }) ∧
      (a.capturing = false → exec .captureStop s = .next { s with req := answered q .ok (.emptied 0) s.req }))

/-- An AUDIO_BLOCK in UP, its sequence number, frame count and 24-bit samples where section 10.2 puts them: one whose
count is outside 1..64 or whose length is not that of its frames is malformed and counted (R179); a well-formed one moves the sequence check, and is discarded and
counted in STOPPED and MUTED; otherwise its frames join the FIFO as far as 256 go, the rest are counted and told by
AUDIO_OVERFLOW, and a fill of 96 moves PRIMING to PLAYING (R109). -/
def Obligations.AudioBlocks : Prop :=
  ∀ (s : State) (p : List Byte), s.powered = true → s.link.state = .up →
    let n := (byteAt p 2).toNat
    (parseBlock p = none ↔ p.length < 4 ∨ n = 0 ∨ 64 < n ∨ p.length ≠ 4 + 6 * n) ∧
    (parseBlock p = none → exec (.audioBlock p) s = .next { s with
      link := heardAudio s, audio := { s.audio with malformed := s.audio.malformed + 1 } }) ∧
    ∀ seq frames, parseBlock p = some (seq, frames) →
      (seq = u16 p 0 ∧ frames.length = n ∧
        ∀ i x, frames[i]? = some x → x.left = u24 p (4 + 6 * i) ∧ x.right = u24 p (7 + 6 * i)) ∧
      let gap := ∃ x, s.audio.expected = some x ∧ x ≠ seq
      ∃ a : Audio,
        (gap → a = { s.audio with expected := some (seq + 1), gaps := s.audio.gaps + 1 }) ∧
        (¬ gap → a = { s.audio with expected := some (seq + 1) }) ∧
        (s.audio.playback = .stopped ∨ s.audio.playback = .muted → exec (.audioBlock p) s = .next { s with
          link := heardAudio s, audio := { a with blocksDiscarded := a.blocksDiscarded + 1 } }) ∧
        (s.audio.playback ≠ .stopped → s.audio.playback ≠ .muted →
          let fits := frames.take (256 - a.fifo.length)
          let lost := frames.length - fits.length
          exec (.audioBlock p) s = .next { s with
            link := heardAudio s
            audio := { a with
              fifo := a.fifo ++ fits
              overflowed := a.overflowed + BitVec.ofNat 32 lost
              playback := if a.playback = .priming ∧ 96 ≤ (a.fifo ++ fits).length then .playing else a.playback }
            req := withEvent (decide (0 < lost)) .audioEngine (.audioOverflow seq lost) s.now s.req })

/-- An audio frame boundary, in the tick with fewer than 48 oscillator cycles left to it (log 15): the playback frame by the playback state, with gain and ramp; the capture frame just
completed, stored while capture is ON in a session, the oldest lost from a full FIFO; the next frame's cycles, and at
every 48th boundary the divider. The gain factor of n half-dB steps down is 65,536 × 10^(−n/40), rounded. A sample is
placed whole in a 24-bit slot, in the upper 24 bits of a 32-bit one, and with its upper 16 bits in a 16-bit one, and a
captured slot is read so, the lower bits zero. The line's slots are the two and then six of zero. AUDIO_UNDERRUN
comes before CAPTURE_DISCARD (log 13). Slots that come at another time only stand at the pins (log 8) (R106, R107, R110, R114, R115, R119, R120). -/
def Obligations.AudioBoundary : Prop :=
  (∀ n : Nat, n ≤ 180 → let g := gainFactor (-n)
    (2 * g - 1) ^ 40 * 10 ^ n ≤ 131072 ^ 40 ∧ 131072 ^ 40 < (2 * g + 1) ^ 40 * 10 ^ n) ∧
  (∀ l : AudioLine, l.slots = [l.left, l.right, 0, 0, 0, 0, 0, 0]) ∧
  ∀ (s : State) (slots : List (BitVec 32)),
    let a := s.audio
    let pins := { s.pins with capture := slots }
    (s.powered = false ∨ 48 ≤ a.cycles → exec (.audioFrameBoundary slots) s = .next { s with pins := pins }) ∧
    (s.powered = true → a.cycles < 48 →
      let n := a.ramp + 1
      let silence : AudioLine := ⟨a.config.width, 0, 0⟩
      let line (x : Stereo) (ramp : Int → Int) : AudioLine :=
        let out (y : BitVec 24) : BitVec 32 :=
          let v := (ramp (roundDiv (y.toInt * gainFactor a.gain) 65536) % 16777216).toNat
          BitVec.ofNat 32 (if a.config.width = 32 then v * 256 else if a.config.width = 16 then v / 256 else v)
        ⟨a.config.width, out x.left, out x.right⟩
      let ended (b : Audio) : Audio :=
        if 64 ≤ n then { b with fifo := [], playback := if a.mute.any then .muted else .priming } else b
      let sent : Audio :=
        match a.playback, a.fifo with
        | .playing, x :: rest => { a with fifo := rest, line := line x id, played := a.played + 1 }
        | .playing, [] => { a with line := silence, underruns := a.underruns + 1, playback := .priming }
        | .muting, x :: rest =>
          if a.fromPlaying then
            ended { a with ramp := n, fifo := rest, line := line x fun v => roundDiv (v * (64 - (n : Int))) 64 }
          else ended { a with ramp := n, line := silence }
        | .muting, [] => ended { a with ramp := n, line := silence }
        | _, _ => { a with line := silence }
      let takes := a.capturing && !a.skip && (s.link.state == .up || s.link.state == .hold)
      let lost := takes && decide (128 ≤ a.captured.length)
      let heard (x : BitVec 32) : BitVec 24 := BitVec.ofNat 24 (if a.line.width = 32 then x.toNat / 256
        else if a.line.width = 16 then x.toNat % 65536 * 256 else x.toNat)
      let frame : CaptureFrame := ⟨s.now, a.config.slots.map fun i => heard (slots.getD i 0)⟩
      let fill : Int := if sent.playback = .playing then sent.fifo.length else 96
      let again := decide (48 ≤ a.recompute + 1)
      exec (.audioFrameBoundary slots) s = .next { s with
        pins := pins
        audio := { sent with
          skip := false
          captured :=
            if takes then (if lost then a.captured.drop 1 else a.captured) ++ [frame] else a.captured
          discard := if lost then min 65535 (a.discard + 1) else a.discard
          captureLost := if lost then a.captureLost + 1 else a.captureLost
          cycles := a.cycles + (a.divider + a.remainder) / 65536
          remainder := (a.divider + a.remainder) % 65536
          recompute := if again then 0 else a.recompute + 1
          divider := if again then (max 65516339 (min 65555661
            (65536000 - roundDiv (65536000 * s.time.rate) 1000000000 - 4 * (fill - 96)))).toNat else a.divider }
        req := withEvent (lost && a.discard == 0) .audioEngine
          (.captureDiscard ((a.captured.head?.map CaptureFrame.tick).getD 0)) s.now
          (withEvent (a.playback == .playing && a.fifo.isEmpty) .audioEngine (.audioUnderrun (a.underruns + 1)) s.now
            s.req) })

/-- The Audio Engine's own events: GAIN_STEP moves the gain one half dB toward the lower of request and ceiling at each
multiple of 1,000 ticks (tick 0 too: log 54); CODEC_FAULT_ASSERT makes the CODEC cause present and raises AUDIO_FAULT, CODEC_FAULT_DEASSERT
makes it absent, and a level that repeats only stands at the pin (log 8, log 20); DIVIDER_RECOMPUTE and MUTE_RAMP_END
where they come alone (log 4) (R107, R113, R114, R118). -/
def Obligations.AudioEvents : Prop :=
  ∀ s : State,
    let a := s.audio
    let target := min a.requested a.ceiling.gain
    let pinned (b : Bool) : State := { s with pins := { s.pins with codecFault := b } }
    (s.powered = true → s.now.toNat % 1000 = 0 → s.clock.gainDone = false → exec .gainStep s = .next { s with
      clock := { s.clock with gainDone := true }
      audio := { a with gain :=
        if a.gain < target then a.gain + 1 else if target < a.gain then a.gain - 1 else a.gain } }) ∧
    (s.powered = true → a.mute.codec = false → exec .codecFaultAssert s = .next { pinned true with
      audio := silenced .codec a
      req := withEvent true .audioEngine (.audioFault s.now) s.now s.req }) ∧
    (s.powered = false ∨ a.mute.codec = true → exec .codecFaultAssert s = .next (pinned true)) ∧
    (s.powered = true → exec .codecFaultDeassert s = .next { pinned false with audio := unsilenced .codec a }) ∧
    (s.powered = false → exec .codecFaultDeassert s = .next (pinned false)) ∧
    (s.powered = true → 48 ≤ a.recompute → exec .dividerRecompute s = .next { s with audio := { a with
      recompute := 0
      divider := (max 65516339 (min 65555661 (65536000 - roundDiv (65536000 * s.time.rate) 1000000000 -
        4 * ((if a.playback = .playing then (a.fifo.length : Int) else 96) - 96)))).toNat } }) ∧
    (s.powered = true → a.playback = .muting → 64 ≤ a.ramp → exec .muteRampEnd s = .next { s with audio := { a with
      fifo := []
      playback := if a.mute.host ∨ a.mute.link ∨ a.mute.codec ∨ a.mute.power then .muted else .priming } })

/-! ## The upstream lane's bytes -/

/-- The bytes of the upstream lane, as a reader takes its fields: the superframe header at a superframe start and each
slot sent after it, with their CRC-32; REPLY records, SENSOR, EXPOSURE and FRAME records and CAPTURE blocks, field by field; a
slot's records one after another and zeros to 120 bytes. The bits that no table names are 0 (log 45); a reply's body
bytes are open (log 9) (R178, R180, R181, R182). -/
def Obligations.LaneBytes : Prop :=
  let sync (x : Sync) : Nat := match x with | .unsynced => 0 | .coarse => 1 | .locked => 2
  let bit (x : Bool) (n : Nat) : Nat := if x then n else 0
  crc32 [0x31, 0x32, 0x33, 0x34, 0x35, 0x36, 0x37, 0x38, 0x39] = 3421780262 ∧
  (∀ h : SuperframeHeader,
    let b := h.bytes
    b.length = 16 ∧ field b 0 1 = h.session.toNat ∧ field b 1 1 = sync h.sync ∧ field b 2 2 = h.number.toNat ∧
      field b 4 6 = h.tick.toNat ∧ field b 10 2 = 0 ∧ field b 12 4 = (crc32 (b.take 12)).toNat) ∧
  (∀ x : Slot, x.number < 16 → x.content.bytes.length ≤ 120 →
    let b := x.bytes
    let content : Nat := match x.content with
      | .filler => 0 | .replies _ => 1 | .events _ => 2 | .reports _ => 3 | .capture _ => 4
    let cls : Nat := match x.cls with | .opened => 0 | .sensor => 1 | .capture => 2 | .reply => 3 | .event => 4
    let count : Nat := match x.content with
      | .filler => 0
      | .replies rs => rs.length
      | .events es => es.length
      | .reports rs => rs.length
      | .capture c => c.frames.length
    let payload : List Byte := match x.content with
      | .filler => []
      | .replies rs => rs.flatMap replyBytes
      | .events es => es.flatMap eventBytes
      | .reports rs => rs.flatMap placedBytes
      | .capture c => captureBytes c
    b.length = 128 ∧ field b 0 1 = content ∧ field b 1 1 = x.number + 16 * cls ∧ field b 2 1 = count % 256 ∧
      field b 3 1 = 0 ∧ (b.drop 4).take 120 = payload ++ List.replicate (120 - payload.length) 0 ∧
      field b 124 4 = (crc32 (b.take 124)).toNat) ∧
  (∀ r : Reply, r.length ≤ 112 →
    let b := replyBytes r
    let status : Nat := match r.status with
      | .ok => 0 | .late => 1 | .busy => 2 | .tagInUse => 3 | .noAccess => 4 | .outOfRange => 5 | .wrongState => 6
      | .unknownKind => 7 | .badLength => 8 | .cancelled => 9
    b.length = 8 + r.length ∧ field b 0 1 = r.tag.toNat + 16 * r.client.toNat ∧ field b 1 1 = r.kind.toNat ∧
      field b 2 1 = status ∧ field b 3 1 = r.length ∧ field b 4 4 = r.taken.toNat % 4294967296) ∧
  (∀ (p : Placed) (r : SensorRecord), p.report = .sensor r →
    let b := placedBytes p
    let x := r.sample
    b.length = 40 ∧ field b 0 1 = 1 ∧ field b 1 1 = bit p.adjusted 1 ∧ field b 2 1 = sync p.sync ∧
      field b 3 6 = x.tick.toNat ∧ field b 9 2 = r.missed % 65536 ∧ field b 11 8 = p.host.toNat ∧
      (field b 19 3 : Int) = x.gyro.yaw % 16777216 ∧ (field b 22 3 : Int) = x.gyro.pitch % 16777216 ∧
      (field b 25 3 : Int) = x.gyro.roll % 16777216 ∧ (field b 28 2 : Int) = x.accel.yaw % 65536 ∧
      (field b 30 2 : Int) = x.accel.pitch % 65536 ∧ (field b 32 2 : Int) = x.accel.roll % 65536 ∧
      (field b 34 2 : Int) = x.temperature % 65536 ∧ field b 36 4 = p.tally % 4294967296) ∧
  (∀ (p : Placed) (r : ExposureRecord), p.report = .exposure r →
    let b := placedBytes p
    b.length = 40 ∧ field b 0 1 = 2 ∧
      field b 1 1 = bit p.adjusted 1 + bit r.noResponse 2 + bit r.noEnd 4 + bit r.cutShort 8 + bit r.lateStart 16 ∧
      field b 2 1 = sync p.sync ∧ field b 3 1 = r.camera.val ∧ field b 4 4 = r.frame.toNat ∧
      field b 8 6 = r.start.toNat ∧ field b 14 6 = r.trigger.toNat ∧
      field b 20 6 = (r.stop.map BitVec.toNat).getD 0 ∧ field b 26 2 = r.drive % 65536 ∧ field b 28 8 = p.host.toNat ∧
      field b 36 4 = p.tally % 4294967296) ∧
  (∀ (p : Placed) (r : FrameRecord), p.report = .frame r →
    let b := placedBytes p
    let eye (off : Nat) (f : EyeFrame) : Prop :=
      let source : Nat := match f.shift.source with | .none => 0 | .host => 1 | .hostLate => 2 | .auto => 3
      field b off 1 = bit f.id.isSome 1 + bit f.lit 2 ∧ field b (off + 1) 1 = source ∧
        field b (off + 2) 1 = bit f.shift.clamp 1 + bit f.shift.short 2 + bit f.shift.limit 4 + bit f.shift.noData 8 +
          bit f.shift.noSync 16 ∧
        field b (off + 3) 1 = 0 ∧ field b (off + 4) 2 = (f.id.map BitVec.toNat).getD 0 ∧
        (field b (off + 6) 2 : Int) = f.shift.sx % 65536 ∧ (field b (off + 8) 2 : Int) = f.shift.sy % 65536 ∧
        field b (off + 10) 2 = f.repeats % 65536
    let phase : Nat := match r.phase with | .free => 0 | .acquiring => 1 | .locked => 2
    b.length = 80 ∧ field b 0 1 = 3 ∧
      field b 1 1 = bit p.adjusted 1 + bit r.cutShort 2 + bit r.newBank 4 + bit r.error.isSome 8 ∧
      field b 2 1 = sync p.sync ∧ field b 3 1 = phase ∧ field b 4 4 = r.frame.toNat ∧ field b 8 6 = r.tick.toNat ∧
      field b 14 8 = p.host.toNat ∧ field b 22 2 = r.length % 65536 ∧ field b 24 2 = r.period % 65536 ∧
      (field b 26 1 : Int) = r.adj % 256 ∧ field b 27 1 = 0 ∧ (field b 28 2 : Int) = r.error.getD 0 % 65536 ∧
      field b 30 4 = p.tally % 4294967296 ∧ eye 34 r.eyes.left ∧ eye 46 r.eyes.right ∧
      b.drop 58 = List.replicate 22 0) ∧
  (∀ c : CaptureBlock, 1 ≤ c.channels → c.channels ≤ 4 → (∀ f ∈ c.frames, f.length = c.channels) →
    let b := captureBytes c
    b.length = 16 + 3 * c.channels * c.frames.length ∧
      field b 0 1 = c.channels - 1 + bit c.adjusted 4 + bit (decide (0 < c.discard)) 8 + 16 * sync c.sync ∧
      field b 1 1 = c.frames.length % 256 ∧ field b 2 2 = c.discard % 65536 ∧
      field b 4 4 = c.tick.toNat % 4294967296 ∧ field b 8 8 = c.host.toNat ∧
      ∀ i j x, (c.frames[i]?.bind fun f => f[j]?) = some x →
        field b (16 + 3 * (c.channels * i + j)) 3 = x.toNat) ∧
  (∀ s t : State, s.powered = true → s.now.toNat % 250 = 0 → s.clock.superframeDone = false →
    exec .superframeStart s = .next t → ∃ h, t.link.header = some h ∧ t.lane = h.bytes) ∧
  ∀ s t : State, s.powered = true → s.link.nextSlot < 16 →
    (slotOffset s.link.nextSlot : Int) ≤ tickDiff s.now s.link.superframeTick → exec .upstreamSlot s = .next t →
    ∃ x : Slot, x.number = s.link.nextSlot ∧ x.cls = s.link.table.getD s.link.nextSlot .opened ∧
      t.link.slots = s.link.slots ++ [x] ∧ t.link.header = s.link.header ∧ t.lane = s.lane ++ x.bytes

/-- The 24 bytes of an event record, as a reader takes its fields: the kind and source codes, the count, the ticks, and
the detail of each of the twenty-three kinds, the bytes not named zero, an absent error sent as zero, and present as 1
(log 49) (R172, R173, R181, R182). -/
def Obligations.EventBytes : Prop :=
  ∀ e : Event,
    let b := eventBytes e
    let source : Nat := match e.source with
      | .linkController => 1 | .requestController => 2 | .timebase => 3 | .frameTimeline => 4 | .displayOutput => 5
      | .motionHub => 6 | .audioEngine => 7 | .powerManager => 8 | .eye .left => 16 | .eye .right => 17
      | .camera c => 32 + c.val
    let sync (x : Sync) : Nat := match x with | .unsynced => 0 | .coarse => 1 | .locked => 2
    let wear (x : Wear) : Nat := match x with | .unknown => 0 | .worn => 1 | .removed => 2
    let bit (x : Bool) : Nat := if x then 1 else 0
    let byte (i : Nat) : Nat := field b (16 + i) 1
    let word (i : Nat) : Nat := field b (16 + i) 2
    let long (i : Nat) : Nat := field b (16 + i) 4
    let tick (i : Nat) : Nat := field b (16 + i) 6
    let kind (n : Nat) : Prop := field b 0 1 = n
    let rest (n : Nat) : Prop := b.drop (16 + n) = List.replicate (8 - n) 0
    b.length = 24 ∧ field b 1 1 = source ∧ field b 2 1 = e.count % 256 ∧ field b 3 1 = 0 ∧ field b 4 6 = e.first.toNat ∧
      field b 10 6 = e.last.toNat ∧
      match e.detail with
      | .linkUp session resumed held =>
        kind 1 ∧ byte 0 = session.toNat ∧ byte 1 = 1 + bit resumed ∧ long 2 = held % 4294967296 ∧ rest 6
      | .linkHold last => kind 2 ∧ tick 0 = last.toNat ∧ rest 6
      | .linkLost session requests replies reports =>
        kind 3 ∧ byte 0 = session.toNat ∧ byte 1 = requests % 256 ∧ byte 2 = replies % 256 ∧ byte 3 = reports % 256 ∧
          rest 4
      | .linkDegraded count first => kind 4 ∧ word 0 = count % 65536 ∧ word 2 = first.toNat ∧ rest 4
      | .syncChanged before after cause error =>
        let code : Nat := match cause with
          | .firstMark => 1 | .lock => 2 | .error => 3 | .step => 4 | .restart => 5 | .holdover => 6
          | .sessionStart => 7
        kind 5 ∧ byte 0 = sync before ∧ byte 1 = sync after ∧ byte 2 = code ∧ byte 3 = bit error.isSome ∧
          (long 4 : Int) = max (-2147483648) (min 2147483647 (error.getD 0)) % 4294967296
      | .markRejected spacing difference =>
        kind 6 ∧ (long 0 : Int) = spacing % 4294967296 ∧ (long 4 : Int) = difference % 4294967296
      | .phaseLockChanged mode error =>
        let code : Nat := match mode with | .free => 0 | .acquiring => 1 | .locked => 2
        kind 7 ∧ byte 0 = code ∧ byte 1 = bit error.isSome ∧ (word 2 : Int) = error.getD 0 % 65536 ∧ rest 4
      | .displayBlanked cause =>
        let code : Nat := match cause with
          | .link => 1 | .power => 2 | .wear => 3 | .stallLeft => 4 | .stallRight => 5 | .host => 6
        kind 8 ∧ byte 0 = code ∧ rest 1
      | .videoStall run => kind 9 ∧ word 0 = run % 65536 ∧ rest 2
      | .frameDropped dropped new => kind 10 ∧ word 0 = dropped.toNat ∧ word 2 = new.toNat ∧ rest 4
      | .wearChanged before after => kind 11 ∧ byte 0 = wear before ∧ byte 1 = wear after ∧ rest 2
      | .cameraNoResponse frame trigger =>
        kind 12 ∧ long 0 = frame.toNat ∧ long 4 = trigger.toNat % 4294967296
      | .imuFault cause count port =>
        let code : Nat := match cause with | .timeout => 1 | .malformed => 2
        let state : Nat := match port with | .off => 0 | .starting => 1 | .running => 2 | .failed => 3
        kind 13 ∧ byte 0 = code ∧ byte 1 = count % 256 ∧ byte 2 = state ∧ rest 3
      | .audioUnderrun underruns => kind 14 ∧ long 0 = underruns.toNat ∧ rest 4
      | .audioOverflow sequence discarded =>
        kind 15 ∧ word 0 = sequence.toNat ∧ byte 2 = discarded % 256 ∧ rest 3
      | .audioFault t => kind 16 ∧ tick 0 = t.toNat ∧ rest 6
      | .captureDiscard t => kind 17 ∧ tick 0 = t.toNat ∧ rest 6
      | .powerLimited fs fi level derate available overContract =>
        let code : Nat := match level with | .l0 => 0 | .l1 => 1 | .l2 => 2 | .l3 => 3 | .l4 => 4
        kind 18 ∧ byte 0 = fs % 256 ∧ byte 1 = fi % 256 ∧ byte 2 = code ∧ byte 3 = derate % 256 ∧
          (word 4 : Int) = available % 65536 ∧ byte 6 = bit overContract ∧ rest 7
      | .brownout mv => kind 19 ∧ word 0 = mv % 65536 ∧ rest 2
      | .overdraw average contract derate =>
        kind 20 ∧ long 0 = average % 4294967296 ∧ word 4 = contract % 65536 ∧ byte 6 = derate % 256 ∧ rest 7
      | .sleepChanged asleep cause =>
        let code : Nat := match cause with | .timeout => 1 | .worn => 2 | .policy => 3
        kind 21 ∧ byte 0 = bit asleep ∧ byte 1 = code ∧ rest 2
      | .accessFault client k group =>
        let code : Nat := match group with
          | .device => 1 | .link => 2 | .display => 3 | .motion => 4 | .audio => 5 | .power => 6
        kind 22 ∧ byte 0 = client.toNat ∧ byte 1 = k.toNat ∧ byte 2 = code ∧ rest 3
      | .ctrlOverrun discarded => kind 23 ∧ long 0 = discarded.toNat ∧ rest 4

/-! ## Invariants -/

/-- The reset state keeps every invariant of the statements below. -/
def Obligations.ResetSound : Prop :=
  let s := State.reset
  EventsDistinct s ∧ QueuesBounded s ∧ TableSound s ∧ RateSound s ∧ RangesSound s ∧ StoresSound s ∧ ShiftSound s ∧
    WithinContract s ∧ GuardSound s ∧ LightsSound s ∧ SamplesRise s ∧ CaptureRises s

/-- The summed cost of fixed loads and variable grants never exceeds the contract in force, except while the fixed loads
alone exceed it; in that case every variable grant is zero (R129): every step keeps it. -/
def Obligations.ContractKept : Prop :=
  ∀ s t : State, WithinContract s → step s = .next t → WithinContract t

/-- No enabled exposure lies within the guard of an enabled strobe, in the active windows and in those of a waiting
commit: every step keeps it (R9, R11). -/
def Obligations.GuardKept : Prop :=
  ∀ s t : State, GuardSound s → step s = .next t → GuardSound t

/-- Every strobe and illuminator is lit at its grant exactly while its conditions hold, and a lit strobe sets STROBE_LIT:
every step keeps it (R61, R62, R84). -/
def Obligations.LightsKept : Prop :=
  ∀ s t : State, LightsSound s → step s = .next t → LightsSound t

/-- Queues, FIFOs and the sensor ring stay within their capacities; no two event records have the same kind and source;
the request table's tags are distinct and apart from the queued replies', whose places stay within 32; and the ticks of
the sensor ring and of the capture FIFO strictly rise, while none is 2^47 − 1 ticks ago or more, as far as the signed
difference of R25 tells before from after (one data-ready edge at a tick at most: log 41): every step keeps it. An event
raised coalesces into the record of its kind and source, whose count goes up to 255 and whose last tick and detail are
replaced, its first tick and place kept, or is appended with a count of 1; a record offered to the report queue is
appended, or at 32 discarded with its kind's drop tally one more, up to 4,294,967,295 (R25, R74, R109, R120, R156, R161,
R162, R164, R167, R172). -/
def Obligations.QueuesKept : Prop :=
  (∀ (src : Source) (d : Detail) (t : Tick) (r : Requests),
    let same (x : Event) : Prop := x.source = src ∧ x.detail.code = d.code
    withEvent false src d t r = r ∧
    ((∀ x ∈ r.events, ¬ same x) → withEvent true src d t r = { r with events := r.events ++ [⟨src, d, 1, t, t⟩] }) ∧
    ∀ before e after, r.events = before ++ e :: after → (∀ x ∈ before, ¬ same x) → same e →
      withEvent true src d t r =
        { r with events := before ++ { e with count := min 255 (e.count + 1), last := t, detail := d } :: after }) ∧
  (∀ (l : Link) (r : Report),
    let more (n : Nat) : Nat := min 4294967295 (n + 1)
    (l.reports.length < 32 → l.offer r = { l with reports := l.reports ++ [r] }) ∧
    (32 ≤ l.reports.length → l.offer r = { l with tallies := match r with
      | .sensor _ => { l.tallies with sensor := more l.tallies.sensor }
      | .exposure _ => { l.tallies with exposure := more l.tallies.exposure }
      | .frame _ => { l.tallies with frame := more l.tallies.frame } })) ∧
  ∀ s t : State, step s = .next t → (QueuesBounded s → QueuesBounded t) ∧ (EventsDistinct s → EventsDistinct t) ∧
    (TableSound s → TableSound t) ∧ (SamplesRise s → Recent (edgeTicks s.motion) s.now → SamplesRise t) ∧
    (CaptureRises s → Recent (s.audio.captured.map CaptureFrame.tick) s.now → CaptureRises t)

/-- The rate estimate, counts, adjustment, gains and codes stay in their ranges; line stores keep their canonical form;
and every latched shift stays within the margins, zero in STOPPED: every step keeps it (R16, R17, R31, R32, R49, R52,
R63, R78, R102, R116, R118, R133). -/
def Obligations.SettingsKept : Prop :=
  ∀ s t : State, step s = .next t → (RateSound s → RateSound t) ∧ (RangesSound s → RangesSound t) ∧
    (StoresSound s → StoresSound t) ∧ (ShiftSound s → ShiftSound t)

/-! ## Downstream packets -/

/-- A packet is a header of class, subtype and payload length, the payload and its CRC-32: for every payload that fits
the length field the command of each class has one. A packet of the right size and CRC-32 is its class's command,
whatever its subtype but for VIDEO, one of another class UNKNOWN_CLASS_PACKET, and any other packet BAD_PACKET, one with
a wrong bit of its CRC-32 among them. Decoding a packet that carries a command gives the command back, a TIME_MARK with
the age its packet has. The tick captured for a packet of an age (log 46) lies that long before now, across the wrap of
the counter too, and is none from before the counter began (R25, R26, R149, R178, R179). -/
def Obligations.PacketsDecode : Prop :=
  (∀ (s : State) (age : Nat), age < 281474976710656 →
    (age ≤ s.now.toNat → (s.capturedTick age).toNat = s.now.toNat - age) ∧
    (s.now.toNat < age → s.clock.wrapped = true →
      (s.capturedTick age).toNat = s.now.toNat + 281474976710656 - age) ∧
    (s.now.toNat < age → s.clock.wrapped = false → s.capturedTick age = 0)) ∧
  (∀ p : List Byte, p.length ≤ 65535 →
    let packet (i : Instr) (cls : Nat) (subtype : Option Nat) : Prop := ∃ b, Packet.encode i = some b ∧
      b.length = 8 + p.length ∧ field b 0 1 = cls ∧ (∀ n, subtype = some n → field b 1 1 = n) ∧ field b 2 2 = p.length ∧
      (b.drop 4).take p.length = p ∧ field b (4 + p.length) 4 = (crc32 (b.take (4 + p.length))).toNat
    packet (.frameHead p) 1 (some 1) ∧ packet (.row p) 1 (some 2) ∧ packet (.audioBlock p) 2 none ∧ packet (.ctrl p) 3 none ∧
      (∀ age, packet (.timeMark age p) 4 none) ∧ packet (.fill p) 5 none) ∧
  (∀ (age : Nat) (b : List Byte),
    let n := field b 2 2
    let good := b.length = 8 + n ∧ field b (4 + n) 4 = (crc32 (b.take (4 + n))).toNat
    let p := (b.drop 4).take n
    let cls := field b 0 1
    let subtype := field b 1 1
    (¬ good → Packet.decode age b = .badPacket) ∧
    (good → (cls = 1 → subtype = 1 → Packet.decode age b = .frameHead p) ∧
      (cls = 1 → subtype = 2 → Packet.decode age b = .row p) ∧
      (cls = 1 → subtype ≠ 1 → subtype ≠ 2 → Packet.decode age b = .malformedVideoPacket) ∧
      (cls = 2 → Packet.decode age b = .audioBlock p) ∧ (cls = 3 → Packet.decode age b = .ctrl p) ∧
      (cls = 4 → Packet.decode age b = .timeMark age p) ∧ (cls = 5 → Packet.decode age b = .fill p) ∧
      (cls = 0 ∨ 5 < cls → Packet.decode age b = .unknownClassPacket))) ∧
  (∀ (i : Instr) (bytes : List Byte) (age : Nat), WellFormed.check i = true → Packet.encode i = some bytes →
    (∀ a p, i = .timeMark a p → a = age) → Packet.decode age bytes = i) ∧
  ∀ (age : Nat) (covered : List Byte) (crc : BitVec 32), crc ≠ crc32 covered →
    Packet.decode age (covered ++ leBytes 4 crc.toNat) = .badPacket
end

