-- ==== Sys2Proof/Laws/State.lean ====
section
/-! SUPPORT. The fields of an updated state: one lemma for each field and each update of `State`, so that no proof unfolds
a record update. -/

namespace Sys2Proof.Machine

open Sys2Proof

variable (s : State)

/-! ## mapPins -/

@[simp] theorem mapPins_pending (f : Pins → Pins) : (s.mapPins f).pending = s.pending := rfl
@[simp] theorem mapPins_powered (f : Pins → Pins) : (s.mapPins f).powered = s.powered := rfl
@[simp] theorem mapPins_pins (f : Pins → Pins) : (s.mapPins f).pins = f s.pins := rfl
@[simp] theorem mapPins_clock (f : Pins → Pins) : (s.mapPins f).clock = s.clock := rfl
@[simp] theorem mapPins_link (f : Pins → Pins) : (s.mapPins f).link = s.link := rfl
@[simp] theorem mapPins_req (f : Pins → Pins) : (s.mapPins f).req = s.req := rfl
@[simp] theorem mapPins_time (f : Pins → Pins) : (s.mapPins f).time = s.time := rfl
@[simp] theorem mapPins_tl (f : Pins → Pins) : (s.mapPins f).tl = s.tl := rfl
@[simp] theorem mapPins_disp (f : Pins → Pins) : (s.mapPins f).disp = s.disp := rfl
@[simp] theorem mapPins_shift (f : Pins → Pins) : (s.mapPins f).shift = s.shift := rfl
@[simp] theorem mapPins_motion (f : Pins → Pins) : (s.mapPins f).motion = s.motion := rfl
@[simp] theorem mapPins_audio (f : Pins → Pins) : (s.mapPins f).audio = s.audio := rfl
@[simp] theorem mapPins_power (f : Pins → Pins) : (s.mapPins f).power = s.power := rfl
@[simp] theorem mapPins_free (f : Pins → Pins) : (s.mapPins f).free = s.free := rfl
@[simp] theorem mapPins_now (f : Pins → Pins) : (s.mapPins f).now = s.now := rfl
@[simp] theorem mapPins_session (f : Pins → Pins) : (s.mapPins f).session = s.session := rfl

/-! ## mapClock -/

@[simp] theorem mapClock_pending (f : Clock → Clock) : (s.mapClock f).pending = s.pending := rfl
@[simp] theorem mapClock_powered (f : Clock → Clock) : (s.mapClock f).powered = s.powered := rfl
@[simp] theorem mapClock_pins (f : Clock → Clock) : (s.mapClock f).pins = s.pins := rfl
@[simp] theorem mapClock_clock (f : Clock → Clock) : (s.mapClock f).clock = f s.clock := rfl
@[simp] theorem mapClock_link (f : Clock → Clock) : (s.mapClock f).link = s.link := rfl
@[simp] theorem mapClock_req (f : Clock → Clock) : (s.mapClock f).req = s.req := rfl
@[simp] theorem mapClock_time (f : Clock → Clock) : (s.mapClock f).time = s.time := rfl
@[simp] theorem mapClock_tl (f : Clock → Clock) : (s.mapClock f).tl = s.tl := rfl
@[simp] theorem mapClock_disp (f : Clock → Clock) : (s.mapClock f).disp = s.disp := rfl
@[simp] theorem mapClock_shift (f : Clock → Clock) : (s.mapClock f).shift = s.shift := rfl
@[simp] theorem mapClock_motion (f : Clock → Clock) : (s.mapClock f).motion = s.motion := rfl
@[simp] theorem mapClock_audio (f : Clock → Clock) : (s.mapClock f).audio = s.audio := rfl
@[simp] theorem mapClock_power (f : Clock → Clock) : (s.mapClock f).power = s.power := rfl
@[simp] theorem mapClock_free (f : Clock → Clock) : (s.mapClock f).free = s.free := rfl
@[simp] theorem mapClock_session (f : Clock → Clock) : (s.mapClock f).session = s.session := rfl

/-! ## mapLink -/

@[simp] theorem mapLink_pending (f : Link → Link) : (s.mapLink f).pending = s.pending := rfl
@[simp] theorem mapLink_powered (f : Link → Link) : (s.mapLink f).powered = s.powered := rfl
@[simp] theorem mapLink_pins (f : Link → Link) : (s.mapLink f).pins = s.pins := rfl
@[simp] theorem mapLink_clock (f : Link → Link) : (s.mapLink f).clock = s.clock := rfl
@[simp] theorem mapLink_link (f : Link → Link) : (s.mapLink f).link = f s.link := rfl
@[simp] theorem mapLink_req (f : Link → Link) : (s.mapLink f).req = s.req := rfl
@[simp] theorem mapLink_time (f : Link → Link) : (s.mapLink f).time = s.time := rfl
@[simp] theorem mapLink_tl (f : Link → Link) : (s.mapLink f).tl = s.tl := rfl
@[simp] theorem mapLink_disp (f : Link → Link) : (s.mapLink f).disp = s.disp := rfl
@[simp] theorem mapLink_shift (f : Link → Link) : (s.mapLink f).shift = s.shift := rfl
@[simp] theorem mapLink_motion (f : Link → Link) : (s.mapLink f).motion = s.motion := rfl
@[simp] theorem mapLink_audio (f : Link → Link) : (s.mapLink f).audio = s.audio := rfl
@[simp] theorem mapLink_power (f : Link → Link) : (s.mapLink f).power = s.power := rfl
@[simp] theorem mapLink_free (f : Link → Link) : (s.mapLink f).free = s.free := rfl
@[simp] theorem mapLink_now (f : Link → Link) : (s.mapLink f).now = s.now := rfl

/-! ## mapReq -/

@[simp] theorem mapReq_pending (f : Requests → Requests) : (s.mapReq f).pending = s.pending := rfl
@[simp] theorem mapReq_powered (f : Requests → Requests) : (s.mapReq f).powered = s.powered := rfl
@[simp] theorem mapReq_pins (f : Requests → Requests) : (s.mapReq f).pins = s.pins := rfl
@[simp] theorem mapReq_clock (f : Requests → Requests) : (s.mapReq f).clock = s.clock := rfl
@[simp] theorem mapReq_link (f : Requests → Requests) : (s.mapReq f).link = s.link := rfl
@[simp] theorem mapReq_req (f : Requests → Requests) : (s.mapReq f).req = f s.req := rfl
@[simp] theorem mapReq_time (f : Requests → Requests) : (s.mapReq f).time = s.time := rfl
@[simp] theorem mapReq_tl (f : Requests → Requests) : (s.mapReq f).tl = s.tl := rfl
@[simp] theorem mapReq_disp (f : Requests → Requests) : (s.mapReq f).disp = s.disp := rfl
@[simp] theorem mapReq_shift (f : Requests → Requests) : (s.mapReq f).shift = s.shift := rfl
@[simp] theorem mapReq_motion (f : Requests → Requests) : (s.mapReq f).motion = s.motion := rfl
@[simp] theorem mapReq_audio (f : Requests → Requests) : (s.mapReq f).audio = s.audio := rfl
@[simp] theorem mapReq_power (f : Requests → Requests) : (s.mapReq f).power = s.power := rfl
@[simp] theorem mapReq_free (f : Requests → Requests) : (s.mapReq f).free = s.free := rfl
@[simp] theorem mapReq_now (f : Requests → Requests) : (s.mapReq f).now = s.now := rfl
@[simp] theorem mapReq_session (f : Requests → Requests) : (s.mapReq f).session = s.session := rfl

/-! ## mapTime -/

@[simp] theorem mapTime_pending (f : Timebase → Timebase) : (s.mapTime f).pending = s.pending := rfl
@[simp] theorem mapTime_powered (f : Timebase → Timebase) : (s.mapTime f).powered = s.powered := rfl
@[simp] theorem mapTime_pins (f : Timebase → Timebase) : (s.mapTime f).pins = s.pins := rfl
@[simp] theorem mapTime_clock (f : Timebase → Timebase) : (s.mapTime f).clock = s.clock := rfl
@[simp] theorem mapTime_link (f : Timebase → Timebase) : (s.mapTime f).link = s.link := rfl
@[simp] theorem mapTime_req (f : Timebase → Timebase) : (s.mapTime f).req = s.req := rfl
@[simp] theorem mapTime_time (f : Timebase → Timebase) : (s.mapTime f).time = f s.time := rfl
@[simp] theorem mapTime_tl (f : Timebase → Timebase) : (s.mapTime f).tl = s.tl := rfl
@[simp] theorem mapTime_disp (f : Timebase → Timebase) : (s.mapTime f).disp = s.disp := rfl
@[simp] theorem mapTime_shift (f : Timebase → Timebase) : (s.mapTime f).shift = s.shift := rfl
@[simp] theorem mapTime_motion (f : Timebase → Timebase) : (s.mapTime f).motion = s.motion := rfl
@[simp] theorem mapTime_audio (f : Timebase → Timebase) : (s.mapTime f).audio = s.audio := rfl
@[simp] theorem mapTime_power (f : Timebase → Timebase) : (s.mapTime f).power = s.power := rfl
@[simp] theorem mapTime_free (f : Timebase → Timebase) : (s.mapTime f).free = s.free := rfl
@[simp] theorem mapTime_now (f : Timebase → Timebase) : (s.mapTime f).now = s.now := rfl
@[simp] theorem mapTime_session (f : Timebase → Timebase) : (s.mapTime f).session = s.session := rfl

/-! ## mapTl -/

@[simp] theorem mapTl_pending (f : Timeline → Timeline) : (s.mapTl f).pending = s.pending := rfl
@[simp] theorem mapTl_powered (f : Timeline → Timeline) : (s.mapTl f).powered = s.powered := rfl
@[simp] theorem mapTl_pins (f : Timeline → Timeline) : (s.mapTl f).pins = s.pins := rfl
@[simp] theorem mapTl_clock (f : Timeline → Timeline) : (s.mapTl f).clock = s.clock := rfl
@[simp] theorem mapTl_link (f : Timeline → Timeline) : (s.mapTl f).link = s.link := rfl
@[simp] theorem mapTl_req (f : Timeline → Timeline) : (s.mapTl f).req = s.req := rfl
@[simp] theorem mapTl_time (f : Timeline → Timeline) : (s.mapTl f).time = s.time := rfl
@[simp] theorem mapTl_tl (f : Timeline → Timeline) : (s.mapTl f).tl = f s.tl := rfl
@[simp] theorem mapTl_disp (f : Timeline → Timeline) : (s.mapTl f).disp = s.disp := rfl
@[simp] theorem mapTl_shift (f : Timeline → Timeline) : (s.mapTl f).shift = s.shift := rfl
@[simp] theorem mapTl_motion (f : Timeline → Timeline) : (s.mapTl f).motion = s.motion := rfl
@[simp] theorem mapTl_audio (f : Timeline → Timeline) : (s.mapTl f).audio = s.audio := rfl
@[simp] theorem mapTl_power (f : Timeline → Timeline) : (s.mapTl f).power = s.power := rfl
@[simp] theorem mapTl_free (f : Timeline → Timeline) : (s.mapTl f).free = s.free := rfl
@[simp] theorem mapTl_now (f : Timeline → Timeline) : (s.mapTl f).now = s.now := rfl
@[simp] theorem mapTl_session (f : Timeline → Timeline) : (s.mapTl f).session = s.session := rfl

/-! ## mapDisp -/

@[simp] theorem mapDisp_pending (f : Display → Display) : (s.mapDisp f).pending = s.pending := rfl
@[simp] theorem mapDisp_powered (f : Display → Display) : (s.mapDisp f).powered = s.powered := rfl
@[simp] theorem mapDisp_pins (f : Display → Display) : (s.mapDisp f).pins = s.pins := rfl
@[simp] theorem mapDisp_clock (f : Display → Display) : (s.mapDisp f).clock = s.clock := rfl
@[simp] theorem mapDisp_link (f : Display → Display) : (s.mapDisp f).link = s.link := rfl
@[simp] theorem mapDisp_req (f : Display → Display) : (s.mapDisp f).req = s.req := rfl
@[simp] theorem mapDisp_time (f : Display → Display) : (s.mapDisp f).time = s.time := rfl
@[simp] theorem mapDisp_tl (f : Display → Display) : (s.mapDisp f).tl = s.tl := rfl
@[simp] theorem mapDisp_disp (f : Display → Display) : (s.mapDisp f).disp = f s.disp := rfl
@[simp] theorem mapDisp_shift (f : Display → Display) : (s.mapDisp f).shift = s.shift := rfl
@[simp] theorem mapDisp_motion (f : Display → Display) : (s.mapDisp f).motion = s.motion := rfl
@[simp] theorem mapDisp_audio (f : Display → Display) : (s.mapDisp f).audio = s.audio := rfl
@[simp] theorem mapDisp_power (f : Display → Display) : (s.mapDisp f).power = s.power := rfl
@[simp] theorem mapDisp_free (f : Display → Display) : (s.mapDisp f).free = s.free := rfl
@[simp] theorem mapDisp_now (f : Display → Display) : (s.mapDisp f).now = s.now := rfl
@[simp] theorem mapDisp_session (f : Display → Display) : (s.mapDisp f).session = s.session := rfl

/-! ## mapShift -/

@[simp] theorem mapShift_pending (f : ShiftUnit → ShiftUnit) : (s.mapShift f).pending = s.pending := rfl
@[simp] theorem mapShift_powered (f : ShiftUnit → ShiftUnit) : (s.mapShift f).powered = s.powered := rfl
@[simp] theorem mapShift_pins (f : ShiftUnit → ShiftUnit) : (s.mapShift f).pins = s.pins := rfl
@[simp] theorem mapShift_clock (f : ShiftUnit → ShiftUnit) : (s.mapShift f).clock = s.clock := rfl
@[simp] theorem mapShift_link (f : ShiftUnit → ShiftUnit) : (s.mapShift f).link = s.link := rfl
@[simp] theorem mapShift_req (f : ShiftUnit → ShiftUnit) : (s.mapShift f).req = s.req := rfl
@[simp] theorem mapShift_time (f : ShiftUnit → ShiftUnit) : (s.mapShift f).time = s.time := rfl
@[simp] theorem mapShift_tl (f : ShiftUnit → ShiftUnit) : (s.mapShift f).tl = s.tl := rfl
@[simp] theorem mapShift_disp (f : ShiftUnit → ShiftUnit) : (s.mapShift f).disp = s.disp := rfl
@[simp] theorem mapShift_shift (f : ShiftUnit → ShiftUnit) : (s.mapShift f).shift = f s.shift := rfl
@[simp] theorem mapShift_motion (f : ShiftUnit → ShiftUnit) : (s.mapShift f).motion = s.motion := rfl
@[simp] theorem mapShift_audio (f : ShiftUnit → ShiftUnit) : (s.mapShift f).audio = s.audio := rfl
@[simp] theorem mapShift_power (f : ShiftUnit → ShiftUnit) : (s.mapShift f).power = s.power := rfl
@[simp] theorem mapShift_free (f : ShiftUnit → ShiftUnit) : (s.mapShift f).free = s.free := rfl
@[simp] theorem mapShift_now (f : ShiftUnit → ShiftUnit) : (s.mapShift f).now = s.now := rfl
@[simp] theorem mapShift_session (f : ShiftUnit → ShiftUnit) : (s.mapShift f).session = s.session := rfl

/-! ## mapMotion -/

@[simp] theorem mapMotion_pending (f : Motion → Motion) : (s.mapMotion f).pending = s.pending := rfl
@[simp] theorem mapMotion_powered (f : Motion → Motion) : (s.mapMotion f).powered = s.powered := rfl
@[simp] theorem mapMotion_pins (f : Motion → Motion) : (s.mapMotion f).pins = s.pins := rfl
@[simp] theorem mapMotion_clock (f : Motion → Motion) : (s.mapMotion f).clock = s.clock := rfl
@[simp] theorem mapMotion_link (f : Motion → Motion) : (s.mapMotion f).link = s.link := rfl
@[simp] theorem mapMotion_req (f : Motion → Motion) : (s.mapMotion f).req = s.req := rfl
@[simp] theorem mapMotion_time (f : Motion → Motion) : (s.mapMotion f).time = s.time := rfl
@[simp] theorem mapMotion_tl (f : Motion → Motion) : (s.mapMotion f).tl = s.tl := rfl
@[simp] theorem mapMotion_disp (f : Motion → Motion) : (s.mapMotion f).disp = s.disp := rfl
@[simp] theorem mapMotion_shift (f : Motion → Motion) : (s.mapMotion f).shift = s.shift := rfl
@[simp] theorem mapMotion_motion (f : Motion → Motion) : (s.mapMotion f).motion = f s.motion := rfl
@[simp] theorem mapMotion_audio (f : Motion → Motion) : (s.mapMotion f).audio = s.audio := rfl
@[simp] theorem mapMotion_power (f : Motion → Motion) : (s.mapMotion f).power = s.power := rfl
@[simp] theorem mapMotion_free (f : Motion → Motion) : (s.mapMotion f).free = s.free := rfl
@[simp] theorem mapMotion_now (f : Motion → Motion) : (s.mapMotion f).now = s.now := rfl
@[simp] theorem mapMotion_session (f : Motion → Motion) : (s.mapMotion f).session = s.session := rfl

/-! ## mapAudio -/

@[simp] theorem mapAudio_pending (f : Audio → Audio) : (s.mapAudio f).pending = s.pending := rfl
@[simp] theorem mapAudio_powered (f : Audio → Audio) : (s.mapAudio f).powered = s.powered := rfl
@[simp] theorem mapAudio_pins (f : Audio → Audio) : (s.mapAudio f).pins = s.pins := rfl
@[simp] theorem mapAudio_clock (f : Audio → Audio) : (s.mapAudio f).clock = s.clock := rfl
@[simp] theorem mapAudio_link (f : Audio → Audio) : (s.mapAudio f).link = s.link := rfl
@[simp] theorem mapAudio_req (f : Audio → Audio) : (s.mapAudio f).req = s.req := rfl
@[simp] theorem mapAudio_time (f : Audio → Audio) : (s.mapAudio f).time = s.time := rfl
@[simp] theorem mapAudio_tl (f : Audio → Audio) : (s.mapAudio f).tl = s.tl := rfl
@[simp] theorem mapAudio_disp (f : Audio → Audio) : (s.mapAudio f).disp = s.disp := rfl
@[simp] theorem mapAudio_shift (f : Audio → Audio) : (s.mapAudio f).shift = s.shift := rfl
@[simp] theorem mapAudio_motion (f : Audio → Audio) : (s.mapAudio f).motion = s.motion := rfl
@[simp] theorem mapAudio_audio (f : Audio → Audio) : (s.mapAudio f).audio = f s.audio := rfl
@[simp] theorem mapAudio_power (f : Audio → Audio) : (s.mapAudio f).power = s.power := rfl
@[simp] theorem mapAudio_free (f : Audio → Audio) : (s.mapAudio f).free = s.free := rfl
@[simp] theorem mapAudio_now (f : Audio → Audio) : (s.mapAudio f).now = s.now := rfl
@[simp] theorem mapAudio_session (f : Audio → Audio) : (s.mapAudio f).session = s.session := rfl

/-! ## mapPower -/

@[simp] theorem mapPower_pending (f : Power → Power) : (s.mapPower f).pending = s.pending := rfl
@[simp] theorem mapPower_powered (f : Power → Power) : (s.mapPower f).powered = s.powered := rfl
@[simp] theorem mapPower_pins (f : Power → Power) : (s.mapPower f).pins = s.pins := rfl
@[simp] theorem mapPower_clock (f : Power → Power) : (s.mapPower f).clock = s.clock := rfl
@[simp] theorem mapPower_link (f : Power → Power) : (s.mapPower f).link = s.link := rfl
@[simp] theorem mapPower_req (f : Power → Power) : (s.mapPower f).req = s.req := rfl
@[simp] theorem mapPower_time (f : Power → Power) : (s.mapPower f).time = s.time := rfl
@[simp] theorem mapPower_tl (f : Power → Power) : (s.mapPower f).tl = s.tl := rfl
@[simp] theorem mapPower_disp (f : Power → Power) : (s.mapPower f).disp = s.disp := rfl
@[simp] theorem mapPower_shift (f : Power → Power) : (s.mapPower f).shift = s.shift := rfl
@[simp] theorem mapPower_motion (f : Power → Power) : (s.mapPower f).motion = s.motion := rfl
@[simp] theorem mapPower_audio (f : Power → Power) : (s.mapPower f).audio = s.audio := rfl
@[simp] theorem mapPower_power (f : Power → Power) : (s.mapPower f).power = f s.power := rfl
@[simp] theorem mapPower_free (f : Power → Power) : (s.mapPower f).free = s.free := rfl
@[simp] theorem mapPower_now (f : Power → Power) : (s.mapPower f).now = s.now := rfl
@[simp] theorem mapPower_session (f : Power → Power) : (s.mapPower f).session = s.session := rfl

/-! ## mapFree -/

@[simp] theorem mapFree_pending (f : Nat → Nat) : (s.mapFree f).pending = s.pending := rfl
@[simp] theorem mapFree_powered (f : Nat → Nat) : (s.mapFree f).powered = s.powered := rfl
@[simp] theorem mapFree_pins (f : Nat → Nat) : (s.mapFree f).pins = s.pins := rfl
@[simp] theorem mapFree_clock (f : Nat → Nat) : (s.mapFree f).clock = s.clock := rfl
@[simp] theorem mapFree_link (f : Nat → Nat) : (s.mapFree f).link = s.link := rfl
@[simp] theorem mapFree_req (f : Nat → Nat) : (s.mapFree f).req = s.req := rfl
@[simp] theorem mapFree_time (f : Nat → Nat) : (s.mapFree f).time = s.time := rfl
@[simp] theorem mapFree_tl (f : Nat → Nat) : (s.mapFree f).tl = s.tl := rfl
@[simp] theorem mapFree_disp (f : Nat → Nat) : (s.mapFree f).disp = s.disp := rfl
@[simp] theorem mapFree_shift (f : Nat → Nat) : (s.mapFree f).shift = s.shift := rfl
@[simp] theorem mapFree_motion (f : Nat → Nat) : (s.mapFree f).motion = s.motion := rfl
@[simp] theorem mapFree_audio (f : Nat → Nat) : (s.mapFree f).audio = s.audio := rfl
@[simp] theorem mapFree_power (f : Nat → Nat) : (s.mapFree f).power = s.power := rfl
@[simp] theorem mapFree_free (f : Nat → Nat) : (s.mapFree f).free = f s.free := rfl
@[simp] theorem mapFree_now (f : Nat → Nat) : (s.mapFree f).now = s.now := rfl
@[simp] theorem mapFree_session (f : Nat → Nat) : (s.mapFree f).session = s.session := rfl

/-! ## mapEye -/

@[simp] theorem mapEye_pending (e : Eye) (f : EyeDisplay → EyeDisplay) : (s.mapEye e f).pending = s.pending := rfl
@[simp] theorem mapEye_powered (e : Eye) (f : EyeDisplay → EyeDisplay) : (s.mapEye e f).powered = s.powered := rfl
@[simp] theorem mapEye_pins (e : Eye) (f : EyeDisplay → EyeDisplay) : (s.mapEye e f).pins = s.pins := rfl
@[simp] theorem mapEye_clock (e : Eye) (f : EyeDisplay → EyeDisplay) : (s.mapEye e f).clock = s.clock := rfl
@[simp] theorem mapEye_link (e : Eye) (f : EyeDisplay → EyeDisplay) : (s.mapEye e f).link = s.link := rfl
@[simp] theorem mapEye_req (e : Eye) (f : EyeDisplay → EyeDisplay) : (s.mapEye e f).req = s.req := rfl
@[simp] theorem mapEye_time (e : Eye) (f : EyeDisplay → EyeDisplay) : (s.mapEye e f).time = s.time := rfl
@[simp] theorem mapEye_tl (e : Eye) (f : EyeDisplay → EyeDisplay) : (s.mapEye e f).tl = s.tl := rfl
@[simp] theorem mapEye_shift (e : Eye) (f : EyeDisplay → EyeDisplay) : (s.mapEye e f).shift = s.shift := rfl
@[simp] theorem mapEye_motion (e : Eye) (f : EyeDisplay → EyeDisplay) : (s.mapEye e f).motion = s.motion := rfl
@[simp] theorem mapEye_audio (e : Eye) (f : EyeDisplay → EyeDisplay) : (s.mapEye e f).audio = s.audio := rfl
@[simp] theorem mapEye_power (e : Eye) (f : EyeDisplay → EyeDisplay) : (s.mapEye e f).power = s.power := rfl
@[simp] theorem mapEye_free (e : Eye) (f : EyeDisplay → EyeDisplay) : (s.mapEye e f).free = s.free := rfl
@[simp] theorem mapEye_now (e : Eye) (f : EyeDisplay → EyeDisplay) : (s.mapEye e f).now = s.now := rfl
@[simp] theorem mapEye_session (e : Eye) (f : EyeDisplay → EyeDisplay) : (s.mapEye e f).session = s.session := rfl

/-! ## mapCam -/

@[simp] theorem mapCam_pending (c : Camera) (f : Cam → Cam) : (s.mapCam c f).pending = s.pending := rfl
@[simp] theorem mapCam_powered (c : Camera) (f : Cam → Cam) : (s.mapCam c f).powered = s.powered := rfl
@[simp] theorem mapCam_pins (c : Camera) (f : Cam → Cam) : (s.mapCam c f).pins = s.pins := rfl
@[simp] theorem mapCam_clock (c : Camera) (f : Cam → Cam) : (s.mapCam c f).clock = s.clock := rfl
@[simp] theorem mapCam_link (c : Camera) (f : Cam → Cam) : (s.mapCam c f).link = s.link := rfl
@[simp] theorem mapCam_req (c : Camera) (f : Cam → Cam) : (s.mapCam c f).req = s.req := rfl
@[simp] theorem mapCam_time (c : Camera) (f : Cam → Cam) : (s.mapCam c f).time = s.time := rfl
@[simp] theorem mapCam_tl (c : Camera) (f : Cam → Cam) : (s.mapCam c f).tl = s.tl := rfl
@[simp] theorem mapCam_disp (c : Camera) (f : Cam → Cam) : (s.mapCam c f).disp = s.disp := rfl
@[simp] theorem mapCam_shift (c : Camera) (f : Cam → Cam) : (s.mapCam c f).shift = s.shift := rfl
@[simp] theorem mapCam_audio (c : Camera) (f : Cam → Cam) : (s.mapCam c f).audio = s.audio := rfl
@[simp] theorem mapCam_power (c : Camera) (f : Cam → Cam) : (s.mapCam c f).power = s.power := rfl
@[simp] theorem mapCam_free (c : Camera) (f : Cam → Cam) : (s.mapCam c f).free = s.free := rfl
@[simp] theorem mapCam_now (c : Camera) (f : Cam → Cam) : (s.mapCam c f).now = s.now := rfl
@[simp] theorem mapCam_session (c : Camera) (f : Cam → Cam) : (s.mapCam c f).session = s.session := rfl

@[simp] theorem mapEye_eyes (e : Eye) (f : EyeDisplay → EyeDisplay) :
    (s.mapEye e f).disp.eyes = s.disp.eyes.set e (f (s.disp.eyes.get e)) := rfl
@[simp] theorem mapCam_cams (c : Camera) (f : Cam → Cam) :
    (s.mapCam c f).motion.cams = s.motion.cams.set c (f (s.motion.cams.get c)) := rfl

/-! ## withPending -/

@[simp] theorem withPending_pending (q : List Instr) : (s.withPending q).pending = q := rfl
@[simp] theorem withPending_powered (q : List Instr) : (s.withPending q).powered = s.powered := rfl
@[simp] theorem withPending_pins (q : List Instr) : (s.withPending q).pins = s.pins := rfl
@[simp] theorem withPending_clock (q : List Instr) : (s.withPending q).clock = s.clock := rfl
@[simp] theorem withPending_link (q : List Instr) : (s.withPending q).link = s.link := rfl
@[simp] theorem withPending_req (q : List Instr) : (s.withPending q).req = s.req := rfl
@[simp] theorem withPending_time (q : List Instr) : (s.withPending q).time = s.time := rfl
@[simp] theorem withPending_tl (q : List Instr) : (s.withPending q).tl = s.tl := rfl
@[simp] theorem withPending_disp (q : List Instr) : (s.withPending q).disp = s.disp := rfl
@[simp] theorem withPending_shift (q : List Instr) : (s.withPending q).shift = s.shift := rfl
@[simp] theorem withPending_motion (q : List Instr) : (s.withPending q).motion = s.motion := rfl
@[simp] theorem withPending_audio (q : List Instr) : (s.withPending q).audio = s.audio := rfl
@[simp] theorem withPending_power (q : List Instr) : (s.withPending q).power = s.power := rfl
@[simp] theorem withPending_free (q : List Instr) : (s.withPending q).free = s.free := rfl
@[simp] theorem withPending_now (q : List Instr) : (s.withPending q).now = s.now := rfl

/-! ## Containers -/

@[simp] theorem PerEye_get_set_same {α : Type} (p : PerEye α) (e : Eye) (x : α) : (p.set e x).get e = x := by
  cases e <;> rfl
theorem PerEye_get_set_other {α : Type} (p : PerEye α) (e e' : Eye) (x : α) (h : e' ≠ e) : (p.set e x).get e' = p.get e' := by
  cases e <;> cases e' <;> simp_all [PerEye.get, PerEye.set]
@[simp] theorem PerCam_get_set_same {α : Type} (p : PerCam α) (c : Camera) (x : α) : (p.set c x).get c = x := by
  match c with
  | 0 => rfl
  | 1 => rfl
  | 2 => rfl
  | 3 => rfl
theorem PerCam_get_set_other {α : Type} (p : PerCam α) (c c' : Camera) (x : α) (h : c' ≠ c) :
    (p.set c x).get c' = p.get c' := by
  revert h
  match c, c' with
  | 0, 0 | 1, 1 | 2, 2 | 3, 3 => exact fun h => absurd rfl h
  | 0, 1 | 0, 2 | 0, 3 | 1, 0 | 1, 2 | 1, 3 | 2, 0 | 2, 1 | 2, 3 | 3, 0 | 3, 1 | 3, 2 => exact fun _ => rfl
@[simp] theorem PerEye_get_map {α β : Type} (p : PerEye α) (f : α → β) (e : Eye) : (p.map f).get e = f (p.get e) := by
  cases e <;> rfl
@[simp] theorem PerEye_get_both {α : Type} (x : α) (e : Eye) : (PerEye.both x).get e = x := by
  cases e <;> rfl

/-! ## raise, raiseIf and offer: only the queues they name -/

@[simp] theorem raise_pending (x : Source) (d : Detail) : (raise x d s).pending = s.pending := rfl
@[simp] theorem raise_powered (x : Source) (d : Detail) : (raise x d s).powered = s.powered := rfl
@[simp] theorem raise_pins (x : Source) (d : Detail) : (raise x d s).pins = s.pins := rfl
@[simp] theorem raise_clock (x : Source) (d : Detail) : (raise x d s).clock = s.clock := rfl
@[simp] theorem raise_link (x : Source) (d : Detail) : (raise x d s).link = s.link := rfl
@[simp] theorem raise_time (x : Source) (d : Detail) : (raise x d s).time = s.time := rfl
@[simp] theorem raise_tl (x : Source) (d : Detail) : (raise x d s).tl = s.tl := rfl
@[simp] theorem raise_disp (x : Source) (d : Detail) : (raise x d s).disp = s.disp := rfl
@[simp] theorem raise_shift (x : Source) (d : Detail) : (raise x d s).shift = s.shift := rfl
@[simp] theorem raise_motion (x : Source) (d : Detail) : (raise x d s).motion = s.motion := rfl
@[simp] theorem raise_audio (x : Source) (d : Detail) : (raise x d s).audio = s.audio := rfl
@[simp] theorem raise_power (x : Source) (d : Detail) : (raise x d s).power = s.power := rfl
@[simp] theorem raise_free (x : Source) (d : Detail) : (raise x d s).free = s.free := rfl
@[simp] theorem raise_now (x : Source) (d : Detail) : (raise x d s).now = s.now := rfl
@[simp] theorem raise_session (x : Source) (d : Detail) : (raise x d s).session = s.session := rfl
/-- What `raise` does: the event queue takes the event, and nothing else changes (R172). -/
theorem raise_req (x : Source) (d : Detail) :
    (raise x d s).req = { s.req with events := raiseInto x d s.now s.req.events } := rfl

@[simp] theorem raiseIf_pending (c : Bool) (x : Source) (d : Detail) : (raiseIf c x d s).pending = s.pending := by cases c <;> rfl
@[simp] theorem raiseIf_powered (c : Bool) (x : Source) (d : Detail) : (raiseIf c x d s).powered = s.powered := by cases c <;> rfl
@[simp] theorem raiseIf_pins (c : Bool) (x : Source) (d : Detail) : (raiseIf c x d s).pins = s.pins := by cases c <;> rfl
@[simp] theorem raiseIf_clock (c : Bool) (x : Source) (d : Detail) : (raiseIf c x d s).clock = s.clock := by cases c <;> rfl
@[simp] theorem raiseIf_link (c : Bool) (x : Source) (d : Detail) : (raiseIf c x d s).link = s.link := by cases c <;> rfl
@[simp] theorem raiseIf_time (c : Bool) (x : Source) (d : Detail) : (raiseIf c x d s).time = s.time := by cases c <;> rfl
@[simp] theorem raiseIf_tl (c : Bool) (x : Source) (d : Detail) : (raiseIf c x d s).tl = s.tl := by cases c <;> rfl
@[simp] theorem raiseIf_disp (c : Bool) (x : Source) (d : Detail) : (raiseIf c x d s).disp = s.disp := by cases c <;> rfl
@[simp] theorem raiseIf_shift (c : Bool) (x : Source) (d : Detail) : (raiseIf c x d s).shift = s.shift := by cases c <;> rfl
@[simp] theorem raiseIf_motion (c : Bool) (x : Source) (d : Detail) : (raiseIf c x d s).motion = s.motion := by cases c <;> rfl
@[simp] theorem raiseIf_audio (c : Bool) (x : Source) (d : Detail) : (raiseIf c x d s).audio = s.audio := by cases c <;> rfl
@[simp] theorem raiseIf_power (c : Bool) (x : Source) (d : Detail) : (raiseIf c x d s).power = s.power := by cases c <;> rfl
@[simp] theorem raiseIf_free (c : Bool) (x : Source) (d : Detail) : (raiseIf c x d s).free = s.free := by cases c <;> rfl
@[simp] theorem offer_pending (r : Report) : (offer r s).pending = s.pending := by unfold offer; split <;> rfl
@[simp] theorem offer_powered (r : Report) : (offer r s).powered = s.powered := by unfold offer; split <;> rfl
@[simp] theorem offer_pins (r : Report) : (offer r s).pins = s.pins := by unfold offer; split <;> rfl
@[simp] theorem offer_clock (r : Report) : (offer r s).clock = s.clock := by unfold offer; split <;> rfl
@[simp] theorem offer_req (r : Report) : (offer r s).req = s.req := by unfold offer; split <;> rfl
@[simp] theorem offer_time (r : Report) : (offer r s).time = s.time := by unfold offer; split <;> rfl
@[simp] theorem offer_tl (r : Report) : (offer r s).tl = s.tl := by unfold offer; split <;> rfl
@[simp] theorem offer_disp (r : Report) : (offer r s).disp = s.disp := by unfold offer; split <;> rfl
@[simp] theorem offer_shift (r : Report) : (offer r s).shift = s.shift := by unfold offer; split <;> rfl
@[simp] theorem offer_motion (r : Report) : (offer r s).motion = s.motion := by unfold offer; split <;> rfl
@[simp] theorem offer_audio (r : Report) : (offer r s).audio = s.audio := by unfold offer; split <;> rfl
@[simp] theorem offer_power (r : Report) : (offer r s).power = s.power := by unfold offer; split <;> rfl
@[simp] theorem offer_free (r : Report) : (offer r s).free = s.free := by unfold offer; split <;> rfl

end Sys2Proof.Machine
end

