-- ==== Sys2Proof/Laws/Ops.lean ====
section
/-! SUPPORT. What each shared operation leaves unchanged: the provers cite these instead of unfolding the operation. -/

namespace Sys2Proof.Machine

open Sys2Proof

variable (s : State)

/-! ## Lights, blank causes, mute causes (R57, R61, R84, R113) -/

@[simp] theorem lights_pending : (lights s).pending = s.pending := rfl
@[simp] theorem lights_powered : (lights s).powered = s.powered := rfl
@[simp] theorem lights_pins : (lights s).pins = s.pins := rfl
@[simp] theorem lights_clock : (lights s).clock = s.clock := rfl
@[simp] theorem lights_link : (lights s).link = s.link := rfl
@[simp] theorem lights_req : (lights s).req = s.req := rfl
@[simp] theorem lights_time : (lights s).time = s.time := rfl
@[simp] theorem lights_tl : (lights s).tl = s.tl := rfl
@[simp] theorem lights_shift : (lights s).shift = s.shift := rfl
@[simp] theorem lights_audio : (lights s).audio = s.audio := rfl
@[simp] theorem lights_power : (lights s).power = s.power := rfl
@[simp] theorem lights_free : (lights s).free = s.free := rfl
@[simp] theorem lights_now : (lights s).now = s.now := rfl
@[simp] theorem lights_session : (lights s).session = s.session := by simp [State.session]

@[simp] theorem unblank_pending (c : Cause) : (unblank c s).pending = s.pending := rfl
@[simp] theorem unblank_powered (c : Cause) : (unblank c s).powered = s.powered := rfl
@[simp] theorem unblank_pins (c : Cause) : (unblank c s).pins = s.pins := rfl
@[simp] theorem unblank_clock (c : Cause) : (unblank c s).clock = s.clock := rfl
@[simp] theorem unblank_link (c : Cause) : (unblank c s).link = s.link := rfl
@[simp] theorem unblank_req (c : Cause) : (unblank c s).req = s.req := rfl
@[simp] theorem unblank_time (c : Cause) : (unblank c s).time = s.time := rfl
@[simp] theorem unblank_tl (c : Cause) : (unblank c s).tl = s.tl := rfl
@[simp] theorem unblank_shift (c : Cause) : (unblank c s).shift = s.shift := rfl
@[simp] theorem unblank_motion (c : Cause) : (unblank c s).motion = s.motion := rfl
@[simp] theorem unblank_audio (c : Cause) : (unblank c s).audio = s.audio := rfl
@[simp] theorem unblank_power (c : Cause) : (unblank c s).power = s.power := rfl
@[simp] theorem unblank_free (c : Cause) : (unblank c s).free = s.free := rfl
@[simp] theorem unblank_now (c : Cause) : (unblank c s).now = s.now := rfl
@[simp] theorem unblank_session (c : Cause) : (unblank c s).session = s.session := by simp [State.session]

@[simp] theorem blank_pending (c : Cause) : (blank c s).pending = s.pending := by unfold blank; split <;> simp
@[simp] theorem blank_powered (c : Cause) : (blank c s).powered = s.powered := by unfold blank; split <;> simp
@[simp] theorem blank_pins (c : Cause) : (blank c s).pins = s.pins := by unfold blank; split <;> simp
@[simp] theorem blank_clock (c : Cause) : (blank c s).clock = s.clock := by unfold blank; split <;> simp
@[simp] theorem blank_link (c : Cause) : (blank c s).link = s.link := by unfold blank; split <;> simp
@[simp] theorem blank_time (c : Cause) : (blank c s).time = s.time := by unfold blank; split <;> simp
@[simp] theorem blank_tl (c : Cause) : (blank c s).tl = s.tl := by unfold blank; split <;> simp
@[simp] theorem blank_shift (c : Cause) : (blank c s).shift = s.shift := by unfold blank; split <;> simp
@[simp] theorem blank_audio (c : Cause) : (blank c s).audio = s.audio := by unfold blank; split <;> simp
@[simp] theorem blank_power (c : Cause) : (blank c s).power = s.power := by unfold blank; split <;> simp
@[simp] theorem blank_free (c : Cause) : (blank c s).free = s.free := by unfold blank; split <;> simp
@[simp] theorem blank_now (c : Cause) : (blank c s).now = s.now := by unfold blank; split <;> simp [State.now]
@[simp] theorem blank_session (c : Cause) : (blank c s).session = s.session := by simp [State.session]

@[simp] theorem setBlank_pending (c : Cause) (p : Bool) : (setBlank c p s).pending = s.pending := by cases p <;> simp [setBlank]
@[simp] theorem setBlank_powered (c : Cause) (p : Bool) : (setBlank c p s).powered = s.powered := by cases p <;> simp [setBlank]
@[simp] theorem setBlank_pins (c : Cause) (p : Bool) : (setBlank c p s).pins = s.pins := by cases p <;> simp [setBlank]
@[simp] theorem setBlank_clock (c : Cause) (p : Bool) : (setBlank c p s).clock = s.clock := by cases p <;> simp [setBlank]
@[simp] theorem setBlank_link (c : Cause) (p : Bool) : (setBlank c p s).link = s.link := by cases p <;> simp [setBlank]
@[simp] theorem setBlank_time (c : Cause) (p : Bool) : (setBlank c p s).time = s.time := by cases p <;> simp [setBlank]
@[simp] theorem setBlank_tl (c : Cause) (p : Bool) : (setBlank c p s).tl = s.tl := by cases p <;> simp [setBlank]
@[simp] theorem setBlank_shift (c : Cause) (p : Bool) : (setBlank c p s).shift = s.shift := by cases p <;> simp [setBlank]
@[simp] theorem setBlank_audio (c : Cause) (p : Bool) : (setBlank c p s).audio = s.audio := by cases p <;> simp [setBlank]
@[simp] theorem setBlank_power (c : Cause) (p : Bool) : (setBlank c p s).power = s.power := by cases p <;> simp [setBlank]
@[simp] theorem setBlank_free (c : Cause) (p : Bool) : (setBlank c p s).free = s.free := by cases p <;> simp [setBlank]
@[simp] theorem setBlank_now (c : Cause) (p : Bool) : (setBlank c p s).now = s.now := by cases p <;> simp [setBlank, State.now]
@[simp] theorem setBlank_session (c : Cause) (p : Bool) : (setBlank c p s).session = s.session := by simp [State.session]

@[simp] theorem setMute_pending (c : MuteCause) (p : Bool) : (setMute c p s).pending = s.pending := rfl
@[simp] theorem setMute_powered (c : MuteCause) (p : Bool) : (setMute c p s).powered = s.powered := rfl
@[simp] theorem setMute_pins (c : MuteCause) (p : Bool) : (setMute c p s).pins = s.pins := rfl
@[simp] theorem setMute_clock (c : MuteCause) (p : Bool) : (setMute c p s).clock = s.clock := rfl
@[simp] theorem setMute_link (c : MuteCause) (p : Bool) : (setMute c p s).link = s.link := rfl
@[simp] theorem setMute_req (c : MuteCause) (p : Bool) : (setMute c p s).req = s.req := rfl
@[simp] theorem setMute_time (c : MuteCause) (p : Bool) : (setMute c p s).time = s.time := rfl
@[simp] theorem setMute_tl (c : MuteCause) (p : Bool) : (setMute c p s).tl = s.tl := rfl
@[simp] theorem setMute_disp (c : MuteCause) (p : Bool) : (setMute c p s).disp = s.disp := rfl
@[simp] theorem setMute_shift (c : MuteCause) (p : Bool) : (setMute c p s).shift = s.shift := rfl
@[simp] theorem setMute_motion (c : MuteCause) (p : Bool) : (setMute c p s).motion = s.motion := rfl
@[simp] theorem setMute_power (c : MuteCause) (p : Bool) : (setMute c p s).power = s.power := rfl
@[simp] theorem setMute_free (c : MuteCause) (p : Bool) : (setMute c p s).free = s.free := rfl
@[simp] theorem setMute_now (c : MuteCause) (p : Bool) : (setMute c p s).now = s.now := rfl
@[simp] theorem setMute_session (c : MuteCause) (p : Bool) : (setMute c p s).session = s.session := by simp [State.session]

/-! ## The grant computation (R128 to R131) -/

@[simp] theorem computePower_pending : (computePower s).pending = s.pending := by unfold computePower; split <;> rfl
@[simp] theorem computePower_powered : (computePower s).powered = s.powered := by unfold computePower; split <;> rfl
@[simp] theorem computePower_pins : (computePower s).pins = s.pins := by unfold computePower; split <;> rfl
@[simp] theorem computePower_clock : (computePower s).clock = s.clock := by unfold computePower; split <;> rfl
@[simp] theorem computePower_link : (computePower s).link = s.link := by unfold computePower; split <;> rfl
@[simp] theorem computePower_req : (computePower s).req = s.req := by unfold computePower; split <;> rfl
@[simp] theorem computePower_time : (computePower s).time = s.time := by unfold computePower; split <;> rfl
@[simp] theorem computePower_tl : (computePower s).tl = s.tl := by unfold computePower; split <;> rfl
@[simp] theorem computePower_disp : (computePower s).disp = s.disp := by unfold computePower; split <;> rfl
@[simp] theorem computePower_shift : (computePower s).shift = s.shift := by unfold computePower; split <;> rfl
@[simp] theorem computePower_motion : (computePower s).motion = s.motion := by unfold computePower; split <;> rfl
@[simp] theorem computePower_audio : (computePower s).audio = s.audio := by unfold computePower; split <;> rfl
@[simp] theorem computePower_now : (computePower s).now = s.now := by unfold computePower; split <;> rfl
@[simp] theorem computePower_session : (computePower s).session = s.session := by simp [State.session]

@[simp] theorem raiseLimited_pending (p : Power) (a : Int) : (raiseLimited p a s).pending = s.pending := by simp [raiseLimited]
@[simp] theorem raiseLimited_powered (p : Power) (a : Int) : (raiseLimited p a s).powered = s.powered := by simp [raiseLimited]
@[simp] theorem raiseLimited_pins (p : Power) (a : Int) : (raiseLimited p a s).pins = s.pins := by simp [raiseLimited]
@[simp] theorem raiseLimited_clock (p : Power) (a : Int) : (raiseLimited p a s).clock = s.clock := by simp [raiseLimited]
@[simp] theorem raiseLimited_link (p : Power) (a : Int) : (raiseLimited p a s).link = s.link := by simp [raiseLimited]
@[simp] theorem raiseLimited_time (p : Power) (a : Int) : (raiseLimited p a s).time = s.time := by simp [raiseLimited]
@[simp] theorem raiseLimited_tl (p : Power) (a : Int) : (raiseLimited p a s).tl = s.tl := by simp [raiseLimited]
@[simp] theorem raiseLimited_disp (p : Power) (a : Int) : (raiseLimited p a s).disp = s.disp := by simp [raiseLimited]
@[simp] theorem raiseLimited_shift (p : Power) (a : Int) : (raiseLimited p a s).shift = s.shift := by simp [raiseLimited]
@[simp] theorem raiseLimited_motion (p : Power) (a : Int) : (raiseLimited p a s).motion = s.motion := by simp [raiseLimited]
@[simp] theorem raiseLimited_audio (p : Power) (a : Int) : (raiseLimited p a s).audio = s.audio := by simp [raiseLimited]
@[simp] theorem raiseLimited_power (p : Power) (a : Int) : (raiseLimited p a s).power = s.power := by simp [raiseLimited]
@[simp] theorem raiseLimited_free (p : Power) (a : Int) : (raiseLimited p a s).free = s.free := by simp [raiseLimited]
@[simp] theorem raiseLimited_now (p : Power) (a : Int) : (raiseLimited p a s).now = s.now := by simp [raiseLimited, State.now]
@[simp] theorem raiseLimited_session (p : Power) (a : Int) : (raiseLimited p a s).session = s.session := by simp [State.session]

@[simp] theorem handGrants_pending : (handGrants s).pending = s.pending := by simp [handGrants]
@[simp] theorem handGrants_powered : (handGrants s).powered = s.powered := by simp [handGrants]
@[simp] theorem handGrants_pins : (handGrants s).pins = s.pins := by simp [handGrants]
@[simp] theorem handGrants_clock : (handGrants s).clock = s.clock := by simp [handGrants]
@[simp] theorem handGrants_link : (handGrants s).link = s.link := by simp [handGrants]
@[simp] theorem handGrants_time : (handGrants s).time = s.time := by simp [handGrants]
@[simp] theorem handGrants_tl : (handGrants s).tl = s.tl := by simp [handGrants]
@[simp] theorem handGrants_shift : (handGrants s).shift = s.shift := by simp [handGrants]
@[simp] theorem handGrants_power : (handGrants s).power = s.power := by simp [handGrants]
@[simp] theorem handGrants_free : (handGrants s).free = s.free := by simp [handGrants]
@[simp] theorem handGrants_now : (handGrants s).now = s.now := by simp [handGrants, State.now]
@[simp] theorem handGrants_session : (handGrants s).session = s.session := by simp [State.session]

@[simp] theorem computeGrants_pending : (computeGrants s).pending = s.pending := by simp [computeGrants]
@[simp] theorem computeGrants_powered : (computeGrants s).powered = s.powered := by simp [computeGrants]
@[simp] theorem computeGrants_pins : (computeGrants s).pins = s.pins := by simp [computeGrants]
@[simp] theorem computeGrants_clock : (computeGrants s).clock = s.clock := by simp [computeGrants]
@[simp] theorem computeGrants_link : (computeGrants s).link = s.link := by simp [computeGrants]
@[simp] theorem computeGrants_time : (computeGrants s).time = s.time := by simp [computeGrants]
@[simp] theorem computeGrants_tl : (computeGrants s).tl = s.tl := by simp [computeGrants]
@[simp] theorem computeGrants_shift : (computeGrants s).shift = s.shift := by simp [computeGrants]
@[simp] theorem computeGrants_now : (computeGrants s).now = s.now := by simp [computeGrants, State.now]
@[simp] theorem computeGrants_session : (computeGrants s).session = s.session := by simp [State.session]

@[simp] theorem computeIf_pending (b : Bool) : (computeIf b s).pending = s.pending := by cases b <;> simp [computeIf]
@[simp] theorem computeIf_powered (b : Bool) : (computeIf b s).powered = s.powered := by cases b <;> simp [computeIf]
@[simp] theorem computeIf_pins (b : Bool) : (computeIf b s).pins = s.pins := by cases b <;> simp [computeIf]
@[simp] theorem computeIf_clock (b : Bool) : (computeIf b s).clock = s.clock := by cases b <;> simp [computeIf]
@[simp] theorem computeIf_link (b : Bool) : (computeIf b s).link = s.link := by cases b <;> simp [computeIf]
@[simp] theorem computeIf_time (b : Bool) : (computeIf b s).time = s.time := by cases b <;> simp [computeIf]
@[simp] theorem computeIf_tl (b : Bool) : (computeIf b s).tl = s.tl := by cases b <;> simp [computeIf]
@[simp] theorem computeIf_shift (b : Bool) : (computeIf b s).shift = s.shift := by cases b <;> simp [computeIf]
@[simp] theorem computeIf_now (b : Bool) : (computeIf b s).now = s.now := by cases b <;> simp [computeIf, State.now]
@[simp] theorem computeIf_session (b : Bool) : (computeIf b s).session = s.session := by simp [State.session]

@[simp] theorem computeGrants_power : (computeGrants s).power = (computePower s).power := by simp [computeGrants]
@[simp] theorem computeGrants_free : (computeGrants s).free = (computePower s).free := by simp [computeGrants]

/-! ## Changes of the discipline state and of the phase mode (R17, R34) -/

@[simp] theorem changeSync_pending (a : Sync) (c : SyncCause) (e : Option Int) : (changeSync a c e s).pending = s.pending := by simp [changeSync]
@[simp] theorem changeSync_powered (a : Sync) (c : SyncCause) (e : Option Int) : (changeSync a c e s).powered = s.powered := by simp [changeSync]
@[simp] theorem changeSync_pins (a : Sync) (c : SyncCause) (e : Option Int) : (changeSync a c e s).pins = s.pins := by simp [changeSync]
@[simp] theorem changeSync_clock (a : Sync) (c : SyncCause) (e : Option Int) : (changeSync a c e s).clock = s.clock := by simp [changeSync]
@[simp] theorem changeSync_link (a : Sync) (c : SyncCause) (e : Option Int) : (changeSync a c e s).link = s.link := by simp [changeSync]
@[simp] theorem changeSync_tl (a : Sync) (c : SyncCause) (e : Option Int) : (changeSync a c e s).tl = s.tl := by simp [changeSync]
@[simp] theorem changeSync_disp (a : Sync) (c : SyncCause) (e : Option Int) : (changeSync a c e s).disp = s.disp := by simp [changeSync]
@[simp] theorem changeSync_shift (a : Sync) (c : SyncCause) (e : Option Int) : (changeSync a c e s).shift = s.shift := by simp [changeSync]
@[simp] theorem changeSync_motion (a : Sync) (c : SyncCause) (e : Option Int) : (changeSync a c e s).motion = s.motion := by simp [changeSync]
@[simp] theorem changeSync_audio (a : Sync) (c : SyncCause) (e : Option Int) : (changeSync a c e s).audio = s.audio := by simp [changeSync]
@[simp] theorem changeSync_power (a : Sync) (c : SyncCause) (e : Option Int) : (changeSync a c e s).power = s.power := by simp [changeSync]
@[simp] theorem changeSync_free (a : Sync) (c : SyncCause) (e : Option Int) : (changeSync a c e s).free = s.free := by simp [changeSync]
@[simp] theorem changeSync_now (a : Sync) (c : SyncCause) (e : Option Int) : (changeSync a c e s).now = s.now := by simp [changeSync, State.now]
@[simp] theorem changeSync_session (a : Sync) (c : SyncCause) (e : Option Int) : (changeSync a c e s).session = s.session := by simp [State.session]

@[simp] theorem changePhase_pending (m : PhaseMode) (b : Bool) : (changePhase m b s).pending = s.pending := by simp [changePhase]
@[simp] theorem changePhase_powered (m : PhaseMode) (b : Bool) : (changePhase m b s).powered = s.powered := by simp [changePhase]
@[simp] theorem changePhase_pins (m : PhaseMode) (b : Bool) : (changePhase m b s).pins = s.pins := by simp [changePhase]
@[simp] theorem changePhase_clock (m : PhaseMode) (b : Bool) : (changePhase m b s).clock = s.clock := by simp [changePhase]
@[simp] theorem changePhase_link (m : PhaseMode) (b : Bool) : (changePhase m b s).link = s.link := by simp [changePhase]
@[simp] theorem changePhase_time (m : PhaseMode) (b : Bool) : (changePhase m b s).time = s.time := by simp [changePhase]
@[simp] theorem changePhase_disp (m : PhaseMode) (b : Bool) : (changePhase m b s).disp = s.disp := by simp [changePhase]
@[simp] theorem changePhase_shift (m : PhaseMode) (b : Bool) : (changePhase m b s).shift = s.shift := by simp [changePhase]
@[simp] theorem changePhase_motion (m : PhaseMode) (b : Bool) : (changePhase m b s).motion = s.motion := by simp [changePhase]
@[simp] theorem changePhase_audio (m : PhaseMode) (b : Bool) : (changePhase m b s).audio = s.audio := by simp [changePhase]
@[simp] theorem changePhase_power (m : PhaseMode) (b : Bool) : (changePhase m b s).power = s.power := by simp [changePhase]
@[simp] theorem changePhase_free (m : PhaseMode) (b : Bool) : (changePhase m b s).free = s.free := by simp [changePhase]
@[simp] theorem changePhase_now (m : PhaseMode) (b : Bool) : (changePhase m b s).now = s.now := by simp [changePhase, State.now]
@[simp] theorem changePhase_session (m : PhaseMode) (b : Bool) : (changePhase m b s).session = s.session := by simp [State.session]

@[simp] theorem loosenPhase_pending : (loosenPhase s).pending = s.pending := by unfold loosenPhase; split <;> simp
@[simp] theorem loosenPhase_powered : (loosenPhase s).powered = s.powered := by unfold loosenPhase; split <;> simp
@[simp] theorem loosenPhase_pins : (loosenPhase s).pins = s.pins := by unfold loosenPhase; split <;> simp
@[simp] theorem loosenPhase_clock : (loosenPhase s).clock = s.clock := by unfold loosenPhase; split <;> simp
@[simp] theorem loosenPhase_link : (loosenPhase s).link = s.link := by unfold loosenPhase; split <;> simp
@[simp] theorem loosenPhase_time : (loosenPhase s).time = s.time := by unfold loosenPhase; split <;> simp
@[simp] theorem loosenPhase_disp : (loosenPhase s).disp = s.disp := by unfold loosenPhase; split <;> simp
@[simp] theorem loosenPhase_shift : (loosenPhase s).shift = s.shift := by unfold loosenPhase; split <;> simp
@[simp] theorem loosenPhase_motion : (loosenPhase s).motion = s.motion := by unfold loosenPhase; split <;> simp
@[simp] theorem loosenPhase_audio : (loosenPhase s).audio = s.audio := by unfold loosenPhase; split <;> simp
@[simp] theorem loosenPhase_power : (loosenPhase s).power = s.power := by unfold loosenPhase; split <;> simp
@[simp] theorem loosenPhase_free : (loosenPhase s).free = s.free := by unfold loosenPhase; split <;> simp
@[simp] theorem loosenPhase_now : (loosenPhase s).now = s.now := by unfold loosenPhase; split <;> simp [State.now]
@[simp] theorem loosenPhase_session : (loosenPhase s).session = s.session := by simp [State.session]

@[simp] theorem changeSync_time (a : Sync) (c : SyncCause) (e : Option Int) :
    (changeSync a c e s).time = { s.time with sync := a } := by simp [changeSync]
@[simp] theorem changePhase_tl (m : PhaseMode) (b : Bool) : (changePhase m b s).tl = { s.tl with phase := m } := by
  simp [changePhase]

/-! ## Requests (R163 to R167) -/

@[simp] theorem answer_pending (q : Request) (st : Status) (b : ReplyBody) : (answer q st b s).pending = s.pending := rfl
@[simp] theorem answer_powered (q : Request) (st : Status) (b : ReplyBody) : (answer q st b s).powered = s.powered := rfl
@[simp] theorem answer_pins (q : Request) (st : Status) (b : ReplyBody) : (answer q st b s).pins = s.pins := rfl
@[simp] theorem answer_clock (q : Request) (st : Status) (b : ReplyBody) : (answer q st b s).clock = s.clock := rfl
@[simp] theorem answer_link (q : Request) (st : Status) (b : ReplyBody) : (answer q st b s).link = s.link := rfl
@[simp] theorem answer_time (q : Request) (st : Status) (b : ReplyBody) : (answer q st b s).time = s.time := rfl
@[simp] theorem answer_tl (q : Request) (st : Status) (b : ReplyBody) : (answer q st b s).tl = s.tl := rfl
@[simp] theorem answer_disp (q : Request) (st : Status) (b : ReplyBody) : (answer q st b s).disp = s.disp := rfl
@[simp] theorem answer_shift (q : Request) (st : Status) (b : ReplyBody) : (answer q st b s).shift = s.shift := rfl
@[simp] theorem answer_motion (q : Request) (st : Status) (b : ReplyBody) : (answer q st b s).motion = s.motion := rfl
@[simp] theorem answer_audio (q : Request) (st : Status) (b : ReplyBody) : (answer q st b s).audio = s.audio := rfl
@[simp] theorem answer_power (q : Request) (st : Status) (b : ReplyBody) : (answer q st b s).power = s.power := rfl
@[simp] theorem answer_free (q : Request) (st : Status) (b : ReplyBody) : (answer q st b s).free = s.free := rfl
@[simp] theorem answer_now (q : Request) (st : Status) (b : ReplyBody) : (answer q st b s).now = s.now := rfl
@[simp] theorem answer_session (q : Request) (st : Status) (b : ReplyBody) : (answer q st b s).session = s.session := by simp [State.session]

@[simp] theorem popIntake_pending : (popIntake s).pending = s.pending := rfl
@[simp] theorem popIntake_powered : (popIntake s).powered = s.powered := rfl
@[simp] theorem popIntake_pins : (popIntake s).pins = s.pins := rfl
@[simp] theorem popIntake_clock : (popIntake s).clock = s.clock := rfl
@[simp] theorem popIntake_link : (popIntake s).link = s.link := rfl
@[simp] theorem popIntake_time : (popIntake s).time = s.time := rfl
@[simp] theorem popIntake_tl : (popIntake s).tl = s.tl := rfl
@[simp] theorem popIntake_disp : (popIntake s).disp = s.disp := rfl
@[simp] theorem popIntake_shift : (popIntake s).shift = s.shift := rfl
@[simp] theorem popIntake_motion : (popIntake s).motion = s.motion := rfl
@[simp] theorem popIntake_audio : (popIntake s).audio = s.audio := rfl
@[simp] theorem popIntake_power : (popIntake s).power = s.power := rfl
@[simp] theorem popIntake_free : (popIntake s).free = s.free := rfl
@[simp] theorem popIntake_now : (popIntake s).now = s.now := rfl
@[simp] theorem popIntake_session : (popIntake s).session = s.session := by simp [State.session]

@[simp] theorem finishWaiting_pending (p : Wait → Bool) (st : Status) (b : Entry → ReplyBody) : (finishWaiting p st b s).pending = s.pending := rfl
@[simp] theorem finishWaiting_powered (p : Wait → Bool) (st : Status) (b : Entry → ReplyBody) : (finishWaiting p st b s).powered = s.powered := rfl
@[simp] theorem finishWaiting_pins (p : Wait → Bool) (st : Status) (b : Entry → ReplyBody) : (finishWaiting p st b s).pins = s.pins := rfl
@[simp] theorem finishWaiting_clock (p : Wait → Bool) (st : Status) (b : Entry → ReplyBody) : (finishWaiting p st b s).clock = s.clock := rfl
@[simp] theorem finishWaiting_link (p : Wait → Bool) (st : Status) (b : Entry → ReplyBody) : (finishWaiting p st b s).link = s.link := rfl
@[simp] theorem finishWaiting_time (p : Wait → Bool) (st : Status) (b : Entry → ReplyBody) : (finishWaiting p st b s).time = s.time := rfl
@[simp] theorem finishWaiting_tl (p : Wait → Bool) (st : Status) (b : Entry → ReplyBody) : (finishWaiting p st b s).tl = s.tl := rfl
@[simp] theorem finishWaiting_disp (p : Wait → Bool) (st : Status) (b : Entry → ReplyBody) : (finishWaiting p st b s).disp = s.disp := rfl
@[simp] theorem finishWaiting_shift (p : Wait → Bool) (st : Status) (b : Entry → ReplyBody) : (finishWaiting p st b s).shift = s.shift := rfl
@[simp] theorem finishWaiting_motion (p : Wait → Bool) (st : Status) (b : Entry → ReplyBody) : (finishWaiting p st b s).motion = s.motion := rfl
@[simp] theorem finishWaiting_audio (p : Wait → Bool) (st : Status) (b : Entry → ReplyBody) : (finishWaiting p st b s).audio = s.audio := rfl
@[simp] theorem finishWaiting_power (p : Wait → Bool) (st : Status) (b : Entry → ReplyBody) : (finishWaiting p st b s).power = s.power := rfl
@[simp] theorem finishWaiting_free (p : Wait → Bool) (st : Status) (b : Entry → ReplyBody) : (finishWaiting p st b s).free = s.free := rfl
@[simp] theorem finishWaiting_now (p : Wait → Bool) (st : Status) (b : Entry → ReplyBody) : (finishWaiting p st b s).now = s.now := rfl
@[simp] theorem finishWaiting_session (p : Wait → Bool) (st : Status) (b : Entry → ReplyBody) : (finishWaiting p st b s).session = s.session := by simp [State.session]

@[simp] theorem addEntry_pending (q : Request) (w : Wait) : (addEntry q w s).pending = s.pending := rfl
@[simp] theorem addEntry_powered (q : Request) (w : Wait) : (addEntry q w s).powered = s.powered := rfl
@[simp] theorem addEntry_pins (q : Request) (w : Wait) : (addEntry q w s).pins = s.pins := rfl
@[simp] theorem addEntry_clock (q : Request) (w : Wait) : (addEntry q w s).clock = s.clock := rfl
@[simp] theorem addEntry_link (q : Request) (w : Wait) : (addEntry q w s).link = s.link := rfl
@[simp] theorem addEntry_time (q : Request) (w : Wait) : (addEntry q w s).time = s.time := rfl
@[simp] theorem addEntry_tl (q : Request) (w : Wait) : (addEntry q w s).tl = s.tl := rfl
@[simp] theorem addEntry_disp (q : Request) (w : Wait) : (addEntry q w s).disp = s.disp := rfl
@[simp] theorem addEntry_shift (q : Request) (w : Wait) : (addEntry q w s).shift = s.shift := rfl
@[simp] theorem addEntry_motion (q : Request) (w : Wait) : (addEntry q w s).motion = s.motion := rfl
@[simp] theorem addEntry_audio (q : Request) (w : Wait) : (addEntry q w s).audio = s.audio := rfl
@[simp] theorem addEntry_power (q : Request) (w : Wait) : (addEntry q w s).power = s.power := rfl
@[simp] theorem addEntry_free (q : Request) (w : Wait) : (addEntry q w s).free = s.free := rfl
@[simp] theorem addEntry_now (q : Request) (w : Wait) : (addEntry q w s).now = s.now := rfl
@[simp] theorem addEntry_session (q : Request) (w : Wait) : (addEntry q w s).session = s.session := by simp [State.session]

@[simp] theorem recordDuplicate_pending (q : Request) : (recordDuplicate q s).pending = s.pending := rfl
@[simp] theorem recordDuplicate_powered (q : Request) : (recordDuplicate q s).powered = s.powered := rfl
@[simp] theorem recordDuplicate_pins (q : Request) : (recordDuplicate q s).pins = s.pins := rfl
@[simp] theorem recordDuplicate_clock (q : Request) : (recordDuplicate q s).clock = s.clock := rfl
@[simp] theorem recordDuplicate_link (q : Request) : (recordDuplicate q s).link = s.link := rfl
@[simp] theorem recordDuplicate_time (q : Request) : (recordDuplicate q s).time = s.time := rfl
@[simp] theorem recordDuplicate_tl (q : Request) : (recordDuplicate q s).tl = s.tl := rfl
@[simp] theorem recordDuplicate_disp (q : Request) : (recordDuplicate q s).disp = s.disp := rfl
@[simp] theorem recordDuplicate_shift (q : Request) : (recordDuplicate q s).shift = s.shift := rfl
@[simp] theorem recordDuplicate_motion (q : Request) : (recordDuplicate q s).motion = s.motion := rfl
@[simp] theorem recordDuplicate_audio (q : Request) : (recordDuplicate q s).audio = s.audio := rfl
@[simp] theorem recordDuplicate_power (q : Request) : (recordDuplicate q s).power = s.power := rfl
@[simp] theorem recordDuplicate_free (q : Request) : (recordDuplicate q s).free = s.free := rfl
@[simp] theorem recordDuplicate_now (q : Request) : (recordDuplicate q s).now = s.now := rfl
@[simp] theorem recordDuplicate_session (q : Request) : (recordDuplicate q s).session = s.session := by simp [State.session]

@[simp] theorem recordFault_pending (q : Request) (g : Group) : (recordFault q g s).pending = s.pending := by unfold recordFault; split <;> simp
@[simp] theorem recordFault_powered (q : Request) (g : Group) : (recordFault q g s).powered = s.powered := by unfold recordFault; split <;> simp
@[simp] theorem recordFault_pins (q : Request) (g : Group) : (recordFault q g s).pins = s.pins := by unfold recordFault; split <;> simp
@[simp] theorem recordFault_clock (q : Request) (g : Group) : (recordFault q g s).clock = s.clock := by unfold recordFault; split <;> simp
@[simp] theorem recordFault_link (q : Request) (g : Group) : (recordFault q g s).link = s.link := by unfold recordFault; split <;> simp
@[simp] theorem recordFault_time (q : Request) (g : Group) : (recordFault q g s).time = s.time := by unfold recordFault; split <;> simp
@[simp] theorem recordFault_tl (q : Request) (g : Group) : (recordFault q g s).tl = s.tl := by unfold recordFault; split <;> simp
@[simp] theorem recordFault_disp (q : Request) (g : Group) : (recordFault q g s).disp = s.disp := by unfold recordFault; split <;> simp
@[simp] theorem recordFault_shift (q : Request) (g : Group) : (recordFault q g s).shift = s.shift := by unfold recordFault; split <;> simp
@[simp] theorem recordFault_motion (q : Request) (g : Group) : (recordFault q g s).motion = s.motion := by unfold recordFault; split <;> simp
@[simp] theorem recordFault_audio (q : Request) (g : Group) : (recordFault q g s).audio = s.audio := by unfold recordFault; split <;> simp
@[simp] theorem recordFault_power (q : Request) (g : Group) : (recordFault q g s).power = s.power := by unfold recordFault; split <;> simp
@[simp] theorem recordFault_free (q : Request) (g : Group) : (recordFault q g s).free = s.free := by unfold recordFault; split <;> simp
@[simp] theorem recordFault_now (q : Request) (g : Group) : (recordFault q g s).now = s.now := by unfold recordFault; split <;> simp [State.now]
@[simp] theorem recordFault_session (q : Request) (g : Group) : (recordFault q g s).session = s.session := by simp [State.session]


end Sys2Proof.Machine
end

