-- ==== Sys2Proof/Laws/Requests.lean ====
section
/-! SUPPORT. What taking a request can do, said once: an admitted request goes to its owner, and what the owner answers
becomes the newest reply. -/

namespace Sys2Proof.Machine

open Sys2Proof

/-! ## The request that is taken -/

@[simp] theorem asked_taken (s : State) : (asked s).taken = s.now := rfl

theorem asked_eq {s : State} {p : List Byte} (h : oldest s = some p) : asked s = parseRequest s.now p := by
  simp [asked, h]

theorem asked_body (s : State) : (asked s).body = oldestBody s := rfl

theorem oldest_of_row {s : State} {row : KindRow} (h : oldestRow s = some row) : ∃ p, oldest s = some p := by
  cases hp : oldest s with
  | none => simp [oldestRow, hp] at h
  | some p => exact ⟨p, rfl⟩

/-! ## Answers -/

/-- Popping the oldest packet and answering it is what `answered` says. -/
theorem answer_popIntake (q : Request) (st : Status) (b : ReplyBody) (s : State) :
    answer q st b (popIntake s) = { s with req := answered q st b s.req } := by
  cases st <;> rfl

/-- Answering commutes with what the owner did to the rest of the state. -/
theorem answer_req (q : Request) (st : Status) (b : ReplyBody) (s : State) :
    (answer q st b s).req = countRefusal st (pushReply q.client q.tag q.kind q.taken st b s.req) := rfl

/-- Answering with OK a state whose packet has left the intake. -/
theorem answered_ok (q : Request) (b : ReplyBody) (r : Requests) :
    countRefusal .ok (pushReply q.client q.tag q.kind q.taken .ok b
      { r with intake := r.intake.drop 1, taken := r.taken + 1 }) = answered q .ok b r := rfl

/-- Answering with a refusal a state whose packet has left the intake. -/
theorem answered_refusal (q : Request) (st : Status) (h : st ≠ .ok) (b : ReplyBody) (r : Requests) :
    countRefusal st (pushReply q.client q.tag q.kind q.taken st b
      { r with intake := r.intake.drop 1, taken := r.taken + 1 }) = answered q st b r := by
  simp [countRefusal, pushReply, answered, h]

/-- An answer in terms of `answered`, for any status. -/
theorem answered_eq (q : Request) (st : Status) (b : ReplyBody) (r : Requests) :
    countRefusal st (pushReply q.client q.tag q.kind q.taken st b
      { r with intake := r.intake.drop 1, taken := r.taken + 1 }) = answered q st b r := by
  cases st <;> rfl

/-! ## Admitted requests -/

/-- An admitted request's command acts. -/
theorem act_of {due : Bool} {f : State → State} {s : State} (hp : s.powered = true) (hd : due = true) :
    act due f s = .next (f s) := by simp [act, hp, hd]

/-- A command that is not due, or a part that is held, changes nothing. -/
theorem act_not {due : Bool} {f : State → State} {s : State} (h : ¬ (s.powered = true ∧ due = true)) :
    act due f s = .next s := by
  cases hp : s.powered <;> cases hd : due <;> simp_all [act]

/-- A request that passes the checks goes to its owner, whose answer is queued (R163, R167). -/
theorem serve_admitted {k : Kind} {s : State} (h : Admitted k s) (owner : Request → State → Done) :
    serve owner s = (owner (asked s) (popIntake s)).reply (asked s) := by
  obtain ⟨_, _, row, hr, hj⟩ := h
  obtain ⟨p, hp⟩ := oldest_of_row hr
  simp [serve, hp, hr, checked, asked_eq hp] at hj ⊢
  simp [hj]

/-- A request of a kind that can wait, that passes the checks, receives its entry and goes to its owner (R164). -/
theorem serveHeld_admitted {k : Kind} {s : State} (h : Admitted k s) (wait : Request → Wait)
    (owner : Request → State → Held) :
    serveHeld wait owner s =
      (owner (asked s) (addEntry (asked s) (wait (asked s)) (popIntake s))).reply (asked s) (wait (asked s)) := by
  obtain ⟨_, _, row, hr, hj⟩ := h
  obtain ⟨p, hp⟩ := oldest_of_row hr
  simp [serveHeld, hp, hr, checked, asked_eq hp] at hj ⊢
  simp [hj]

/-- An owner that answers without touching the Request Controller leaves what `answered` says. -/
theorem reply_req {q : Request} {d : Done} {s : State} (h : d.state.req = (popIntake s).req) :
    (d.reply q).req = answered q d.status d.body s.req := by
  rw [Done.reply, answer_req, h]
  exact answered_eq q d.status d.body s.req

/-! ## Lights -/

/-- A state whose lights already follow their conditions is not changed by `lights`. -/
theorem lights_of_sound {s : State} (h : LightsSound s) : lights s = s := by
  obtain ⟨he, hc⟩ := h
  have eye : ∀ e, lightEye s e = s.disp.eyes.get e := fun e => by
    obtain ⟨h1, h2⟩ := he e
    cases hl : strobeLit s e
    · simp [hl] at h1; simp [lightEye, hl, ← h1]
    · simp [hl] at h1 h2; simp [lightEye, hl, ← h1, ← h2]
  have cam : ∀ c, lightCam s c = s.motion.cams.get c := fun c => by
    have h1 := hc c
    unfold lightCam
    rw [← h1]
  unfold lights
  rw [eye, eye, cam, cam, cam, cam]
  rfl

/-- After `lights` every light follows its condition (R61, R62, R84). -/
theorem lights_sound (s : State) : LightsSound (lights s) := by
  constructor
  · intro e
    have : strobeLit (lights s) e = strobeLit s e := by
      cases e <;> simp [strobeLit, lights, PerEye.get, lightEye] <;> split <;> rfl
    rw [this]
    cases e <;> simp [lights, PerEye.get, lightEye] <;> split <;> simp_all
  · intro c
    have : illumLit (lights s) c = illumLit s c := by
      match c with
      | 0 | 1 | 2 | 3 => rfl
    rw [this]
    match c with
    | 0 | 1 | 2 | 3 => simp [lights, PerCam.get, lightCam]

/-! ## Line stores -/

theorem write_risesFrom (slot : Nat) (row : StoredRow) (hs : slot < 96) :
    ∀ (l : LineStore) (low : Nat), low ≤ slot → LineStore.risesFrom low l = true →
      LineStore.risesFrom low (LineStore.write l slot row) = true
  | [], low, hl, _ => by simp [LineStore.write, LineStore.risesFrom, hl, hs]
  | (k, r) :: t, low, hl, h => by
    simp [LineStore.risesFrom] at h
    unfold LineStore.write
    split
    · simp [LineStore.risesFrom, hl, hs, h]; omega
    · split
      · subst_vars; simp [LineStore.risesFrom, hl, hs, h]
      · simp [LineStore.risesFrom, h]
        exact write_risesFrom slot row hs t (k + 1) (by omega) h.2

/-- Storing a row keeps the canonical form of a line store (R52). -/
theorem write_wf (l : LineStore) (slot : Nat) (row : StoredRow) (hs : slot < 96) (h : l.wf = true) :
    (LineStore.write l slot row).wf = true := write_risesFrom slot row hs l 0 (Nat.zero_le _) h

/-- The slot written reads as the row written (R52). -/
theorem read_write_same (slot : Nat) (row : StoredRow) :
    ∀ (l : LineStore) (low : Nat), LineStore.risesFrom low l = true →
      LineStore.read (LineStore.write l slot row) slot = some row
  | [], _, _ => by simp [LineStore.write, LineStore.read]
  | (k, r) :: t, low, h => by
    simp [LineStore.risesFrom] at h
    unfold LineStore.write
    split
    · simp [LineStore.read]
    · split
      · simp [LineStore.read]
      · rename_i h1 h2
        simp [LineStore.read, Ne.symm h2]
        exact read_write_same slot row t (k + 1) h.2

/-- Every other slot reads as before (R52). -/
theorem read_write_other (slot other : Nat) (row : StoredRow) (hne : other ≠ slot) :
    ∀ (l : LineStore), LineStore.read (LineStore.write l slot row) other = LineStore.read l other
  | [] => by simp [LineStore.write, LineStore.read, Ne.symm hne]
  | (k, r) :: t => by
    unfold LineStore.write
    split
    · simp [LineStore.read, Ne.symm hne]
    · split
      · subst_vars; simp [LineStore.read, Ne.symm hne]
      · simp only [LineStore.read]
        split
        · rfl
        · exact read_write_other slot other row hne t

end Sys2Proof.Machine
end

