-- ==== Sys2Proof/Laws/Effects.lean ====
section
/-! SUPPORT. What the shared operations do, said as record updates: events raised, packets completed, blank conditions,
and lights in a state whose lights follow their conditions. -/

namespace Sys2Proof.Machine

open Sys2Proof

/-! ## Events and commands -/

theorem raiseIf_eq (c : Bool) (src : Source) (d : Detail) (s : State) :
    raiseIf c src d s = { s with req := withEvent c src d s.now s.req } := by cases c <;> rfl

theorem raise_eq (src : Source) (d : Detail) (s : State) :
    raise src d s = { s with req := withEvent true src d s.now s.req } := rfl

/-- A command that is due, on a part that runs, answers the state its effect leaves. -/
theorem act_eq {due : Bool} {f : State → State} {s t : State} (hp : s.powered = true) (hd : due = true) (h : f s = t) :
    act due f s = .next t := by rw [act_of hp hd, h]

/-! ## Valid packets by link state (R143, R144, R149) -/

theorem completeValid_up (hand : State → State) (s : State) (h : s.link.state = .up) :
    completeValid hand s = hand (s.mapLink fun l => { l with lastValid := s.now, silence := 0 }) := by
  simp only [completeValid, State.mapLink, h]

theorem completeValid_down (hand : State → State) (s : State) (h : s.link.state = .down ∨ s.link.state = .lost) :
    completeValid hand s = s.mapLink fun l => { l with lastValid := s.now, state := .acquire, run := 1 } := by
  rcases h with h | h <;> simp only [completeValid, State.mapLink, h]

theorem completeValid_hold (hand : State → State) (s : State) (h : s.link.state = .hold) :
    completeValid hand s = hand (resumeLink (s.mapLink fun l => { l with lastValid := s.now })) := by
  simp only [completeValid, State.mapLink, h]

theorem completeValid_acquire (hand : State → State) (s : State) (h : s.link.state = .acquire) (hr : s.link.run < 7) :
    completeValid hand s = s.mapLink fun l => { l with lastValid := s.now, run := l.run + 1 } := by
  simp only [completeValid, State.mapLink, h, sessionReached, bump, show s.link.run < 8 by omega, if_true,
    show ¬ 8 ≤ s.link.run + 1 by omega]
  simp

theorem completeValid_eighth (hand : State → State) (s : State) (h : s.link.state = .acquire) (hr : s.link.run = 7) :
    completeValid hand s = hand (startSession (s.mapLink fun l => { l with lastValid := s.now, run := 8 })) := by
  simp only [completeValid, State.mapLink, h, sessionReached, bump, hr, show 7 < 8 by omega, if_true]
  simp

/-- In UP a packet is handed to its owner by a link that has heard it. -/
theorem videoPacket_up (hand : State → State) (s : State) (h : s.link.state = .up) :
    videoPacket hand s = hand { s with link := heardVideo s } := completeValid_up hand (countValid _ s) h

theorem audioPacket_up (p : List Byte) (s : State) (h : s.link.state = .up) :
    audioPacket p s = receiveBlock p { s with link := heardAudio s } := completeValid_up _ (countValid _ s) h

theorem ctrlPacket_up (p : List Byte) (s : State) (h : s.link.state = .up) :
    ctrlPacket p s = admitCtrl p { s with link := heardCtrl s } := completeValid_up _ (countValid _ s) h

theorem markPacket_up (age : Nat) (p : List Byte) (s : State) (h : s.link.state = .up) :
    markPacket age p s = receiveMark (s.capturedTick age) p { s with link := heardMark s } := completeValid_up _ (countValid _ s) h

theorem fillPacket_up (s : State) (h : s.link.state = .up) : fillPacket s = { s with link := heardFill s } :=
  completeValid_up _ (countValid _ s) h

/-! ## Captures and latches -/

/-- Of the edges of one tick the first is handled and marked, and every further one changes nothing. -/
theorem captureEdge_first {s : State} (h : s.clock.edgeDone = false) :
    captureEdge s = handleEdge (s.mapClock fun c => { c with edgeDone := true }) := by simp [captureEdge, h]

theorem captureEdge_again {s : State} (h : s.clock.edgeDone = true) : captureEdge s = s := by simp [captureEdge, h]

/-- After counter 0 a stop signals no latch. -/
theorem latchesAtStart_of_counter {s : State} (h : s.tl.counter ≠ 0) : latchesAtStart s = s := by
  simp [latchesAtStart, latchAtStart, h]

/-- At counter 0 a stop signals no latch where none is due. -/
theorem latchesAtStart_of_none {s : State} (h : ∀ e, latchDue s e = false) : latchesAtStart s = s := by
  simp [latchesAtStart, latchAtStart, h]

/-! ## Lights and blank conditions -/

/-- A state that agrees with a sound one in all that lighting reads has its lights right. -/
theorem lights_congr {s t : State} (h : LightsSound s) (h1 : t.tl.running = s.tl.running)
    (h2 : t.tl.strobe = s.tl.strobe) (h3 : t.tl.expose = s.tl.expose) (h4 : t.disp.eyes = s.disp.eyes)
    (h5 : t.shift = s.shift) (h6 : t.disp.latches.any = s.disp.latches.any) (h7 : t.power = s.power)
    (h8 : t.motion = s.motion) : lights t = t := by
  apply lights_of_sound
  have hs : ∀ e, strobeLit t e = strobeLit s e := fun e => by simp only [strobeLit, h1, h2, h4, h5, h6, h7]
  have hi : ∀ e, illumLit t e = illumLit s e := fun e => by simp only [illumLit, h1, h3, h7, h8]
  constructor
  · intro e; have := h.1 e; rw [hs, h4, h7]; exact this
  · intro c; have := h.2 c; rw [hi, h8, h7]; exact this

theorem lightCam_of_sound {s : State} (h : LightsSound s) :
    (⟨lightCam s 0, lightCam s 1, lightCam s 2, lightCam s 3⟩ : PerCam Cam) = s.motion.cams := by
  have e : ∀ c, lightCam s c = s.motion.cams.get c := fun c => by unfold lightCam; rw [← h.2 c]
  rw [e, e, e, e]; rfl

theorem latches_set_any (c : Causes) (k : Cause) : (c.set k true).any = true := by
  cases k <;> simp [Causes.set, Causes.any]

/-- With a latch set both strobes are dark (R57, R61). -/
theorem lightEye_of_latched {s : State} (h : s.disp.latches.any = true) (e : Eye) :
    lightEye s e = { s.disp.eyes.get e with drive := 0 } := by
  unfold lightEye
  rw [if_neg (by simp [strobeLit, h])]

/-- A blank condition becomes present in a state whose lights are right (R57). -/
theorem blank_of_sound (c : Cause) {s : State} (h : LightsSound s) : blank c s = blanked c s := by
  unfold blank blanked
  split
  · rfl
  · rw [raiseIf_eq, lights, lightEye_of_latched (latches_set_any _ c), lightEye_of_latched (latches_set_any _ c)]
    exact congrArg (fun cams => ({ s with
      disp := { s.disp with
        eyes := s.disp.eyes.map fun d => { d with drive := 0 }
        present := s.disp.present.set c true
        latches := s.disp.latches.set c true }
      motion := { s.motion with cams := cams }
      req := withEvent (!s.disp.latches.any) .displayOutput (.displayBlanked c) s.now s.req } : State))
      (lightCam_of_sound (s := s) h)

/-! ## Changes of the Request Controller that leave its events alone -/

/-- A change of the Request Controller that neither reads nor writes its event queue. -/
def SparesEvents (g : Requests → Requests) : Prop := ∀ r ev, g { r with events := ev } = { g r with events := ev }

theorem SparesEvents.events {g : Requests → Requests} (h : SparesEvents g) (r : Requests) : (g r).events = r.events :=
  (congrArg Requests.events (h r r.events)).trans rfl

theorem withEvent_spares {g : Requests → Requests} (h : SparesEvents g) (c : Bool) (src : Source) (d : Detail) (t : Tick)
    (r : Requests) : withEvent c src d t (g r) = g (withEvent c src d t r) := by
  cases c
  · rfl
  · simp only [withEvent, if_true, h.events]; exact (h r _).symm

theorem blank_mapReq {g : Requests → Requests} (h : SparesEvents g) (c : Cause) (s : State) :
    blank c (s.mapReq g) = (blank c s).mapReq g := by
  unfold blank
  by_cases hp : s.disp.present.get c = true
  · simp only [mapReq_disp, hp, if_true]
  · simp only [mapReq_disp, hp, if_false, raiseIf_eq, Bool.false_eq_true]
    exact congrArg (fun r => lights { s.mapDisp fun d =>
      { d with present := d.present.set c true, latches := d.latches.set c true } with req := r })
      (withEvent_spares h _ _ _ _ _)

theorem setBlank_mapReq {g : Requests → Requests} (h : SparesEvents g) (c : Cause) (p : Bool) (s : State) :
    setBlank c p (s.mapReq g) = (setBlank c p s).mapReq g := by
  cases p
  · rfl
  · exact blank_mapReq h c s

theorem handGrants_mapReq {g : Requests → Requests} (h : SparesEvents g) (s : State) :
    handGrants (s.mapReq g) = (handGrants s).mapReq g := by
  unfold handGrants
  rw [show (s.mapReq g).power = s.power from rfl, setBlank_mapReq h]
  rfl

/-- A grant computation neither reads nor changes what the Request Controller holds besides its events. -/
theorem computeGrants_mapReq {g : Requests → Requests} (h : SparesEvents g) (s : State) :
    computeGrants (s.mapReq g) = (computeGrants s).mapReq g := by
  have hp : computePower (s.mapReq g) = (computePower s).mapReq g := by
    unfold computePower
    split
    · rename_i hc; rw [if_pos (show s.available < 0 from hc)]; rfl
    · rename_i hc; rw [if_neg (show ¬ s.available < 0 from hc)]; rfl
  unfold computeGrants
  rw [hp]
  have hr : ∀ (p : Power) (a : Int) (t : State), raiseLimited p a (t.mapReq g) = (raiseLimited p a t).mapReq g := by
    intro p a t
    simp only [raiseLimited, raiseIf_eq]
    exact congrArg (fun r => ({ t with req := r } : State)) (withEvent_spares h _ _ _ _ _)
  rw [show (s.mapReq g).power = s.power from rfl, show (s.mapReq g).available = s.available from rfl, hr,
    handGrants_mapReq h]

/-- Taking the oldest packet spares the events. -/
theorem popIntake_spares : SparesEvents fun r => { r with intake := r.intake.drop 1, taken := r.taken + 1 } :=
  fun _ _ => rfl

/-- Taking a packet commutes with a grant computation. -/
theorem computeGrants_popIntake (s : State) : computeGrants (popIntake s) = popIntake (computeGrants s) :=
  computeGrants_mapReq popIntake_spares s

/-! ## Requests answered at once -/

/-- A request that passed the checks duplicates no waiting one. -/
theorem Admitted.fresh {k : Kind} {s : State} (h : Admitted k s) : s.req.waits (asked s).client (asked s).tag = false := by
  obtain ⟨_, _, row, _, hj⟩ := h
  cases hw : s.req.waits (asked s).client (asked s).tag with
  | false => rfl
  | true =>
    rw [judge, if_pos (show (popIntake s).req.waits (asked s).client (asked s).tag = true from hw)] at hj
    cases hj

/-- An entry made and ended at once leaves the table as it was (R164). -/
theorem finishEntry_new (q : Request) (w : Wait) (st : Status) (b : ReplyBody) (r : Requests)
    (h : r.waits q.client q.tag = false) :
    finishEntry (entryOf q w) st b
      { r with intake := r.intake.drop 1, taken := r.taken + 1, table := r.table ++ [entryOf q w] } =
      answered q st b r := by
  have hf : (r.table ++ [entryOf q w]).filter (fun x => !x.holds q.client q.tag) = r.table := by
    rw [List.filter_append]
    have h1 : r.table.filter (fun x => !x.holds q.client q.tag) = r.table := by
      rw [List.filter_eq_self]
      intro a ha
      simp only [Requests.waits, List.any_eq_false] at h
      simpa using h a ha
    rw [h1]; simp [entryOf, Entry.holds]
  have hd : dropEntry (entryOf q w)
      { r with intake := r.intake.drop 1, taken := r.taken + 1, table := r.table ++ [entryOf q w] } =
      { r with intake := r.intake.drop 1, taken := r.taken + 1 } := by
    unfold dropEntry
    exact congrArg (fun t => ({ r with intake := r.intake.drop 1, taken := r.taken + 1, table := t } : Requests)) hf
  unfold finishEntry
  rw [hd]
  exact answered_eq q st b r

/-! ## Mute causes -/

/-- The LINK mute cause becomes absent (R114, R124). -/
theorem muteOff_link (a : Audio) : a.muteOff .link = linkUnmuted a := by
  rcases a with ⟨pb, _, _, ⟨m1, m2, m3, m4⟩⟩
  cases pb <;> cases m1 <;> cases m2 <;> cases m3 <;> cases m4 <;> rfl

/-! ## Sessions -/

/-- A session start in a state whose lights are right (R146). -/
theorem startSession_of_sound {s : State} (h : LightsSound s) : startSession s = sessionStarted s.link s := by
  simp only [startSession, setMute]
  rw [lights_congr h]
  · simp only [unblank, phaseSessionStart, changePhase, timebaseSessionStart, changeSync, raiseIf_eq, raise_eq,
      State.mapLink, State.mapDisp, State.mapTl, State.mapTime, State.mapAudio, sessionStarted, Bool.false_eq_true,
      if_false, muteOff_link]
    rfl
  all_goals
    simp only [unblank, phaseSessionStart, changePhase, timebaseSessionStart, changeSync, raiseIf_eq, State.mapLink,
      State.mapDisp, State.mapTl, State.mapTime]

/-! ## Waiting requests that end -/

/-- What ending one entry does: it leaves the table, its reply is queued, right after it that of its duplicates, and a
status other than OK counts it as refused (R163, R164, R166). -/
theorem finishEntry_ended (e : Entry) (st : Status) (b : ReplyBody) (r : Requests) : ∃ own new,
    finishEntry e st b r = { r with
      table := r.table.filter fun x => !x.holds e.client e.tag, replies := r.replies ++ new, serial := r.serial + new.length
      refused := if st = .ok then r.refused else r.refused + 1 } ∧
    own.client = e.client ∧ own.tag = e.tag ∧ own.kind = e.kind ∧ own.status = st ∧ own.body = b ∧ own.taken = e.taken ∧
    ((e.dups = 0 ∧ new = [own]) ∨ (0 < e.dups ∧ ∃ dup, duplicatesReply e dup ∧ new = [own, dup])) := by
  let own : Reply := ⟨e.client, e.tag, e.kind, st, b, e.taken, bodyLength r.serial e.kind st b, r.serial⟩
  let dup : Reply := ⟨e.client, e.tag, e.dupKind, .tagInUse, .duplicates e.dups, Config.duplicateTaken (r.serial + 1),
    bodyLength (r.serial + 1) e.dupKind .tagInUse (.duplicates e.dups), r.serial + 1⟩
  unfold finishEntry pushDuplicates countRefusal dropEntry pushReply
  by_cases hd : e.dups = 0
  · exact ⟨own, [own], by rw [if_pos hd]; split <;> rfl, rfl, rfl, rfl, rfl, rfl, rfl, .inl ⟨hd, rfl⟩⟩
  · refine ⟨own, [own, dup], ?_, rfl, rfl, rfl, rfl, rfl, rfl, .inr ⟨Nat.pos_of_ne_zero hd, dup, ⟨rfl, rfl, rfl, rfl, rfl⟩, rfl⟩⟩
    rw [if_neg hd]
    split <;> simp only [List.append_assoc] <;> rfl

/-- What ending a list of entries does (R163, R164, R166). -/
theorem finishAll_ended (st : Status) (b : Entry → ReplyBody) : ∀ (es : List Entry) (r : Requests), ∃ table new,
    finishAll es st b r = { r with
      table := table, replies := r.replies ++ new, serial := r.serial + new.length
      refused := if st = .ok then r.refused else r.refused + BitVec.ofNat 32 es.length } ∧
    repliesOf st b es new ∧ table.Sublist r.table ∧
    ∀ x, x ∈ table ↔ x ∈ r.table ∧ ∀ e ∈ es, ¬ (x.client = e.client ∧ x.tag = e.tag)
  | [], r => ⟨r.table, [], by simp [finishAll], rfl, .refl _, by simp⟩
  | e :: es, r => by
    obtain ⟨own, new1, h1, k1, k2, k3, k4, k5, k6, hs⟩ := finishEntry_ended e st (b e) r
    obtain ⟨table, new, g1, g2, g3, g4⟩ := finishAll_ended st b es (finishEntry e st (b e) r)
    have ht : (finishEntry e st (b e) r).table = r.table.filter fun x => !x.holds e.client e.tag := by rw [h1]
    refine ⟨table, new1 ++ new, ?_, ⟨own, new, k1, k2, k3, k4, k5, k6, ?_, g2⟩, ?_, fun x => ?_⟩
    · show finishAll es st b (finishEntry e st (b e) r) = _
      rw [g1, h1]
      by_cases h : st = .ok
      · simp [h, List.append_assoc, Nat.add_assoc]
      · simp [h, List.append_assoc, Nat.add_assoc, BitVec.ofNat_add]
        bv_omega
    · rcases hs with ⟨hd, rfl⟩ | ⟨hd, dup, hdup, rfl⟩
      · exact .inl ⟨hd, rfl⟩
      · exact .inr ⟨hd, dup, hdup, rfl⟩
    · exact g3.trans (ht ▸ List.filter_sublist)
    · rw [g4, ht, List.mem_filter, List.forall_mem_cons, and_assoc]
      simp [Entry.holds, Classical.or_iff_not_imp_left]

/-- In a table of distinct tags an entry is known by its client and tag. -/
theorem sameTag_eq : ∀ {l : List Entry}, l.Pairwise (fun a b => ¬ (a.client = b.client ∧ a.tag = b.tag)) →
    ∀ {e x : Entry}, e ∈ l → x ∈ l → (e.client = x.client ∧ e.tag = x.tag) → e = x
  | a :: l, h, e, x, he, hx, hex => by
    obtain ⟨h1, h2⟩ := List.pairwise_cons.1 h
    rcases List.mem_cons.1 he with k | k <;> rcases List.mem_cons.1 hx with m | m
    · rw [k, m]
    · exact absurd hex (k ▸ h1 x m)
    · exact absurd ⟨hex.1.symm, hex.2.symm⟩ (m ▸ h1 e k)
    · exact sameTag_eq h2 k m hex

/-- Ending the waiting requests that wait as `p` says is what `waitingEnded` says (R164, R166). -/
theorem finishWaiting_ended (p : Wait → Bool) (q : Entry → Prop) (hq : ∀ e, p e.wait = true ↔ q e) (st : Status) (b : Entry → ReplyBody) (r : Requests)
    (hd : r.table.Pairwise (fun a b => ¬ (a.client = b.client ∧ a.tag = b.tag))) :
    waitingEnded q st b r (finishAll (r.table.filter fun e => p e.wait) st b r) := by
  obtain ⟨table, new, h1, h2, h3, h4⟩ := finishAll_ended st b (r.table.filter fun e => p e.wait) r
  rw [h1]
  refine ⟨_, new, List.filter_sublist, fun e => by rw [List.mem_filter, hq], h2, h3, fun e => ?_, rfl⟩
  rw [h4]
  constructor
  · rintro ⟨he, hn⟩
    exact ⟨he, fun hqe => hn e (List.mem_filter.2 ⟨he, (hq e).2 hqe⟩) ⟨rfl, rfl⟩⟩
  · rintro ⟨he, hn⟩
    refine ⟨he, fun x hx hxe => ?_⟩
    obtain ⟨hx1, hx2⟩ := List.mem_filter.1 hx
    have : e = x := sameTag_eq hd he hx1 hxe
    subst this
    exact hn ((hq e).1 hx2)

/-- The TAG_IN_USE replies of a list of entries, in its order (R166). -/
theorem pushAllDuplicates (es : List Entry) (r : Requests) : ∃ dups,
    es.foldl (fun r e => pushDuplicates e r) r =
      { r with replies := r.replies ++ dups, serial := r.serial + dups.length } ∧
    dups.length = (es.filter fun e => decide (0 < e.dups)).length ∧
    ∀ (i : Nat) e x, (es.filter fun e => decide (0 < e.dups))[i]? = some e → dups[i]? = some x → duplicatesReply e x := by
  induction es generalizing r with
  | nil => exact ⟨[], by simp, rfl, by simp⟩
  | cons e es ih =>
    obtain ⟨dups, h1, h2, h3⟩ := ih (pushDuplicates e r)
    rw [List.foldl_cons, h1]
    by_cases hd : e.dups = 0
    · exact ⟨dups, by simp [pushDuplicates, hd], by simpa [hd] using h2, by simpa [hd] using h3⟩
    · have hp : 0 < e.dups := Nat.pos_of_ne_zero hd
      refine ⟨_ :: dups, by simp only [pushDuplicates, hd, if_false, pushReply, List.append_assoc]; exact congrArg _ (by
        rw [List.length_cons]; omega), by simpa [hp] using h2, fun i a x => ?_⟩
      rw [List.filter_cons_of_pos (by simpa using hp)]
      cases i with
      | zero => intro ha hx; cases ha; cases hx; exact ⟨rfl, rfl, rfl, rfl, rfl⟩
      | succ i => exact h3 i a x

/-- What SYSTEM_RESET leaves of the table: no entry, and one TAG_IN_USE reply for each that had duplicates (R166, R175). -/
theorem discardEntries_ended (r : Requests) : ∃ dups,
    discardEntries r = { r with table := [], replies := r.replies ++ dups, serial := r.serial + dups.length } ∧
    dups.length = (r.table.filter fun e => decide (0 < e.dups)).length ∧
    ∀ (i : Nat) e x, (r.table.filter fun e => decide (0 < e.dups))[i]? = some e → dups[i]? = some x → duplicatesReply e x :=
  pushAllDuplicates r.table { r with table := [] }

/-! ## Reports offered, exposures closed, mute causes -/

/-- One record offered is what `offered` says (R156). -/
theorem offer_eq (r : Report) (s : State) : offer r s = { s with link := offered [r] s } := by
  unfold offer offered State.session
  cases h : s.link.state <;> simp [State.mapLink]

/-- An exposure closed by its deadline (R81). -/
theorem closeByDeadline_eq (c : Camera) (x : Exposure) (s : State) (hx : (s.motion.cams.get c).context = some x) :
    closeByDeadline c s = deadlineClosed c x s := by
  unfold closeByDeadline deadlineClosed
  rw [hx]
  rcases x with ⟨f, t, st, sp, d, r, l, dl⟩
  cases st with
  | none => simp only [makeRecord, offer_eq, raise_eq, deadlineRecord]; rfl
  | some a =>
    cases sp with
    | none => simp only [makeRecord, offer_eq, deadlineRecord]; rfl
    | some b =>
      simp only [deadlineRecord]
      have : offered [] s = s.link := by unfold offered; split <;> rfl
      rw [this]; rfl

/-- A mute cause becomes present (R113). -/
theorem muteOn_eq (c : MuteCause) (a : Audio) : a.muteOn c = silenced c a := by
  rcases a with ⟨pb, _, _, ⟨m1, m2, m3, m4⟩⟩
  cases pb <;> cases c <;> cases m1 <;> cases m2 <;> cases m3 <;> cases m4 <;> rfl

/-- A mute cause becomes absent (R114). -/
theorem muteOff_eq (c : MuteCause) (a : Audio) : a.muteOff c = unsilenced c a := by
  rcases a with ⟨pb, _, _, ⟨m1, m2, m3, m4⟩⟩
  cases pb <;> cases c <;> cases m1 <;> cases m2 <;> cases m3 <;> cases m4 <;> rfl

end Sys2Proof.Machine
end

