-- ==== Sys2Proof/Tests/Slice0.lean ====
section
/-! SUPPORT. The model's own tests: ill-formed commands that WellFormed refuses, packets written out from section 10, the
manual's worked examples, and for each statement the states that meet its hypotheses. -/

namespace Sys2Proof.Tests

open Sys2Proof Sys2Proof.Machine

-- One proof at a time: many kernel evaluations at once take a thread, and its stack, for each.
set_option Elab.async false

/-! ## WellFormed refuses -/

theorem test_refuses_start_voltage : WellFormed.check (.startUp 65536) = false := by decide
theorem test_refuses_reset_voltage : WellFormed.check (.powerOnReset 65536) = false := by decide
theorem test_refuses_long_packets (p : List Byte) (h : 65535 < p.length) :
    WellFormed.check (.frameHead p) = false ∧ WellFormed.check (.row p) = false ∧
      WellFormed.check (.audioBlock p) = false ∧ WellFormed.check (.timeMark 0 p) = false ∧
      WellFormed.check (.ctrl p) = false ∧ WellFormed.check (.fill p) = false := by
  simp [WellFormed.check, WellFormed.payloadFits, h]
theorem test_refuses_age : WellFormed.check (.timeMark (2 ^ 48) []) = false := by decide
theorem test_refuses_lock_error : WellFormed.check (.syncLock (-51)) = false := by decide
theorem test_refuses_eight_values : WellFormed.check (.imuReadAnswer 0 ⟨true, List.replicate 8 0⟩) = false := by decide
theorem test_refuses_seven_slots : WellFormed.check (.audioFrameBoundary (List.replicate 7 0)) = false := by decide
theorem test_refuses_sample : WellFormed.check (.inputMonitorSample 65536 0) = false ∧
    WellFormed.check (.inputMonitorSample 0 65536) = false := by decide

/-! ## Packets written out from R178 and R179 -/

/-- R178: over the characters 123456789 the CRC-32 is 3,421,780,262. -/
theorem test_crc : crc32 [0x31, 0x32, 0x33, 0x34, 0x35, 0x36, 0x37, 0x38, 0x39] = 3421780262 := by decide +kernel

/-- A TIME_MARK packet: class 4, length 8, the host time, the CRC-32 least significant byte first. -/
theorem test_mark_packet : Packet.decode 7 ([4, 0, 8, 0, 1, 0, 0, 0, 0, 0, 0, 0] ++ leBytes 4 (crc32 [4, 0, 8, 0, 1, 0, 0, 0, 0, 0, 0, 0]).toNat) =
    .timeMark 7 [1, 0, 0, 0, 0, 0, 0, 0] := by decide +kernel

/-- A FILL packet with a bit wrong, one with a size wrong, and an unknown class. -/
theorem test_bad_packets : Packet.decode 7 ([5, 0, 1, 0, 9] ++ leBytes 4 (crc32 [5, 0, 1, 0, 8]).toNat) = .badPacket ∧
    Packet.decode 7 ([5, 0, 2, 0, 9] ++ leBytes 4 (crc32 [5, 0, 2, 0, 9]).toNat) = .badPacket ∧
    Packet.decode 7 ([6, 0, 0, 0] ++ leBytes 4 (crc32 [6, 0, 0, 0]).toNat) = .unknownClassPacket := by decide +kernel

/-! ## States that the tests share -/

/-- The state a command leaves. -/
def after (c : Instr) (s : State) : State :=
  match exec c s with
  | .next t => t
  | _ => s

/-- The part just started at 12 V. -/
def booted : State := after (.startUp 12000) .reset

/-- The part with its link UP in session 1. -/
def live : State := booted.mapLink fun l => { l with state := .up, session := 1 }

/-- A request of client 0 as the oldest of the intake. -/
def asking (code : Nat) (body : List Byte) (s : State) : State :=
  s.mapReq fun r => { r with intake := [[0, BitVec.ofNat 8 code, BitVec.ofNat 8 body.length, 0] ++ body] }

/-- A waiting TIMELINE_COMMIT of client 2 with tag 9. -/
def waitingCommit : Entry := ⟨2, 9, 49, 0, 0, 0, .commit⟩

/-- The table's form as a check. -/
def admits (k : Kind) (s : State) : Bool :=
  s.powered && kindDue k s &&
    match oldestRow s with
    | some row => judge (asked s) row (popIntake s).req == .pass
    | none => false

theorem admitted {k : Kind} {s : State} (h : admits k s = true) : Admitted k s := by
  unfold admits at h
  cases hr : oldestRow s with
  | none => simp [hr] at h
  | some row =>
    simp only [hr, Bool.and_eq_true, beq_iff_eq] at h
    exact ⟨h.1.1, h.1.2, row, hr, h.2⟩

theorem lightsOk {s : State} (h : lights s = s) : LightsSound s := h ▸ lights_sound s

/-! ## The manual's worked examples -/

/-- Two bytes, least significant first. -/
def b2 (n : Nat) : List Byte := leBytes 2 n

/-- Bank B of section 1.8. -/
def bankB : Bank :=
  ⟨11111, 200, 2, ⟨⟨⟨true, 1500, 5000⟩, ⟨true, 800, 5000⟩⟩, ⟨⟨true, 4000, 6500⟩, ⟨true, 5000, 6000⟩⟩,
    ⟨⟨true, 3800, 7700⟩, ⟨true, 4000, 8000⟩, ⟨true, 5200, 6400⟩, ⟨true, 9000, 12000⟩⟩⟩⟩

/-- Section 1.8: the clamps of R8, the trims of R9 and the leads of R10. -/
theorem test_commit : commitFault bankB 1920 = none ∧
    (commitOf bankB 1000).windows.strobe.left = ⟨true, 5000, 6500⟩ ∧
    (commitOf bankB 1000).windows.expose.c0 = ⟨true, 3800, 4800⟩ ∧
    (commitOf bankB 1000).windows.expose.c1 = ⟨true, 6700, 8000⟩ ∧
    (commitOf bankB 1000).windows.expose.c2.on = false ∧
    (commitOf bankB 1000).windows.expose.c3 = ⟨true, 9000, 11091⟩ ∧
    (commitOf bankB 1000).trims = ⟨.shortened, .shortened, .removed, .unchanged⟩ ∧
    (commitOf bankB 1000).leads = ⟨some 1000, some 800⟩ ∧
    (commitOf bankB 1000).leadClamped = ⟨false, true⟩ := by decide +kernel

/-- A TIME_MARK of section 2.9, captured at tick `d`, its check completed 3 ticks later. -/
def mark (d h : Nat) (s : State) : State :=
  after (.timeMark 3 (leBytes 8 h)) (s.mapClock fun c => { c with tick := BitVec.ofNat 48 (d + 3) })

/-- R25, R26: a capture lies before now by the packet's age, across the wrap too, and never before the counter's start. -/
theorem test_captured : (live.mapClock fun c => { c with tick := 10 }).capturedTick 3 = 7 ∧
    (live.mapClock fun c => { c with tick := 10 }).capturedTick 11 = 0 ∧
    (live.mapClock fun c => { c with tick := 10, wrapped := true }).capturedTick 11 = 281474976710655 ∧
    ((live.mapClock fun c => { c with tick := 281474976710655 }).clock.advance) = ⟨0, true, false, false, false, false, false⟩ := by
  decide +kernel

/-- Section 2.9 after mark 2. -/
def marked2 : State := mark 2100000 5000100003 (mark 2000000 5000000000 live)

theorem test_mark_update : marked2.time.hRef = 5000100001 ∧ marked2.time.rate = 3750 ∧ marked2.time.lockCount = 1 ∧
    marked2.time.sync = .coarse := by decide +kernel

/-- Section 2.9 after mark 4. -/
def marked4 : State := { live with time := { live.time with
  sync := .coarse, dRef := 2300000, hRef := 5000300005, rate := 9902, dLast := 2300000, hLast := 5000300009, lockCount := 3 } }

theorem test_mark_locks : (mark 2400000 5000400012 marked4).time.sync = .locked ∧
    (mark 2400000 5000400012 marked4).time.rate = 12414 ∧
    (mark 2400000 5000400012 marked4).time.hostOf 2411111 = 5000411119 ∧
    (mark 2400000 5000400012 marked4).time.devOf 5000420000 = 2419992 := by decide +kernel

/-- Section 5.6: the ring. -/
def ring56 : List Sample :=
  [⟨999500, ⟨80500, -10000, 0⟩, ⟨0, 0, 0⟩, 0⟩, ⟨1000500, ⟨90500, -10000, 0⟩, ⟨0, 0, 0⟩, 0⟩,
    ⟨1001500, ⟨100500, -10000, 0⟩, ⟨0, 0, 0⟩, 0⟩, ⟨1007500, ⟨120500, -10000, 0⟩, ⟨0, 0, 0⟩, 0⟩]

/-- Section 5.6: the state at the left eye's latch. -/
def state56 : State :=
  { live with
    time := { live.time with sync := .locked, dRef := 1000000, hRef := 5000, rate := 0 }
    motion := { live.motion with ring := ring56, config := { live.motion.config with bias := ⟨500, 0, 0⟩ } }
    disp := { live.disp with config := { live.disp.config with ppdX := 5248, ppdY := 5248 } }
    tl := { live.tl with
      startTick := 1004000
      windows := { live.tl.windows with scan := .both ⟨true, 5000, 7000⟩, strobe := .both ⟨true, 7000, 9000⟩ } } }

theorem test_shift : shiftFor .left ⟨512, 5000, .auto, none⟩ state56 = ⟨-26, -2, .auto, false, false, false, false, false⟩ := by
  decide +kernel

/-- Section 7.8: the part before the contract drop. -/
def state78 : State :=
  let b : Bank := ⟨11111, 200, 1, ⟨.both ⟨true, 2000, 5000⟩, .both ⟨true, 5000, 7000⟩,
    ⟨⟨true, 7500, 10500⟩, ⟨true, 7500, 10500⟩, ⟨true, 1500, 4500⟩, ⟨true, 1500, 4500⟩⟩⟩⟩
  { live with
    tl := { live.tl with active := b, windows := b.win }
    disp := { live.disp with eyes := live.disp.eyes.map fun e => { e with panel := .on, request := 800 } }
    motion := { live.motion with
      port := .running, cams := live.motion.cams.map fun c => { c with state := .idle, request := 1000 } }
    audio := { live.audio with playback := .playing, requested := 0 }
    power := { live.power with contract := 7500 } }

/-- Section 7.8: the grants under 7,500 mW and under 6,000 mW. -/
theorem test_contract_7500 : (computeGrants state78).power.fs = 16 ∧ (computeGrants state78).power.strobe.left.cost = 864 ∧
    (computeGrants state78).power.illum.c0.cost = 810 ∧ (computeGrants state78).power.audioGrant = .l4 ∧
    (computeGrants state78).power.limited = false := by decide +kernel

theorem test_contract_6000 : (after .powerContract (asking 96 (b2 6000) state78)).power.fs = 4 ∧
    (after .powerContract (asking 96 (b2 6000) state78)).power.strobe.left = ⟨800, 200, 216⟩ ∧
    (after .powerContract (asking 96 (b2 6000) state78)).power.limited = true := by decide +kernel

/-- Section 6.8: block 103 against the expected 102. -/
theorem test_sequence_gap :
    let s := live.mapAudio fun a => { a with playback := .playing, fifo := List.replicate 66 ⟨1, 1⟩, expected := some 102 }
    let t := after (.audioBlock ([103, 0, 48, 0] ++ List.replicate 288 0)) s
    t.audio.fifo.length = 114 ∧ t.audio.gaps = 1 ∧ t.audio.expected = some 104 := by decide +kernel

/-- Section 6.8: the 64th frame of the ramp ends it in PRIMING with the FIFO emptied. -/
theorem test_ramp_end :
    let s := live.mapAudio fun a =>
      { a with playback := .muting, fromPlaying := true, ramp := 63, fifo := List.replicate 89 ⟨1, 1⟩, cycles := 0 }
    let t := after (.audioFrameBoundary (List.replicate 8 0)) s
    t.audio.playback = .priming ∧ t.audio.fifo = [] ∧ t.audio.played = 0 := by decide +kernel

/-- Section 8.4: slot 0 of the example carries reply A alone, lent from CAPTURE. -/
theorem test_slot_lent :
    let a : Reply := ⟨0, 1, 16, .ok, .empty, 0, 40, 0⟩
    let s := { live with
      req := { live.req with replies := [a, { a with tag := 2, length := 100 }] }
      link := { live.link with nextSlot := 0 } }
    (after .upstreamSlot s).link.slots = [⟨0, .capture, .replies [a]⟩] ∧
      (after .upstreamSlot s).req.replies.length = 1 := by decide +kernel

/-- Section 9.3: a duplicate of a waiting request takes a second place and has no reply. -/
theorem test_tag_reused :
    let s := { live with req := { live.req with
      table := [waitingCommit]
      grants := { live.req.grants with client2 := .all .write }
      intake := [[0x29, 50, 0, 0]] } }
    (after .timelineRun s).req.reserved = 2 ∧ (after .timelineRun s).req.replies = [] ∧
      (after .timelineRun s).req.refused = 1 := by decide +kernel

/-- Section 4.6: camera 0's window opens, its frame-valid rises and falls. -/
theorem test_exposure :
    let s := { live with
      tl := { live.tl with
        running := true, counter := 3800, frame := 413
        windows := { live.tl.windows with expose := { live.tl.windows.expose with c0 := ⟨true, 3800, 4800⟩ } } }
      motion := { live.motion with cams := { live.motion.cams with c0 := ⟨.idle, 800, none, 0⟩ } }
      power := { live.power with illum := { live.power.illum with c0 := ⟨800, 800, 0⟩ } }
      clock := { live.clock with tick := 40014911 } }
    let o := after (.exposureWindowOpen 0) s
    let t := after (.frameValidFall 0) (after (.frameValidRise 0) o)
    o.motion.cams.c0.drive = 800 ∧
      t.link.reports = [.exposure ⟨0, 413, 40014911, 40014911, some 40014911, 800, false, false, false, false⟩] ∧
      (t.motion.cams.c0.context.map Exposure.recorded) = some true := by decide +kernel

/-- R115: the gain factor is 65,536 at 0 dB, and 10^(−1/2) and 10^(−1/20) of it, rounded, at −10 dB and −1 dB. -/
theorem test_gain : gainFactor 0 = 65536 ∧ gainFactor (-20) = 20724 ∧ gainFactor (-2) = 58409 := by decide +kernel

/-! ## Hypotheses that are met

One theorem for each statement with hypotheses: its parts are the clauses in their order, each at a state that meets all
the hypotheses of the clause together. -/

/-- A part with nothing due. -/
def quiet : State :=
  { live with
    clock := ⟨1, false, false, false, false, false, false⟩
    audio := { live.audio with cycles := 900 } }

/-- A part held in reset at an input of `mv`. -/
def heldAt (mv : Nat) : State := .mapPins (fun p => { p with mv := mv }) .reset

/-- The link in a state. -/
def inLink (l : LinkState) (s : State) : State := s.mapLink fun x => { x with state := l }

/-- The Timebase in a state. -/
def inSync (c : Sync) (s : State) : State := s.mapTime fun x => { x with sync := c }

/-- The timeline in RUN at a counter value. -/
def inRun (n : Nat) (s : State) : State := s.mapTl fun x => { x with running := true, counter := n }

theorem witness_StepRunsFront : (live.withPending [.badPacket]).pending = .badPacket :: [] := rfl

theorem witness_IdleRunsDueEventOrTick :
    (.superframeStart ∈ dueEvents live ∧ .imuReadTimeout ∉ dueEvents live) ∧
    (live.pending = [] ∧ live.powered = true ∧ dueEvents live ≠ []) ∧
    ((heldAt 9001).pending = [] ∧ (heldAt 9001).powered = false ∧ 9000 < (heldAt 9001).pins.mv) ∧
    ((heldAt 9000).pending = [] ∧ (heldAt 9000).powered = false ∧ (heldAt 9000).pins.mv ≤ 9000) ∧
    (quiet.pending = [] ∧ quiet.powered = true ∧ dueEvents quiet = []) := by decide +kernel

theorem witness_StartAndPowerOnReset :
    (State.reset.powered = false ∧ 9000 < 9001) ∧ live.powered = true ∧ (State.reset.powered = false ∧ 9000 ≤ 9000) ∧
    8999 < 9000 ∧ 9000 ≤ 9000 := by decide +kernel

theorem witness_PacketsAndLinkState : ∃ f, packetCount (.fill []) = some f ∧
    ((inLink .down live).powered = true ∧ (inLink .down live).link.state = .down) ∧
    ((inLink .acquire live).powered = true ∧ (inLink .acquire live).link.state = .acquire ∧
      ((inLink .acquire live).mapLink fun l => { l with run := 6 }).link.run < 7) ∧
    (live.powered = true ∧ live.link.state = .up) :=
  ⟨_, rfl, by decide +kernel⟩

/-- A link that has heard `n` valid packets in ACQUIRE. -/
def acquiring (n : Nat) : State := live.mapLink fun l => { l with state := .acquire, run := n }

theorem witness_SessionStarts :
    ((acquiring 8).powered = true ∧ (acquiring 8).link.state = .acquire ∧ 8 ≤ (acquiring 8).link.run) ∧
    LightsSound (acquiring 8) ∧
    ((acquiring 7).powered = true ∧ (acquiring 7).link.state = .acquire ∧ (acquiring 7).link.run = 7) ∧
    LightsSound (acquiring 7) ∧ parseMark (leBytes 8 5) = some 5 ∧ ∃ f, packetCount (.ctrl []) = some f :=
  ⟨by decide +kernel, lightsOk (by decide +kernel), by decide +kernel, lightsOk (by decide +kernel), by decide +kernel, _, rfl⟩

/-- The link silent for `n` ticks in UP, and held for `n` ticks in HOLD. -/
def silent (n : Nat) : State := live.mapLink fun l => { l with silence := n }
def holding (n : Nat) : State := live.mapLink fun l => { l with state := .hold, hold := n }

theorem witness_HoldAndResume :
    ((silent 200).powered = true ∧ (silent 200).link.state = .up ∧ 200 ≤ (silent 200).link.silence) ∧
    ((holding 0).powered = true ∧ (holding 0).link.state = .hold) ∧ ∃ f, packetCount (.row []) = some f :=
  ⟨by decide +kernel, by decide +kernel, _, rfl⟩

theorem witness_SessionEnds :
    ((holding 20000).powered = true ∧ (holding 20000).link.state = .hold ∧ 20000 ≤ (holding 20000).link.hold) ∧
    LightsSound (holding 20000) := ⟨by decide +kernel, lightsOk (by decide +kernel)⟩

theorem witness_LinkSparesPower : (packetCount (.fill [])).isSome ∧ exec (.fill []) live = .next (after (.fill []) live) ∧
    exec .holdTimerExpiry (holding 20000) = .next (after .holdTimerExpiry (holding 20000)) := ⟨rfl, rfl, rfl⟩

theorem witness_SuperframesAndWindows :
    (live.powered = true ∧ live.now.toNat % 250 = 0 ∧ live.clock.superframeDone = false) ∧
    (let s := live.mapLink fun l => { l with superframe := 8, windowFirst := some 4 };
      s.powered = true ∧ s.link.superframe.toNat % 4 = 0 ∧ s.link.windowFirst ≠ some s.link.superframe) := by
  decide +kernel

/-- A slot of the superframe that begins now. -/
def slotNow (n : Nat) (s : State) : State :=
  { s with link := { s.link with nextSlot := n }, clock := { s.clock with tick := 235 } }

/-- A reply, an event, a report and a capture frame. -/
def aReply : Reply := ⟨0, 1, 16, .ok, .empty, 0, 40, 0⟩
def anEvent : Event := ⟨.linkController, .linkHold 5, 1, 5, 5⟩
def aReport : Report := .sensor ⟨⟨5, ⟨0, 0, 0⟩, ⟨0, 0, 0⟩, 2500⟩, 0⟩
def aCapture : CaptureFrame := ⟨5, [7]⟩

theorem witness_UpstreamSlots :
    let s := slotNow 15 live
    (s.powered = true ∧ s.link.nextSlot < 16 ∧ (slotOffset s.link.nextSlot : Int) ≤ tickDiff s.now s.link.superframeTick) ∧
    drawsOn (s.mapReq fun r => { r with replies := [aReply] }) .opened .reply ∧
    drawsOn (s.mapReq fun r => { r with events := [anEvent] }) .opened .event ∧
    drawsOn (s.mapLink fun l => { l with reports := [aReport] }) .sensor .sensor ∧
    drawsOn (s.mapAudio fun a => { a with captured := [aCapture] }) .opened .capture ∧
    (s.mapAudio fun a => { a with captured := [aCapture] }).audio.captured = aCapture :: [] ∧
    ∀ q, queueHolds s q = false := by
  refine ⟨by decide +kernel, ?_, ?_, ?_, ?_, by decide +kernel, fun q => by cases q <;> decide +kernel⟩ <;>
    (unfold drawsOn; decide +kernel)

/-- A Timebase with its reference at tick 1,000 and host time `h`, the last SENSOR record reported at `last`. -/
def based (h last : HostTime) : Timebase :=
  { Timebase.powerOn with sync := .coarse, dRef := 1000, hRef := h, reported := ⟨last, 0, 0, 0⟩ }

theorem witness_MapsAndStamps :
    Timebase.powerOn.sync = .unsynced ∧
    (let t := based 5000 4999;
      t.sync ≠ .unsynced ∧ (t.reported.get .sensor).toNat < 18446744073709551615 ∧
        (t.stampOf .sensor 1000).2 = false ∧ ((t.reported.get .sensor).toNat : Int) < (t.hostOf 1000).toInt) ∧
    (let t := based 5000 5000;
      t.sync ≠ .unsynced ∧ (t.hostOf 1000).toInt ≤ ((t.reported.get .sensor).toNat : Int)) ∧
    (let t := based 0 0;
      t.sync ≠ .unsynced ∧ (t.hostOf 1000).toInt ≤ 0 ∧ t.reported.get .sensor = 0) ∧
    Stamped.frame ≠ Stamped.sensor ∧
    (let t := { based 5000 0 with rate := 200000 };
      -200000 ≤ t.rate ∧ t.rate ≤ 200000 ∧ tickDiff 999 t.dRef ≤ tickDiff 1000 t.dRef ∧
        (tickDiff 60001000 t.dRef).natAbs ≤ 60000000) ∧
    (let t := { based 5000 0 with rate := -200000 };
      -200000 ≤ t.rate ∧ t.rate ≤ 200000 ∧ (tickDiff 60001000 t.dRef).natAbs ≤ 60000000) := by decide +kernel

/-- R38: after a last-reported time of 2^63 − 1 the host times of a kind go on rising, as unsigned values. -/
theorem test_stamps_rise_past_2_63 :
    (based 5 9223372036854775807).stampOf .sensor 1000 = (9223372036854775808, true) ∧
    (based 5 9223372036854775808).stampOf .sensor 1000 = (9223372036854775809, true) := by decide +kernel

theorem witness_FirstMark :
    (live.powered = true ∧ live.link.state = .up ∧ live.time.sync = .unsynced ∧ parseMark (leBytes 8 5) = some 5) ∧
    parseMark (leBytes 7 5) = none ∧ (leBytes 7 5).length ≠ 8 ∧ field (leBytes 8 5) 0 8 = 5 := by decide +kernel

/-- LOCKED, with the last accepted mark (0, 0), at tick `t`, so that a mark of age 5 is captured at tick `t` − 5. -/
def afterMark (t : Nat) : State :=
  { live with time := { live.time with sync := .locked }, clock := { live.clock with tick := BitVec.ofNat 48 t } }

theorem witness_MarkSpacingAndRate :
    ((afterMark 0).powered = true ∧ (afterMark 0).link.state = .up ∧ (afterMark 0).time.sync ≠ .unsynced ∧
      (leBytes 8 5).length = 8 ∧ (5 : HostTime).toNat = field (leBytes 8 5) 0 8) ∧
    tickDiff ((afterMark 5004).capturedTick 5) 0 < 5000 ∧ 1000000 < tickDiff ((afterMark 1000006).capturedTick 5) 0 ∧
    (let d := (afterMark 5005).capturedTick 5;
      5000 ≤ tickDiff d 0 ∧ tickDiff d 0 ≤ 1000000 ∧ (5002 : HostTime).toNat = field (leBytes 8 5002) 0 8 ∧
      200000 < (Int.tdiv ((hostDiff 5002 0 - tickDiff d 0) * 1000000000) (tickDiff d 0)).natAbs) := by decide +kernel

theorem witness_MarkStepsAndUpdates :
    (let s := { afterMark 5005 with time := { (afterMark 0).time with hRef := 2001 } };
      let d := s.capturedTick 5;
      s.powered = true ∧ s.link.state = .up ∧ s.time.sync ≠ .unsynced ∧
        (leBytes 8 5000).length = 8 ∧ (5000 : HostTime).toNat = field (leBytes 8 5000) 0 8 ∧
        5000 ≤ tickDiff d s.time.dLast ∧ tickDiff d s.time.dLast ≤ 1000000 ∧
        (Int.tdiv ((hostDiff 5000 s.time.hLast - tickDiff d s.time.dLast) * 1000000000)
          (tickDiff d s.time.dLast)).natAbs ≤ 200000 ∧ 2000 < (hostDiff 5000 (s.time.hostOf d)).natAbs) ∧
    (let s := { afterMark 5005 with time := { (afterMark 0).time with hRef := 2000 } };
      s.powered = true ∧ s.link.state = .up ∧ s.time.sync ≠ .unsynced ∧
        (hostDiff 5000 (s.time.hostOf (s.capturedTick 5))).natAbs ≤ 2000) := by decide +kernel

/-- The Timebase in `c` with the last accepted mark at tick 0, at tick `t`. -/
def markAge (c : Sync) (t : Nat) : State :=
  { live with time := { live.time with sync := c }, clock := { live.clock with tick := BitVec.ofNat 48 t } }

theorem witness_SyncLockAndHoldover :
    (let s := (inSync .coarse live).mapTime fun t => { t with lockCount := 4 };
      s.powered = true ∧ s.time.sync = .coarse ∧ 4 ≤ s.time.lockCount) ∧
    (let s := markAge .locked 10000000;
      s.powered = true ∧ s.time.sync = .locked ∧ 10000000 ≤ tickDiff s.now s.time.dLast) ∧
    (let s := markAge .coarse 60000000;
      s.powered = true ∧ s.time.sync = .coarse ∧ 60000000 ≤ tickDiff s.now s.time.dLast) := by decide +kernel

/-- A request of client 2 with tag 9 as the oldest of the intake. -/
def asking29 (code : Nat) (body : List Byte) (s : State) : State :=
  s.mapReq fun r => { r with intake := [[0x29, BitVec.ofNat 8 code, BitVec.ofNat 8 body.length, 0] ++ body] }

/-- A reply that client 2 has not read. -/
def reply29 : Reply := { aReply with client := 2, tag := 9 }

theorem witness_RequestChecks :
    (let s := asking29 5 [] live;
      s.powered = true ∧ takeDue s = true ∧ oldestRow s = none ∧
        ¬ (∃ e ∈ s.req.table, e.client = (asked s).client ∧ e.tag = (asked s).tag)) ∧
    (let s := (asking29 5 [] live).mapReq fun r => { r with table := [waitingCommit] };
      s.powered = true ∧ takeDue s = true ∧ oldestRow s = none ∧
        ∃ e ∈ s.req.table, e.client = (asked s).client ∧ e.tag = (asked s).tag) ∧
    (let s := (asking29 49 [] live).mapReq fun r => { r with table := [waitingCommit] };
      takeDue s = true ∧ oldestRow s = some ⟨49, .timelineCommit, .display, .write, 0⟩ ∧
        ∃ e ∈ s.req.table, e.client = (asked s).client ∧ e.tag = (asked s).tag) ∧
    (let s := (asking29 49 [] live).mapReq fun r => { r with replies := [reply29] };
      takeDue s = true ∧ oldestRow s = some ⟨49, .timelineCommit, .display, .write, 0⟩ ∧
        ∃ p ∈ s.req.replies, p.client = (asked s).client ∧ p.tag = (asked s).tag) ∧
    (let s := asking29 49 [1] live;
      takeDue s = true ∧ oldestRow s = some ⟨49, .timelineCommit, .display, .write, 0⟩ ∧
        ¬ (((asked s).length : Int) = (asked s).carried ∧ (asked s).length = 0)) ∧
    (let s := asking29 49 [] live;
      takeDue s = true ∧ oldestRow s = some ⟨49, .timelineCommit, .display, .write, 0⟩ ∧
        (((asked s).length : Int) = (asked s).carried ∧ (asked s).length = 0) ∧
        (asked s).client = 2 ∧ s.req.grants.client2.display = .none ∧ s.req.fault = none) ∧
    (let s := (asking29 49 [] live).mapReq fun r => { r with fault := some ⟨1, 1, 49, 0, false, 0⟩ };
      s.req.fault = some ⟨1, 1, 49, 0, false, 0⟩ ∧ (asked s).client = 2 ∧ s.req.grants.client2.display = .none) ∧
    (let s := (asking 49 [] live).mapReq fun r =>
        { r with table := (List.range 16).map fun i => { waitingCommit with tag := BitVec.ofNat 4 i } };
      takeDue s = true ∧ (asked s).client = 0 ∧ oldestRow s = some ⟨49, .timelineCommit, .display, .write, 0⟩ ∧
        16 ≤ s.req.table.length) ∧
    (let s := asking29 5 [] live; s.req.intake.head? = some [0x29, 5, 0, 0] ∧ (asked s).kind.toNat = 5) := by decide +kernel

/-- A kind that cannot wait passes beside a reply of its client and tag and a full waiting table (R163). -/
theorem test_cannot_wait_passes :
    let s := (asking 53 [] live).mapReq fun r =>
      { r with
        replies := [{ aReply with client := 0, tag := 0 }]
        table := (List.range 16).map fun i => { waitingCommit with tag := BitVec.ofNat 4 i } }
    (takeDue s = true ∧ 16 ≤ s.req.table.length ∧ (∃ p ∈ s.req.replies, p.client = (asked s).client ∧ p.tag = (asked s).tag) ∧
      ¬ (∃ e ∈ s.req.table, e.client = (asked s).client ∧ e.tag = (asked s).tag)) ∧
      Admitted .timelineStatus s := ⟨by decide +kernel, admitted (by decide +kernel)⟩

theorem witness_CtrlIntake :
    (live.powered = true ∧ live.link.state = .up ∧ live.req.intake.length < 2) ∧
    2 ≤ (live.mapReq fun r => { r with intake := [[], []] }).req.intake.length := by decide +kernel

theorem witness_StatusReads :
    Admitted .deviceIdentify (asking 16 [] live) ∧ Admitted .deviceStatus (asking 17 [] live) ∧
    Admitted .faultRead (asking 20 [] live) ∧ Admitted .linkStatus (asking 33 [] live) ∧
    Admitted .timeStatus (asking 34 [] live) ∧ Admitted .timelineStatus (asking 53 [] live) ∧
    Admitted .displayStatus (asking 59 [] live) ∧ Admitted .motionStatus (asking 66 [] live) ∧
    Admitted .audioStatus (asking 87 [] live) ∧ Admitted .powerStatus (asking 98 [] live) := by
  refine ⟨?_, ?_, ?_, ?_, ?_, ?_, ?_, ?_, ?_, ?_⟩ <;> exact admitted (by decide +kernel)

/-- A strobe request changed since the last computation: POWER_STATUS tells it as it stands (R140). -/
theorem test_power_status_requests :
    (powerStatusOf (live.mapEye .left fun d => { d with request := 512 })).strobe.left.request = 512 := by decide +kernel

/-- A slot table that names a REPLY and an EVENT slot. -/
def slotBody : List Byte := [3, 4] ++ List.replicate 14 0

theorem witness_GrantsFaultsAndSlots :
    (Admitted .grantSet (asking 19 [3, 0, 1, 2, 0, 1, 2] live) ∧
      (byteAt (asked (asking 19 [3, 0, 1, 2, 0, 1, 2] live)).body 0).toNat = 3 ∧
      ∀ i, 1 ≤ i → i ≤ 6 → (byteAt (asked (asking 19 [3, 0, 1, 2, 0, 1, 2] live)).body i).toNat ≤ 2) ∧
    (Admitted .grantSet (asking 19 [4, 0, 1, 2, 0, 1, 2] live) ∧
      3 < (byteAt (asked (asking 19 [4, 0, 1, 2, 0, 1, 2] live)).body 0).toNat) ∧
    (Admitted .grantSet (asking 19 [1, 0, 3, 2, 0, 1, 3] live) ∧
      2 < (byteAt (asked (asking 19 [1, 0, 3, 2, 0, 1, 3] live)).body 2).toNat ∧
      (byteAt (asked (asking 19 [1, 0, 3, 2, 0, 1, 3] live)).body 1).toNat ≤ 2) ∧
    Admitted .faultClear (asking 21 [] live) ∧
    (Admitted .linkSlots (asking 32 slotBody live) ∧
      (∀ i, i < 16 → (byteAt (asked (asking 32 slotBody live)).body i).toNat ≤ 4) ∧
      byteAt (asked (asking 32 slotBody live)).body 0 = 3 ∧ byteAt (asked (asking 32 slotBody live)).body 1 = 4) ∧
    (Admitted .linkSlots (asking 32 (5 :: slotBody.drop 1) live) ∧
      4 < (byteAt (asked (asking 32 (5 :: slotBody.drop 1) live)).body 0).toNat) ∧
    (Admitted .linkSlots (asking 32 (List.replicate 16 0) live) ∧
      ∀ i, i < 16 → byteAt (asked (asking 32 (List.replicate 16 0) live)).body i ≠ 3) := by
  refine ⟨⟨admitted (by decide +kernel), by decide +kernel, ?_⟩, ⟨admitted (by decide +kernel), by decide +kernel⟩,
    ⟨admitted (by decide +kernel), by decide +kernel⟩, admitted (by decide +kernel),
    ⟨admitted (by decide +kernel), by decide +kernel, by decide +kernel⟩,
    ⟨admitted (by decide +kernel), by decide +kernel⟩, ⟨admitted (by decide +kernel), by decide +kernel⟩⟩
  have h : ∀ i, i < 7 → 1 ≤ i → (byteAt (asked (asking 19 [3, 0, 1, 2, 0, 1, 2] live)).body i).toNat ≤ 2 := by decide +kernel
  exact fun i h1 h2 => h i (by omega) h1

/-- A part whose table holds an entry with three duplicates, the last of kind 50. -/
def reused : State := live.mapReq fun r => { r with table := [{ waitingCommit with dups := 3, dupKind := 50 }, { waitingCommit with tag := 8 }] }

theorem witness_SystemResetEffect : Admitted .systemReset (asking 18 [] reused) := admitted (by decide +kernel)

/-- R166: SYSTEM_RESET answers the duplicates of an entry that it discards, and then itself. -/
theorem test_reset_duplicates : (after .systemReset (asking 18 [] reused)).req.replies.map
      (fun x => (x.client, x.tag, x.kind, x.status, x.body)) =
    [(2, 9, 50, .tagInUse, .duplicates 3), (0, 0, 18, .ok, .discarded 2)] := by decide +kernel

/-- The premises of R7 on a bank, for a display of 1,920 rows. -/
def passes (b : Bank) : Bool :=
  decide (6000 ≤ b.period ∧ b.period ≤ 20000 ∧ b.guard ≤ 2000 ∧ 1 ≤ b.divider ∧ b.divider ≤ 8 ∧
    ((b.win.scan.get .left).on = true → (1920 : Int) ≤ min (b.win.scan.get .left).stop (b.period - 20) - (b.win.scan.get .left).start) ∧
    ((b.win.scan.get .right).on = true →
      (1920 : Int) ≤ min (b.win.scan.get .right).stop (b.period - 20) - (b.win.scan.get .right).start))

theorem witness_CommitWindows : passes bankB = true ∧
    (commitOf bankB 1000).windows.scan.left.on = true ∧ (commitOf bankB 1000).windows.strobe.left.on = true ∧
    (commitOf bankB 1000).windows.expose.c0.on = true ∧ bankB.win.scan.left.on = true ∧
    (let b := { bankB with win := { bankB.win with strobe := ⟨⟨false, 5, 9⟩, ⟨true, 9, 9⟩⟩ } };
      passes b = true ∧ b.win.strobe.right.stop ≤ b.win.strobe.right.start) ∧
    (let c := commitOf bankB 1000;
      (bankB.win.strobe.left.start < c.windows.scan.left.stop ∧ c.windows.scan.left.stop < bankB.win.strobe.left.stop) ∧
      (c.windows.scan.right.stop ≤ bankB.win.strobe.right.start) ∧
      c.trims = ⟨.shortened, .shortened, .removed, .unchanged⟩) ∧
    (let b := { bankB with win := { bankB.win with strobe := .both ⟨true, 0, 1000⟩ } };
      passes b = true ∧ b.win.strobe.left.start < (commitOf b 1000).windows.scan.left.stop ∧
        b.win.strobe.left.stop ≤ (commitOf b 1000).windows.scan.left.stop) := by decide +kernel

/-- A part whose pending bank is bank B, with a commit waiting. -/
def withBank (s : State) : State := s.mapTl fun t => { t with pendingBank := bankB }
def committing (s : State) : State := s.mapTl fun t => { t with pendingBank := bankB, waiting := some (commitOf bankB 1000) }

theorem witness_TimelineSetAndCommit :
    (Admitted .timelineSet (asking 48 (List.replicate 45 0) live) ∧ live.tl.waiting = none) ∧
    (Admitted .timelineSet (asking 48 (List.replicate 45 0) (committing live)) ∧ (committing live).tl.waiting.isSome = true) ∧
    (Admitted .timelineCommit (asking 49 [] (committing live)) ∧ (committing live).tl.waiting.isSome = true) ∧
    (let s := asking 49 [] (inRun 5 (withBank live));
      Admitted .timelineCommit s ∧ (s.tl.waiting = none ∧ passes s.tl.pendingBank = true ∧ s.disp.config.rows = 1920 ∧
        s.tl.running = true)) ∧
    (let s := asking 49 [] (withBank live);
      Admitted .timelineCommit s ∧ (s.tl.waiting = none ∧ passes s.tl.pendingBank = true ∧ s.disp.config.rows = 1920 ∧
        s.tl.running = false)) := by
  refine ⟨⟨?_, ?_⟩, ⟨?_, ?_⟩, ⟨?_, ?_⟩, ⟨?_, ?_⟩, ⟨?_, ?_⟩⟩ <;>
    first | exact admitted (by decide +kernel) | decide +kernel

/-- R7: each refusing bank meets the checks before the one it fails, and the reply names that one. -/
def refusedBanks : List (Bank × CommitCheck) :=
  [({ bankB with period := 5999, guard := 2001 }, .period), ({ bankB with period := 20001 }, .period),
   ({ bankB with guard := 2001, divider := 0 }, .guard), ({ bankB with divider := 0 }, .divider),
   ({ bankB with divider := 9 }, .divider),
   ({ bankB with win := { bankB.win with scan := .both ⟨true, 3081, 5000⟩ } }, .scan .left),
   ({ bankB with win := { bankB.win with scan := ⟨⟨true, 3080, 5000⟩, ⟨true, 9172, 20000⟩⟩ } }, .scan .right)]

/-- The body of the newest reply after a command. -/
def told (c : Instr) (s : State) : Option ReplyBody := ((after c s).req.replies.getLast?).map Reply.body

theorem witness_CommitChecks : (refusedBanks.all fun x =>
    let s := asking 49 [] (live.mapTl fun t => { t with pendingBank := x.1 })
    admits .timelineCommit s && s.tl.waiting.isNone && told .timelineCommit s == some (.commitCheck x.2)) = true := by
  decide +kernel

/-- R169: the first group whose permission is above 2 is named. -/
theorem test_refused_groups :
    ([([1, 3, 3, 0, 0, 0, 0], Group.device), ([2, 2, 3, 3, 0, 0, 0], .link), ([3, 0, 0, 3, 0, 0, 9], .display),
      ([1, 0, 0, 0, 3, 3, 0], .motion), ([1, 0, 0, 0, 0, 3, 3], .audio), ([3, 2, 1, 0, 2, 1, 3], .power)].all fun x =>
    told .grantSet (asking 19 x.1 live) == some (.group x.2)) = true := by decide +kernel

theorem witness_PhaseLock :
    live.tl.anchor = none ∧
    (let s := (inSync .coarse live).mapTl fun t => { t with anchor := some 5 };
      s.tl.anchor = some 5 ∧ s.time.sync ≠ .unsynced ∧ 0 < s.tl.active.period) ∧
    (Admitted .frameAnchor (asking 52 (leBytes 8 5) (inSync .coarse live)) ∧ (inSync .coarse live).time.sync ≠ .unsynced) ∧
    (Admitted .frameAnchor (asking 52 (leBytes 8 5) live) ∧ live.time.sync = .unsynced) ∧
    (let s := live.mapTl fun t => { t with phase := .acquiring, lockRun := 8 };
      s.powered = true ∧ s.tl.phase = .acquiring ∧ 8 ≤ s.tl.lockRun) := by
  refine ⟨?_, ?_, ⟨?_, ?_⟩, ⟨?_, ?_⟩, ?_⟩ <;> first | exact admitted (by decide +kernel) | decide +kernel

/-- A part whose left or right scan window is 1,919 counter values long, one too few. -/
def shortScan (e : Eye) : State :=
  live.mapTl fun t => { t with windows := { t.windows with scan := t.windows.scan.set e ⟨true, 0, 1919⟩ } }

theorem witness_TimelineRunBegins :
    (Admitted .timelineRun (asking 50 [] (inRun 5 live)) ∧ (inRun 5 live).tl.running = true) ∧
    (Admitted .timelineRun (asking 50 [] (shortScan .left)) ∧ (shortScan .left).tl.running = false ∧
      (shortScan .left).tl.windows.scan.left = ⟨true, 0, 1919⟩) ∧
    (Admitted .timelineRun (asking 50 [] (shortScan .right)) ∧ (shortScan .right).tl.running = false ∧
      (shortScan .right).tl.windows.scan = ⟨.off, ⟨true, 0, 1919⟩⟩) ∧
    (Admitted .timelineRun (asking 50 [] live) ∧ live.tl.running = false ∧ live.tl.windows.scan = .both .off) := by
  refine ⟨⟨?_, ?_⟩, ⟨?_, ?_⟩, ⟨?_, ?_⟩, ⟨?_, ?_⟩⟩ <;> first | exact admitted (by decide +kernel) | decide +kernel

/-- A part in RUN with a commit waiting in the timeline and in the request table. -/
def waitingRun (n : Nat) : State := (committing (inRun n live)).mapReq fun r => { r with table := [waitingCommit] }

/-- A part in RUN at counter 0 whose left latch point is 0. -/
def latchAtZero : State :=
  (inRun 0 live).mapTl fun t => { t with
    windows := { t.windows with scan := ⟨⟨true, 0, 2000⟩, .off⟩ }, leads := ⟨some 0, none⟩ }

theorem witness_TimelineStopEnds :
    (Admitted .timelineStop (asking 51 [] live) ∧ live.tl.running = false) ∧
    (Admitted .timelineStop (asking 51 [] (inRun 5 live)) ∧ (inRun 5 live).tl.running = true ∧
      (inRun 5 live).tl.waiting = none ∧ (inRun 5 live).tl.counter ≠ 0) ∧
    (Admitted .timelineStop (asking 51 [] (latchAtZero)) ∧ (latchAtZero.tl.running = true ∧ latchAtZero.tl.counter = 0 ∧
      latchAtZero.tl.latched.get .left = false ∧ latchAtZero.tl.latchPoint .left = some 0) ∧
      exec (.latch .left) latchAtZero = .next (after (.latch .left) latchAtZero)) ∧
    (Admitted .timelineStop (asking 51 [] (inRun 0 live)) ∧ ∀ e, (inRun 0 live).tl.latchPoint e ≠ some 0) ∧
    (Admitted .timelineStop (asking 51 [] (waitingRun 5)) ∧
      ((waitingRun 5).tl.running = true ∧ (waitingRun 5).tl.waiting = some (commitOf bankB 1000)) ∧
      TableSound (asking 51 [] (waitingRun 5))) := by
  refine ⟨⟨?_, ?_⟩, ⟨?_, ?_⟩, ⟨?_, ?_, rfl⟩, ⟨?_, fun e => by cases e <;> decide +kernel⟩, ⟨?_, ?_, ?_⟩⟩ <;>
    first | exact admitted (by decide +kernel) | decide +kernel | (unfold TableSound; decide +kernel)

/-- R14: the stop finds the head of a latch due at counter 0 bound, and its record names it. -/
theorem test_stop_latches :
    (after .timelineStop (asking 51 [] (latchAtZero.mapDisp fun d => { d with
      eyes := { d.eyes with left := { d.eyes.left with pending := some ⟨9, 0, .none, none⟩ } } }))).link.reports.map
        (fun r => match r with | .frame f => f.eyes.left.id | _ => none) = [some 9] := by decide +kernel

theorem witness_FrameStarts :
    ((waitingRun 11111).powered = true ∧ (waitingRun 11111).tl.running = true ∧
      ((waitingRun 11111).tl.active.period : Int) + (waitingRun 11111).tl.adj ≤ (waitingRun 11111).tl.counter ∧
      (waitingRun 11111).tl.anyOpen = false ∧ (waitingRun 11111).tl.waiting = some (commitOf bankB 1000) ∧
      waitingCommit ∈ (waitingRun 11111).req.table ∧ waitingCommit.wait = .commit) ∧
    TableSound (waitingRun 11111) ∧
    ((inRun 11111 live).tl.waiting = none ∧ (inRun 11111 live).tl.anchor = none) ∧
    (let s := (inSync .coarse (inRun 11111 live)).mapTl fun t => { t with anchor := some 5 };
      s.tl.anchor = some 5 ∧ s.time.sync ≠ .unsynced) ∧ 0 < (live.mapPower fun p => { p with count := 1 }).power.count ∧
    (let f : EndedFrame := ⟨frameNow false live, 1⟩
      let s := live.mapTl fun t => { t with ended := some f, reportCount := 1 }
      s.tl.ended = some f ∧ f.divider ≤ s.tl.reportCount) := by
  refine ⟨by decide +kernel, ?_, by decide +kernel, by decide +kernel, by decide +kernel, by decide +kernel⟩
  unfold TableSound; decide +kernel

/-- A DISPLAY_CONFIG body. -/
def displayBody (columns rows : Nat) : List Byte :=
  b2 columns ++ b2 rows ++ b2 129 ++ b2 32 ++ b2 256 ++ b2 25600 ++ b2 199 ++ [1]

theorem witness_DisplayConfigTaken :
    (Admitted .displayConfig (asking 54 (displayBody 1000 1000) (inRun 5 live)) ∧ (inRun 5 live).tl.running = true) ∧
    LightsSound (asking 54 (displayBody 1000 1000) (inRun 5 live)) ∧
    (Admitted .displayConfig (asking 54 (displayBody 1000 2560) live) ∧
      (let q := asked (asking 54 (displayBody 1000 2560) live);
        (u16 q.body 0).toNat = 1000 ∧ (u16 q.body 2).toNat = 2560 ∧ (u16 q.body 8).toNat = 256 ∧
          (u16 q.body 10).toNat = 25600 ∧ live.tl.running = false)) ∧
    LightsSound (asking 54 (displayBody 1000 2560) live) := by
  refine ⟨⟨?_, ?_⟩, ?_, ⟨?_, ?_⟩, ?_⟩ <;>
    first | exact admitted (by decide +kernel) | decide +kernel | exact lightsOk (by decide +kernel)

/-- R48: the first refusing field is named. -/
theorem witness_DisplayFields :
    ([(displayBody 999 999, Field.panelColumns), (displayBody 2561 1000, .panelColumns), (displayBody 1000 2561, .panelRows),
      (b2 1000 ++ b2 1000 ++ b2 0 ++ b2 0 ++ b2 255 ++ b2 255 ++ b2 0 ++ [0], .ppdX),
      (b2 1000 ++ b2 1000 ++ b2 0 ++ b2 0 ++ b2 256 ++ b2 25601 ++ b2 0 ++ [0], .ppdY)].all fun x =>
    let s := asking 54 x.1 live
    admits .displayConfig s && lights s == s && told .displayConfig s == some (.field x.2)) = true := by decide +kernel

theorem witness_DisplayDriveTaken : Admitted .displayDrive (asking 55 (b2 1024 ++ b2 1023) live) :=
  admitted (by decide +kernel)

theorem witness_DisplayBlankTaken : Admitted .displayBlank (asking 57 [] live) ∧ LightsSound (asking 57 [] live) :=
  ⟨admitted (by decide +kernel), lightsOk (by decide +kernel)⟩

theorem witness_DisplayResumeTaken : Admitted .displayResume (asking 58 [] live) := admitted (by decide +kernel)

/-- Both panels in a state. -/
def panels (p : Panel) (s : State) : State := s.mapDisp fun d => { d with eyes := d.eyes.map fun e => { e with panel := p } }

theorem witness_PanelPowerOnAndWake :
    (Admitted .panelPower (asking 56 [0, 1] live) ∧ (byteAt (asked (asking 56 [0, 1] live)).body 1 ≠ 0 ∧
      (byteAt (asked (asking 56 [0, 1] live)).body 0).toNat = 0)) ∧
    (Admitted .panelPower (asking 56 [3, 1] live) ∧ (byteAt (asked (asking 56 [3, 1] live)).body 1 ≠ 0 ∧
      (byteAt (asked (asking 56 [3, 1] live)).body 0).toNat = 3 ∧ live.power.asleep = false ∧
      live.disp.eyes.left.panel = .off ∧ live.disp.eyes.right.panel = .off)) ∧
    (let s := asking 56 [1, 1] (live.mapPower fun p => { p with asleep := true });
      Admitted .panelPower s ∧ s.power.asleep = true) ∧
    (Admitted .panelPower (asking 56 [1, 1] (panels .waking live)) ∧ (panels .waking live).disp.eyes.left.panel = .waking) ∧
    (Admitted .panelPower (asking 56 [1, 1] (panels .on live)) ∧ (panels .on live).disp.eyes.left.panel = .on) ∧
    ((panels .waking live).powered = true ∧ (panels .waking live).disp.eyes.left.panel = .waking ∧
      (panels .waking live).disp.eyes.left.wake = 0) ∧ TableSound (panels .waking live) := by
  refine ⟨⟨?_, ?_⟩, ⟨?_, ?_⟩, ⟨?_, ?_⟩, ⟨?_, ?_⟩, ⟨?_, ?_⟩, ?_, ?_⟩ <;>
    first | exact admitted (by decide +kernel) | decide +kernel | (unfold TableSound; decide +kernel)

theorem witness_PanelPowerOffTaken :
    (Admitted .panelPower (asking 56 [4, 0] live) ∧ (byteAt (asked (asking 56 [4, 0] live)).body 1 = 0 ∧
      3 < (byteAt (asked (asking 56 [4, 0] live)).body 0).toNat)) ∧
    LightsSound (asking 56 [4, 0] live) ∧ TableSound (asking 56 [4, 0] live) ∧
    (Admitted .panelPower (asking 56 [1, 0] (panels .on live)) ∧
      (byteAt (asked (asking 56 [1, 0] (panels .on live))).body 0).toNat = 1) := by
  refine ⟨⟨?_, ?_⟩, ?_, ?_, ⟨?_, ?_⟩⟩ <;>
    first | exact admitted (by decide +kernel) | decide +kernel | exact lightsOk (by decide +kernel) |
      (unfold TableSound; decide +kernel)

/-- R46, R166: two PANEL_POWER requests that wait, one for each eye, the first with duplicates, are cancelled by one power
off, in the table's order (log 48). -/
theorem test_two_cancelled :
    let s := asking 56 [3, 0] ((panels .waking live).mapReq fun r => { r with table :=
      [{ waitingCommit with wait := .panels false true, dups := 2, dupKind := 50 },
       { waitingCommit with tag := 8, wait := .panels true false }] })
    (after .panelPowerOff s).req.table = [] ∧
      (after .panelPowerOff s).req.replies.map (fun x => (x.tag, x.kind, x.status, x.body)) =
        [(9, 49, .cancelled, .empty), (9, 50, .tagInUse, .duplicates 2), (8, 49, .cancelled, .empty), (0, 56, .ok, .empty)] := by
  decide +kernel

/-- A head of id 7. -/
def head7 : Head := ⟨7, 5, .host, none⟩

/-- Both eyes with a pending and a bound head. -/
def heads (pending bound : Option Head) : State :=
  live.mapDisp fun d => { d with eyes := d.eyes.map fun e => { e with pending := pending, bound := bound } }

theorem witness_LateShiftTaken :
    let body : List Byte := [3] ++ b2 7 ++ b2 65 ++ leSigned 2 (-33)
    (Admitted .lateShift (asking 60 (0 :: body.drop 1) live) ∧
      (byteAt (asked (asking 60 (0 :: body.drop 1) live)).body 0).toNat = 0) ∧
    (Admitted .lateShift (asking 60 body live) ∧
      (byteAt (asked (asking 60 body live)).body 0).toNat = 3 ∧
      u16 (asked (asking 60 body live)).body 1 = 7 ∧ live.disp.eyes.left.pending = none ∧
      live.disp.eyes.left.bound = none) ∧
    (Admitted .lateShift (asking 60 body (heads (some head7) none)) ∧
      (heads (some head7) none).disp.eyes.left.pending = some head7) ∧
    (Admitted .lateShift (asking 60 body (heads none (some head7))) ∧
      (heads none (some head7)).disp.eyes.left.bound = some head7) := by
  refine ⟨⟨?_, ?_⟩, ⟨?_, ?_⟩, ⟨?_, ?_⟩, ⟨?_, ?_⟩⟩ <;> first | exact admitted (by decide +kernel) | decide +kernel

/-- A display of one column without margins. -/
def narrow (s : State) : State := s.mapDisp fun d => { d with config := { d.config with columns := 1, rows := 200, marginX := 0, marginY := 0 } }

theorem witness_HeadsAndRows :
    (live.powered = true ∧ live.link.state = .up ∧ parseHead [] = none ∧ parseRow live.disp.config [] = none) ∧
    (parseHead ([1, 2, 7, 0] ++ leBytes 8 5) = some (.right, ⟨7, 5, .none, none⟩) ∧ live.disp.eyes.right.pending = none ∧
      (heads (some head7) none).disp.eyes.right.pending = some head7) ∧
    (parseRow (narrow live).disp.config [0, 0, 7, 0, 97, 0, 1, 0, 1, 2, 3] = some (.left, ⟨7, 97, [1, 2, 3]⟩) ∧
      (heads (some head7) none).disp.eyes.left.pending.map Head.id = some 7 ∧
      ¬ live.disp.eyes.left.pending.map Head.id = some 7 ∧ ¬ live.disp.eyes.left.bound.map Head.id = some 7 ∧
      (97 % 96 : Nat) ≠ 0) ∧
    StoresSound (heads (some head7) none) := by
  refine ⟨by decide +kernel, by decide +kernel, by decide +kernel, ?_⟩
  unfold StoresSound; decide +kernel

/-- A part in RUN under bank B, at a counter value. -/
def running (n : Nat) (s : State) : State :=
  s.mapTl fun t => { t with
    running := true, counter := n, active := bankB, windows := (commitOf bankB 1000).windows
    leads := (commitOf bankB 1000).leads }

/-- R20 with R2: the lock reached at the frame start that ends a frame stands in that frame's record. -/
theorem test_record_tells_mode_after_adjustment :
    (after .frameStart ((inSync .coarse (inRun 11111 live)).mapTl fun t =>
      { t with anchor := some 0, phase := .acquiring, lockRun := 7 })).link.reports.map (fun r =>
        match r with | .frame x => x.phase | _ => .free) = [.locked] := by decide +kernel

/-- R94: the late shift of a head is gone once the head is bound. -/
theorem test_bound_head_holds_no_late_shift :
    ((after (.latch .left) (running 500 (heads (some { head7 with late := some ⟨4, 5, false, false⟩ }) none))).disp.eyes.get
      .left).bound = some { head7 with late := none } := by decide +kernel

theorem witness_LatchBindsOrMisses :
    (let s := running 500 (heads (some head7) none);
      s.powered = true ∧ s.tl.running = true ∧ s.tl.latched.get .left = false ∧ s.tl.latchPoint .left = some 500 ∧
        500 ≤ s.tl.counter ∧ (s.disp.eyes.get .left).pending = some head7) ∧
    (let s := running 500 live;
      s.tl.latchPoint .left = some 500 ∧ (s.disp.eyes.get .left).pending = none) ∧
    (let s := live.mapDisp fun d => { d with eyes := d.eyes.map fun e => { e with missed := 3 } };
      LightsSound s ∧ 3 ≤ (s.disp.eyes.get .left).missed ∧ s.disp.present.get (stallCause .left) = false) := by
  refine ⟨by decide +kernel, by decide +kernel, lightsOk (by decide +kernel), by decide +kernel⟩

theorem witness_ShiftResults :
    (({ head7 with mode := .none } : Head).mode = .none) ∧
    (({ head7 with late := some ⟨-64, 32, false, true⟩ } : Head).late = some ⟨-64, 32, false, true⟩ ∧
      -(live.disp.config.marginX : Int) ≤ -64 ∧ (32 : Int) ≤ live.disp.config.marginY) ∧
    (head7.mode = .host ∧ head7.late = none ∧ live.time.sync = .unsynced) ∧
    ((inSync .coarse live).time.sync ≠ .unsynced ∧ (inSync .coarse live).motion.ring = []) ∧
    (state56.time.sync ≠ .unsynced ∧ (∃ rest, state56.motion.ring = ⟨999500, ⟨80500, -10000, 0⟩, ⟨0, 0, 0⟩, 0⟩ :: rest) ∧
      (let b : Tick := state56.tl.startTick + BitVec.ofNat 48 ((7000 + 9000) / 2);
        tickDiff b (state56.time.devOf 17000) ≤ 0 ∧ 0 < tickDiff b (state56.time.devOf 16999))) := by
  refine ⟨by decide +kernel, by decide +kernel, by decide +kernel, by decide +kernel, by decide +kernel, ⟨_, rfl⟩,
    by decide +kernel⟩

/-- The left eye scanning row `k` of a bound head. -/
def scanning (k : Nat) : State :=
  (running 2000 live).mapEye .left fun d => { d with scan := some k, bound := some head7 }

theorem witness_ScanAndStrobe :
    (let s := (running 1500 live).mapTl fun t => { t with latched := .both true };
      s.powered = true ∧ s.tl.running = true ∧ (s.tl.windows.scan.get .left).on = true ∧
        s.tl.scanOpened.get .left = false ∧ s.tl.latched.get .left = true ∧
        (s.tl.windows.scan.get .left).start ≤ s.tl.counter) ∧
    (let s := scanning 0;
      (s.disp.eyes.get .left).scan = some 0 ∧ 0 < s.disp.config.rows ∧ (s.disp.eyes.get .left).bound = some head7 ∧
        rowInstant (s.tl.windows.scan.get .left) s.disp.config.rows 0 ≤ s.tl.counter ∧
        LineStore.read [(32, ⟨7, 32, [1, 2, 3]⟩)] (32 % 96) = some ⟨7, 32, [1, 2, 3]⟩ ∧
        LineStore.read (s.disp.eyes.get .left).lines 32 = none) ∧
    (let s := running 5000 live;
      LightsSound s ∧ (s.tl.windows.strobe.get .left).on = true ∧ s.tl.strobe.get .left = .before ∧
        (s.tl.windows.strobe.get .left).start ≤ s.tl.counter) ∧
    (let s := (running 6500 live).mapTl fun t => { t with strobe := .both .opened };
      LightsSound s ∧ s.tl.strobe.get .left = .opened ∧ (s.tl.windows.strobe.get .left).stop ≤ s.tl.counter) := by
  refine ⟨by decide +kernel, by decide +kernel, ⟨lightsOk (by decide +kernel), by decide +kernel⟩,
    ⟨lightsOk (by decide +kernel), by decide +kernel⟩⟩

/-- Camera 0 in a channel state with a context. -/
def camera0 (c : Channel) (x : Option Exposure) (s : State) : State :=
  s.mapCam 0 fun k => { k with state := c, context := x }

/-- An exposure that has not started. -/
def exposing : Exposure := ⟨3, 5, none, none, 0, false, false, 0⟩

theorem witness_ExposureWindows :
    (let s := camera0 .idle none (running 3800 live);
      LightsSound s ∧ (s.powered = true ∧ s.tl.running = true ∧ (s.tl.windows.expose.get 0).on = true ∧
        s.tl.expose.get 0 = .before ∧ (s.tl.windows.expose.get 0).start ≤ s.tl.counter ∧
        (s.motion.cams.get 0).state = .idle)) ∧
    (let s := camera0 .closing (some exposing) (running 3800 live);
      LightsSound s ∧ ((s.motion.cams.get 0).state = .closing ∧ (s.motion.cams.get 0).context = some exposing ∧
        0 ≤ tickDiff s.now exposing.deadline)) ∧
    (LightsSound (running 3800 live) ∧ ((running 3800 live).motion.cams.get 0).state = .disabled) ∧
    (let s := (camera0 .opened (some { exposing with recorded := true }) (running 4800 live)).mapTl fun t =>
        { t with expose := t.expose.set 0 .opened };
      LightsSound s ∧ (s.tl.expose.get 0 = .opened ∧ (s.tl.windows.expose.get 0).stop ≤ s.tl.counter ∧
        (s.motion.cams.get 0).state = .opened)) ∧
    (let s := (camera0 .opened (some exposing) (running 4800 live)).mapTl fun t => { t with expose := t.expose.set 0 .opened };
      LightsSound s ∧ (s.motion.cams.get 0).context = some exposing ∧ exposing.recorded = false) ∧
    (let s := (running 4800 live).mapTl fun t => { t with expose := t.expose.set 0 .opened };
      LightsSound s ∧ (s.motion.cams.get 0).state ≠ .opened) := by
  refine ⟨⟨?_, ?_⟩, ⟨?_, ?_⟩, ⟨?_, ?_⟩, ⟨?_, ?_⟩, ⟨?_, ?_⟩, ⟨?_, ?_⟩⟩ <;>
    first | decide +kernel | exact lightsOk (by decide +kernel)

theorem witness_CameraEdges :
    (let s := camera0 .closing (some exposing) live;
      s.powered = true ∧ (s.motion.cams.get 0).state = .closing ∧ (s.motion.cams.get 0).context = some exposing ∧
        exposing.start = none) ∧
    (let x := { exposing with start := some 5 };
      let s := camera0 .opened (some x) live
      (s.motion.cams.get 0).state = .opened ∧ (s.motion.cams.get 0).context = some x ∧ x.start = some 5 ∧ x.stop = none) ∧
    (live.motion.cams.get 0).state = .disabled := by decide +kernel

/-- A MOTION_CONFIG body with an accelerometer range. -/
def motionBody (accel : Nat) : List Byte :=
  b2 2000 ++ leBytes 1 accel ++ b2 500 ++ [0, 1, 2] ++ [0, 1, 0] ++ leSigned 4 50001 ++ leSigned 4 (-50000) ++ leSigned 4 0 ++ [8, 1]

/-- The IMU port in a state. -/
def inPort (p : Port) (s : State) : State := s.mapMotion fun m => { m with port := p }

theorem witness_MotionAndCameraConfig :
    (Admitted .motionConfig (asking 64 (motionBody 16) (inPort .starting live)) ∧
      (inPort .starting live).motion.port = .starting) ∧
    (let b := (asked (asking 64 (motionBody 16) live)).body;
      Admitted .motionConfig (asking 64 (motionBody 16) live) ∧
        (live.motion.port ≠ .starting ∧ (u16 b 0).toNat = 2000 ∧ (byteAt b 2).toNat = 16 ∧ (u16 b 3).toNat = 500 ∧
          [(byteAt b 5).toNat, (byteAt b 6).toNat, (byteAt b 7).toNat] = [0, 1, 2] ∧ (byteAt b 23).toNat = 8)) ∧
    (let s := (inPort .starting live).mapReq fun r => { r with table := [{ waitingCommit with wait := .motion ⟨false, false, false⟩ }] };
      TableSound s ∧ (s.powered = true ∧ s.motion.port = .starting ∧ s.motion.start = 0)) ∧
    (Admitted .cameraConfig (asking 65 ([4, 1] ++ b2 5) live) ∧ 3 < (byteAt (asked (asking 65 ([4, 1] ++ b2 5) live)).body 0).toNat) ∧
    (let s := asking 65 ([3, 1] ++ b2 1024) live;
      Admitted .cameraConfig s ∧ (LightsSound s ∧ ((byteAt (asked s).body 0).toNat = (3 : Camera).val ∧
        byteAt (asked s).body 1 ≠ 0 ∧ (s.motion.cams.get 3).state = .disabled))) ∧
    (let s := asking 65 ([0, 0] ++ b2 5) (camera0 .opened (some exposing) live);
      Admitted .cameraConfig s ∧ (LightsSound s ∧ (byteAt (asked s).body 1 = 0 ∧ (s.motion.cams.get 0).state ≠ .disabled))) ∧
    (let s := asking 65 ([0, 0] ++ b2 5) live;
      Admitted .cameraConfig s ∧ (LightsSound s ∧ (byteAt (asked s).body 1 = 0 ∧ (s.motion.cams.get 0).state = .disabled))) := by
  refine ⟨⟨?_, ?_⟩, ⟨?_, ?_⟩, ⟨?_, ?_⟩, ⟨?_, ?_⟩, ⟨?_, ?_, ?_⟩, ⟨?_, ?_, ?_⟩, ⟨?_, ?_, ?_⟩⟩ <;>
    first | exact admitted (by decide +kernel) | decide +kernel | exact lightsOk (by decide +kernel) |
      (unfold TableSound; decide +kernel)

/-- R67: the first refusing field is named. -/
theorem witness_MotionFields :
    (let body (gyro accel rate : Nat) (axes : List Byte) (k : Nat) : List Byte :=
      b2 gyro ++ leBytes 1 accel ++ b2 rate ++ axes ++ List.replicate 15 0 ++ leBytes 1 k ++ [1]
    [(body 251 3 501 [0, 0, 0] 9, Field.gyroRange), (body 250 3 501 [0, 0, 0] 9, .accelRange),
      (body 500 2 501 [0, 0, 0] 9, .sampleRate), (body 1000 4 1000 [2, 1, 2] 9, .axisMap),
      (body 2000 8 2000 [0, 1, 3] 9, .axisMap), (body 2000 16 500 [2, 1, 0] 0, .decimation),
      (body 2000 16 500 [2, 1, 0] 9, .decimation)].all fun x =>
    let s := asking 64 x.1 live
    admits .motionConfig s && s.motion.port == .off && told .motionConfig s == some (.field x.2)) = true := by decide +kernel

/-- A read in flight since tick 0, at tick `t`. -/
def reading (t : Nat) : State :=
  { inPort .running live with
    motion := { live.motion with port := .running, read := some ⟨0, 0⟩ }
    clock := { live.clock with tick := BitVec.ofNat 48 t } }

theorem witness_ImuReads :
    (live.powered = true ∧ live.motion.port ≠ .running) ∧
    ((inPort .running live).motion.port = .running ∧ (inPort .running live).motion.read = none ∧
      live.clock.edgeDone = false ∧ (live.mapClock fun c => { c with edgeDone := true }).clock.edgeDone = true) ∧
    ((reading 5).motion.read.isSome = true ∧ (reading 5).motion.edge = none) ∧
    ((reading 5).mapMotion fun m => { m with edge := some 3 }).motion.edge.isSome = true ∧
    ((reading 5).motion.read = some ⟨0, 0⟩ ∧ 7 ≤ (List.replicate 7 (0 : BitVec 16)).length ∧
      (List.replicate 6 (0 : BitVec 16)).length < 7) ∧
    (reading 5).motion.read.all (fun r => r.began != 3) = true ∧
    100 ≤ tickDiff (reading 100).now 0 ∧
    8 ≤ ((inPort .running live).mapMotion fun m => { m with failures := 8 }).motion.failures ∧
    (let s := live.mapMotion fun m => { m with ring := ring56, decimation := 1 };
      s.motion.ring = ring56.take 3 ++ [⟨1007500, ⟨120500, -10000, 0⟩, ⟨0, 0, 0⟩, 0⟩] ∧
        s.motion.config.decimation ≤ s.motion.decimation) := by decide +kernel

/-- R71: an answer that finds no read in flight is ignored, and so is one to another read than the one in flight. -/
theorem test_late_answer :
    after (.imuReadAnswer 0 ⟨true, List.replicate 7 0⟩) (inPort .running live) = inPort .running live ∧
    after (.imuReadAnswer 3 ⟨true, List.replicate 7 0⟩) (reading 50) = reading 50 := by decide +kernel

/-- A debounce run of `n` equal levels. -/
def levels (n : Nat) (active : Bool) : State := live.mapMotion fun m => { m with level := some active, levelRun := n }

theorem witness_WearDebounce :
    (LightsSound quiet ∧ quiet.now.toNat % 1000 ≠ 0) ∧
    (LightsSound (levels 15 true) ∧ (levels 15 true).powered = true ∧ (levels 15 true).now.toNat % 1000 = 0 ∧
      (levels 15 true).clock.proximityDone = false ∧ (levels 15 true).motion.wear ≠ .worn) ∧
    (LightsSound (levels 16 false) ∧ 16 ≤ (levels 16 false).motion.levelRun ∧ (levels 16 false).motion.level = some false ∧
      (levels 16 false).motion.wear ≠ .removed) :=
  ⟨⟨lightsOk (by decide +kernel), by decide +kernel⟩, ⟨lightsOk (by decide +kernel), by decide +kernel⟩,
    ⟨lightsOk (by decide +kernel), by decide +kernel⟩⟩

/-- A part awake with its panels on, the timeout 1 s and the sleep timer at `n`. -/
def drowsy (n : Nat) : State := (panels .on live).mapPower fun p => { p with timeout := 1, sleepTimer := some n }

/-- A part asleep. -/
def asleep : State := live.mapPower fun p => { p with asleep := true }

theorem witness_SleepAndPolicy :
    (LightsSound (drowsy 1000000) ∧ TableSound (drowsy 1000000) ∧ ((drowsy 1000000).powered = true ∧
      (drowsy 1000000).power.asleep = false ∧ 1 ≤ (drowsy 1000000).power.timeout ∧
      (drowsy 1000000).power.sleepTimer = some 1000000 ∧ (drowsy 1000000).power.timeout * 1000000 ≤ 1000000)) ∧
    (Admitted .powerPolicy (asking 97 (b2 601) live) ∧ 600 < (u16 (asked (asking 97 (b2 601) live)).body 0).toNat) ∧
    (LightsSound (asking 97 (b2 600) live) ∧ TableSound (asking 97 (b2 600) live) ∧
      Admitted .powerPolicy (asking 97 (b2 600) live) ∧
      ((u16 (asked (asking 97 (b2 600) live)).body 0).toNat ≤ 600 ∧ live.power.asleep = false ∧ live.power.sleepTimer = none)) ∧
    (LightsSound (asking 97 (b2 1) asleep) ∧ Admitted .powerPolicy (asking 97 (b2 1) asleep) ∧
      1 ≤ (u16 (asked (asking 97 (b2 1) asleep)).body 0).toNat) ∧
    (LightsSound (asking 97 (b2 0) asleep) ∧ Admitted .powerPolicy (asking 97 (b2 0) asleep) ∧
      (u16 (asked (asking 97 (b2 0) asleep)).body 0).toNat = 0) ∧
    (LightsSound (asking 97 (b2 1) (drowsy 1000000)) ∧ TableSound (asking 97 (b2 1) (drowsy 1000000)) ∧
      Admitted .powerPolicy (asking 97 (b2 1) (drowsy 1000000))) := by
  refine ⟨⟨?_, ?_, ?_⟩, ⟨?_, ?_⟩, ⟨?_, ?_, ?_, ?_⟩, ⟨?_, ?_, ?_⟩, ⟨?_, ?_, ?_⟩, ⟨?_, ?_, ?_⟩⟩ <;>
    first | exact admitted (by decide +kernel) | decide +kernel | exact lightsOk (by decide +kernel) |
      (unfold TableSound; decide +kernel)

theorem witness_ContractAndGrants :
    ((live.mapPower fun p => { p with contract := 699 }).available < 0) ∧
    (0 ≤ (live.mapPower fun p => { p with contract := 700 }).available) ∧
    (Admitted .powerContract (asking 96 (b2 499) live) ∧ (u16 (asked (asking 96 (b2 499) live)).body 0).toNat < 500) ∧
    (Admitted .powerContract (asking 96 (b2 15001) live) ∧ 15000 < (u16 (asked (asking 96 (b2 15001) live)).body 0).toNat) ∧
    (Admitted .powerContract (asking 96 (b2 500) live) ∧ (u16 (asked (asking 96 (b2 500) live)).body 0).toNat = 500) ∧
    (Admitted .powerContract (asking 96 (b2 15000) live) ∧ (u16 (asked (asking 96 (b2 15000) live)).body 0).toNat = 15000) := by
  refine ⟨?_, ?_, ⟨?_, ?_⟩, ⟨?_, ?_⟩, ⟨?_, ?_⟩, ⟨?_, ?_⟩⟩ <;> first | exact admitted (by decide +kernel) | decide +kernel

/-- A part in a brownout that has recovered for `n` samples. -/
def browned (n : Nat) : State :=
  { live with
    power := { live.power with brownout := true, highRun := n }
    disp := { live.disp with
      present := { live.disp.present with power := true }, latches := { live.disp.latches with power := true } } }

theorem witness_InputMonitor :
    (LightsSound live ∧ 8999 < 9000) ∧ (LightsSound quiet ∧ quiet.now.toNat % 100 ≠ 0) ∧
    (LightsSound live ∧ live.powered = true ∧ live.now.toNat % 100 = 0 ∧ live.clock.monitorDone = false ∧
      live.power.brownout = false) ∧
    (LightsSound (browned 100) ∧ (browned 100).power.brownout = true ∧ (browned 100).disp.present.power = true ∧
      (browned 100).disp.latches.power = true) ∧
    (let s := live.mapPower fun p => { p with lowRun := 3 };
      LightsSound s ∧ s.powered = true ∧ s.power.brownout = false ∧ 3 ≤ s.power.lowRun) ∧
    (LightsSound (browned 101) ∧ (browned 101).powered = true ∧ 101 ≤ (browned 101).power.highRun) := by
  refine ⟨⟨?_, ?_⟩, ⟨?_, ?_⟩, ⟨?_, ?_⟩, ⟨?_, ?_⟩, ⟨?_, ?_⟩, ⟨?_, ?_⟩⟩ <;>
    first | decide +kernel | exact lightsOk (by decide +kernel)

/-- A frame of one sample of `mw`, under a contract of 2,500 mW. -/
def sampled (mw : Nat) : Power := { live.power with sum := mw, count := 1 }

theorem witness_DerateLevel :
    live.power.count = 0 ∧
    (0 < (sampled 2501).count ∧ (sampled 2501).contract < (sampled 2501).sum / (sampled 2501).count) ∧
    ((sampled 2500).sum / (sampled 2500).count ≤ (sampled 2500).contract ∧
      (sampled 2376).contract * 95 < (sampled 2376).sum / (sampled 2376).count * 100) ∧
    ((sampled 2375).sum / (sampled 2375).count * 100 ≤ (sampled 2375).contract * 95) ∧
    (live.powered = true ∧ 4 ≤ (live.mapPower fun p => { p with overdraw := 4 }).power.overdraw) ∧
    16 ≤ (live.mapPower fun p => { p with recovery := 16 }).power.recovery := by decide +kernel

/-- Playback in a state. -/
def inPlay (p : Playback) (s : State) : State := s.mapAudio fun a => { a with playback := p }

theorem witness_AudioConfigStartStop :
    (Admitted .audioConfig (asking 80 [16, 4, 2, 7, 3, 4] (inPlay .muted live)) ∧ (inPlay .muted live).audio.playback ≠ .stopped) ∧
    (let q := asked (asking 80 [32, 4, 2, 7, 3, 4] live);
      Admitted .audioConfig (asking 80 [32, 4, 2, 7, 3, 4] live) ∧ (live.audio.playback = .stopped ∧ live.audio.capturing = false ∧
        (byteAt q.body 0).toNat ∈ [16, 24, 32] ∧ (byteAt q.body 1).toNat = 4 ∧
        ∀ i, i < 4 → 2 ≤ (byteAt q.body (2 + i)).toNat ∧ (byteAt q.body (2 + i)).toNat ≤ 7)) ∧
    Admitted .audioStart (asking 81 [] live) ∧ Admitted .audioStop (asking 82 [] live) ∧
    (Admitted .audioStop (asking 82 [] (inPlay .muting live)) ∧ (inPlay .muting live).audio.playback ≠ .stopped) := by
  refine ⟨⟨?_, ?_⟩, ⟨?_, ?_⟩, ?_, ?_, ⟨?_, ?_⟩⟩ <;> first | exact admitted (by decide +kernel) | decide +kernel

/-- R108: the first refusing field is named; slots of channels past the count are ignored. -/
theorem witness_AudioFields :
    ([([17, 0, 1, 1, 1, 1], Field.slotWidth), ([16, 0, 1, 1, 1, 1], .channelCount), ([16, 5, 2, 2, 2, 2], .channelCount),
      ([24, 2, 2, 8, 1, 1], .channelSlot 2), ([32, 4, 1, 8, 1, 1], .channelSlot 1), ([32, 4, 2, 7, 3, 1], .channelSlot 4)].all
    fun x =>
      let s := asking 80 x.1 live
      admits .audioConfig s && told .audioConfig s == some (.field x.2)) = true := by decide +kernel

theorem witness_VolumeMuteCapture :
    Admitted .audioVolume (asking 83 (leSigned 2 (-181)) live) ∧
    (Admitted .audioMute (asking 84 [1] live) ∧ byteAt (asked (asking 84 [1] live)).body 0 ≠ 0 ∧
      (asked (asking 84 [1] live)).body ≠ []) ∧
    (Admitted .audioMute (asking 84 [0] live) ∧ byteAt (asked (asking 84 [0] live)).body 0 = 0 ∧
      (asked (asking 84 [0] live)).body ≠ []) ∧
    Admitted .captureStart (asking 85 [] live) ∧
    (Admitted .captureStop (asking 86 [] (live.mapAudio fun a => { a with capturing := true })) ∧
      (live.mapAudio fun a => { a with capturing := true }).audio.capturing = true) ∧
    (Admitted .captureStop (asking 86 [] live) ∧ live.audio.capturing = false) := by
  refine ⟨?_, ⟨?_, ?_⟩, ⟨?_, ?_⟩, ?_, ⟨?_, ?_⟩, ⟨?_, ?_⟩⟩ <;> first | exact admitted (by decide +kernel) | decide +kernel

theorem witness_AudioBlocks :
    (live.powered = true ∧ live.link.state = .up ∧ parseBlock [0, 0, 0, 0] = none) ∧
    (parseBlock [9, 0, 1, 0, 1, 0, 0, 2, 0, 0] = some (9, [⟨1, 2⟩]) ∧ live.audio.playback = .stopped) ∧
    ((inPlay .priming live).audio.playback ≠ .stopped ∧ (inPlay .priming live).audio.playback ≠ .muted) := by decide +kernel

theorem witness_AudioBoundary : 180 ≤ 180 ∧ State.reset.powered = false ∧
    48 ≤ (live.mapAudio fun a => { a with cycles := 48 }).audio.cycles ∧
    (live.powered = true ∧ (live.mapAudio fun a => { a with cycles := 47 }).audio.cycles < 48) := by decide +kernel

/-- R115, R120: a sample in a slot of each width, and a slot's data back. -/
theorem test_slot_widths : [placeSample 16 (-2), placeSample 24 (-2), placeSample 32 0x123456] = [0xFFFF, 0xFFFFFE, 0x12345600] ∧
    [captureSample 16 0xFFFF1234, captureSample 24 0xFF123456, captureSample 32 0x12345678] = [0x123400, 0x123456, 0x123456] := by
  decide +kernel

theorem witness_AudioEvents :
    (live.powered = true ∧ live.now.toNat % 1000 = 0 ∧ live.clock.gainDone = false) ∧ live.audio.mute.codec = false ∧
    State.reset.powered = false ∧ 48 ≤ (live.mapAudio fun a => { a with recompute := 48 }).audio.recompute ∧
    (let s := (inPlay .muting live).mapAudio fun a => { a with ramp := 64 };
      s.powered = true ∧ s.audio.playback = .muting ∧ 64 ≤ s.audio.ramp) := by decide +kernel

/-- Section 7.8 with a POWER_CONTRACT of 6,000 mW in the intake and its command in the queue. -/
def dropping : State := (asking 96 (b2 6000) (computeGrants state78)).withPending [.powerContract]

theorem dropping_steps : step dropping = .next (after .powerContract (dropping.withPending [])) := rfl

theorem witness_ContractKept : WithinContract dropping ∧ ∃ t, step dropping = .next t ∧ t.power.contract = 6000 := by
  refine ⟨?_, _, dropping_steps, by decide +kernel⟩
  unfold WithinContract
  rw [if_pos (by decide +kernel)]
  decide +kernel

/-- The bank of section 1.8 with its commit in the queue. -/
def bankQueued : State := (asking 49 [] (inRun 5 (withBank live))).withPending [.timelineCommit]

theorem witness_GuardKept : GuardSound bankQueued ∧ ∃ t, step bankQueued = .next t ∧ t.tl.waiting ≠ none := by
  refine ⟨⟨?_, ?_⟩, after .timelineCommit (bankQueued.withPending []), rfl, by decide +kernel⟩
  · intro c e; cases e <;> revert c <;> decide +kernel
  · intro c h; exact absurd h (by rw [show bankQueued.tl.waiting = none from rfl]; exact nofun)

/-- A strobe window about to open at a grant. -/
def strobing : State :=
  { running 5000 (heads none none) with
    shift := { live.shift with latched := .both true }
    disp := { live.disp with
      present := .none, latches := .none, eyes := live.disp.eyes.map fun e => { e with panel := .on, bound := some head7 } }
    power := { live.power with strobe := .both ⟨800, 500, 200⟩ } }.withPending [.strobeWindowOpen .left]

theorem witness_LightsKept : LightsSound strobing ∧
    ∃ t, step strobing = .next t ∧ (t.disp.eyes.get .left).drive = 500 :=
  ⟨lightsOk (by decide +kernel), after (.strobeWindowOpen .left) (strobing.withPending []), rfl, by decide +kernel⟩

theorem witness_QueuesKept : QueuesBounded dropping ∧ EventsDistinct dropping ∧ TableSound dropping ∧
    ∃ t, step dropping = .next t ∧ t.req.events ≠ [] := by
  refine ⟨?_, ?_, ?_, _, dropping_steps, by decide +kernel⟩
  · unfold QueuesBounded; decide +kernel
  · unfold EventsDistinct; decide +kernel
  · unfold TableSound; decide +kernel

/-- R172, R156: an event of a queued kind and source, and of no queued one; a record offered at 32. -/
theorem witness_Queueing :
    let e : Event := ⟨.eye .left, .videoStall 3, 255, 5, 6⟩
    let o : Event := ⟨.eye .right, .videoStall 3, 1, 5, 6⟩
    (withEvent true (.eye .left) (.videoStall 4) 9 { live.req with events := [o, e, ⟨.timebase, .linkHold 0, 1, 5, 6⟩] }).events =
      [o, ⟨.eye .left, .videoStall 4, 255, 5, 9⟩, ⟨.timebase, .linkHold 0, 1, 5, 6⟩] ∧
    (withEvent true (.eye .left) (.videoStall 4) 9 { live.req with events := [o] }).events =
      [o, ⟨.eye .left, .videoStall 4, 1, 9, 9⟩] ∧
    (let l := { live.link with reports := List.replicate 32 aReport, tallies := ⟨4294967295, 7, 7⟩ };
      l.offer aReport = l ∧ (l.offer (.exposure ⟨0, 1, 2, 3, none, 0, false, false, false, false⟩)).tallies = ⟨4294967295, 8, 7⟩) := by
  decide +kernel

/-- A part at tick 9 with a sample of tick 3, a read of tick 5, a pending edge of tick 8 and a captured frame of tick 7, whose
read is about to be answered. -/
def sampling : State :=
  ({ inPort .running live with
    motion := { live.motion with
      port := .running, ring := [⟨3, ⟨0, 0, 0⟩, ⟨0, 0, 0⟩, 0⟩], read := some ⟨5, 6⟩, edge := some 8 }
    audio := { live.audio with captured := [⟨7, [1]⟩], cycles := 600 }
    clock := { live.clock with tick := 9 } }).withPending [.imuReadAnswer 6 ⟨true, List.replicate 7 0⟩]

theorem rising_of (l : List Tick) (now : Tick)
    (h : (∀ i, i < l.length → 0 < tickDiff (l.getD (i + 1) (l.getD i 0 + 1)) (l.getD i 0)) ∧
      (l.all fun x => decide (0 ≤ tickDiff now x)) = true) : Rising l now := by
  refine ⟨fun i a b ha hb => ?_, by simpa using h.2⟩
  obtain ⟨hi, rfl⟩ := List.getElem?_eq_some_iff.mp ha
  have := h.1 i hi
  simpa [hb, ha] using this

theorem recent_of (l : List Tick) (now : Tick) (h : (l.all fun x => decide (tickDiff now x < 140737488355327)) = true) :
    Recent l now := by simpa [Recent] using h

theorem witness_RingsRise : (SamplesRise sampling ∧ Recent (edgeTicks sampling.motion) sampling.now) ∧
    (CaptureRises sampling ∧ Recent (sampling.audio.captured.map CaptureFrame.tick) sampling.now) ∧
    ∃ t, step sampling = .next t ∧ t.motion.ring.length = 2 := by
  refine ⟨⟨⟨rising_of _ _ (by decide +kernel), by decide +kernel, by decide +kernel⟩, ?_⟩,
    ⟨⟨rising_of _ _ (by decide +kernel), by decide +kernel, by decide +kernel⟩, ?_⟩,
    after (.imuReadAnswer 6 ⟨true, List.replicate 7 0⟩) (sampling.withPending []), rfl, by decide +kernel⟩ <;>
  exact recent_of _ _ (by decide +kernel)

theorem witness_SettingsKept : RateSound bankQueued ∧ RangesSound bankQueued ∧ StoresSound bankQueued ∧ ShiftSound bankQueued ∧
    ∃ t, step bankQueued = .next t := by
  refine ⟨?_, ?_, ?_, ?_, _, rfl⟩
  · unfold RateSound; decide +kernel
  · refine ⟨by decide +kernel, by decide +kernel, by decide +kernel, by decide +kernel, by decide +kernel, ?_, by decide +kernel,
      by decide +kernel⟩
    intro e; cases e <;> decide +kernel
  · unfold StoresSound; decide +kernel
  · intro e; cases e <;> (unfold withinMargins; decide +kernel)

/-- A slot sent, its records and a reply: what the statement of the lane's bytes asks of them. -/
theorem witness_LaneBytes :
    (let x : Slot := ⟨15, .sensor, .reports [⟨aReport, 5, false, .coarse, 0⟩]⟩;
      x.number < 16 ∧ x.content.bytes.length ≤ 120) ∧ aReply.length ≤ 112 ∧
    (∃ r, aReport = .sensor r) ∧
    (let c : CaptureBlock := ⟨5, 1, [[7]], 0, 5, false, .coarse⟩;
      1 ≤ c.channels ∧ c.channels ≤ 4 ∧ ∀ f ∈ c.frames, f.length = c.channels) ∧
    (live.powered = true ∧ live.now.toNat % 250 = 0 ∧ live.clock.superframeDone = false ∧
      exec .superframeStart live = .next (after .superframeStart live)) ∧
    (let s := slotNow 15 live;
      s.powered = true ∧ s.link.nextSlot < 16 ∧
      (slotOffset s.link.nextSlot : Int) ≤ tickDiff s.now s.link.superframeTick ∧
      exec .upstreamSlot s = .next (after .upstreamSlot s)) :=
  ⟨by decide +kernel, by decide +kernel, ⟨_, rfl⟩, by decide +kernel, ⟨by decide +kernel, by decide +kernel, by decide +kernel,
    rfl⟩, by decide +kernel, by decide +kernel, by decide +kernel, rfl⟩

/-- Section 10.4: an EVENT record of IMU_FAULT, source Motion Hub, seen three times. -/
theorem test_event_bytes : eventBytes ⟨.motionHub, .imuFault .malformed 8 .failed, 3, 0x010203040506, 0x010203040507⟩ =
    [13, 6, 3, 0, 6, 5, 4, 3, 2, 1, 7, 5, 4, 3, 2, 1, 2, 8, 3, 0, 0, 0, 0, 0] := by decide +kernel

theorem witness_PacketsDecode :
    (WellFormed.check (.timeMark 7 [1, 2]) = true ∧ ∃ bytes, Packet.encode (.timeMark 7 [1, 2]) = some bytes) ∧
    (1 : BitVec 32) ≠ crc32 [5, 0, 0, 0] := ⟨⟨by decide, _, rfl⟩, by decide +kernel⟩

/-- Packets of good size and CRC-32 with a class outside the table and with a VIDEO subtype outside it, and one a byte too
long for its length field (R149, R178). -/
theorem test_packets_outside_the_table :
    Packet.decode 0 (Packet.frame 6 0 [1]) = .unknownClassPacket ∧
    Packet.decode 0 (Packet.frame 1 3 [1]) = .malformedVideoPacket ∧
    Packet.decode 0 (Packet.frame 5 0 [1] ++ [0]) = .badPacket := by decide +kernel

end Sys2Proof.Tests
end

section
/-! PROOFS. Pieces and guard trimming of a commit. -/
namespace Sys2Proof.Machine
open Sys2Proof

/-! ## Pieces of a counter range (R9) -/

/-- The instants of a piece that lie outside a span. -/
def Piece.avoids (span p : Piece) : Prop := ∀ n : Int, p.1 ≤ n → n < p.2 → n < span.1 ∨ span.2 ≤ n

/-- A piece lies within another. -/
def Piece.within (p q : Piece) : Prop := q.1 ≤ p.1 ∧ p.2 ≤ q.2

theorem mem_cutPiece {span p q : Piece} :
    q ∈ cutPiece span p ↔ q.1 < q.2 ∧ (q = (p.1, min p.2 span.1) ∨ q = (max p.1 span.2, p.2)) := by
  simp only [cutPiece, List.mem_filter, List.mem_cons, List.not_mem_nil, or_false, decide_eq_true_eq]
  tauto

theorem cutPiece_within {span p q : Piece} (h : q ∈ cutPiece span p) : q.within p ∧ q.1 < q.2 := by
  obtain ⟨hlt, rfl | rfl⟩ := mem_cutPiece.1 h <;> simp only [Piece.within] at * <;> omega

theorem cutPiece_avoids {span p q : Piece} (h : q ∈ cutPiece span p) : q.2 ≤ span.1 ∨ span.2 ≤ q.1 := by
  obtain ⟨-, rfl | rfl⟩ := mem_cutPiece.1 h
  · exact .inl (min_le_right _ _)
  · exact .inr (le_max_right _ _)

/-- A piece that avoids a span lies in one of the pieces the cut leaves. -/
theorem exists_cutPiece {span p x : Piece} (hs : span.1 < span.2) (hx : x.1 < x.2) (hw : x.within p)
    (ha : Piece.avoids span x) : ∃ q ∈ cutPiece span p, x.within q := by
  obtain ⟨h1, h2⟩ := hw
  by_cases hlo : x.1 < span.1
  · have hhi : x.2 ≤ span.1 := by
      by_contra hn
      have := ha span.1 (by omega) (by omega)
      omega
    exact ⟨_, mem_cutPiece.2 ⟨by simp only []; omega, .inl rfl⟩, by simp only [Piece.within]; omega⟩
  · have := ha x.1 le_rfl hx
    exact ⟨_, mem_cutPiece.2 ⟨by simp only []; omega, .inr rfl⟩, by simp only [Piece.within]; omega⟩

/-- Pieces in rising order, none overlapping the next. -/
def Apart (ps : List Piece) : Prop := ps.Pairwise fun a b => a.2 ≤ b.1

theorem cutPiece_apart (span p : Piece) (hs : span.1 < span.2) : Apart (cutPiece span p) := by
  refine List.Pairwise.filter _ ?_
  simp only [List.pairwise_cons, List.mem_singleton, forall_eq, List.not_mem_nil, false_imp_iff, implies_true,
    List.Pairwise.nil, and_true]
  omega

/-- A span that, where there is one, is not empty. -/
def properSpan (span : Option Piece) : Prop := ∀ x, span = some x → x.1 < x.2

theorem cutPieces_within {span : Option Piece} {ps : List Piece} {q : Piece} (hps : ∀ p ∈ ps, p.1 < p.2)
    (h : q ∈ cutPieces span ps) : (∃ p ∈ ps, q.within p) ∧ q.1 < q.2 := by
  cases span with
  | none => exact ⟨⟨q, h, le_rfl, le_rfl⟩, hps q h⟩
  | some x =>
    obtain ⟨p, hp, hq⟩ := List.mem_flatMap.1 h
    exact ⟨⟨p, hp, (cutPiece_within hq).1⟩, (cutPiece_within hq).2⟩

theorem cutPieces_avoids {x : Piece} {ps : List Piece} {q : Piece} (h : q ∈ cutPieces (some x) ps) :
    q.2 ≤ x.1 ∨ x.2 ≤ q.1 := by
  obtain ⟨p, -, hq⟩ := List.mem_flatMap.1 h
  exact cutPiece_avoids hq

theorem exists_cutPieces {span : Option Piece} {ps : List Piece} {x : Piece} (hs : properSpan span) (hx : x.1 < x.2)
    (hw : ∃ p ∈ ps, x.within p) (ha : ∀ y, span = some y → Piece.avoids y x) : ∃ q ∈ cutPieces span ps, x.within q := by
  cases span with
  | none => exact hw
  | some y =>
    obtain ⟨p, hp, hxp⟩ := hw
    obtain ⟨q, hq, hxq⟩ := exists_cutPiece (hs y rfl) hx hxp (ha y rfl)
    exact ⟨q, List.mem_flatMap.2 ⟨p, hp, hq⟩, hxq⟩

theorem cutPieces_apart {span : Option Piece} {ps : List Piece} (hs : properSpan span) (h : Apart ps) :
    Apart (cutPieces span ps) := by
  cases span with
  | none => exact h
  | some y =>
    refine List.pairwise_flatMap.2 ⟨fun p _ => cutPiece_apart y p (hs y rfl), h.imp fun {a b} hab => ?_⟩
    intro p hp q hq
    obtain ⟨⟨-, h1⟩, -⟩ := cutPiece_within hp
    obtain ⟨⟨h2, -⟩, -⟩ := cutPiece_within hq
    omega

/-! ## The longest piece (R9) -/

theorem longestPiece_eq_none {ps : List Piece} : longestPiece ps = none ↔ ps = [] := by
  cases ps with
  | nil => simp [longestPiece]
  | cons p rest =>
    simp only [longestPiece, reduceCtorEq, iff_false]
    split
    · split <;> simp
    · simp

/-- The longest piece is one of the pieces, none is longer, and none as long comes before it. -/
theorem longestPiece_spec : ∀ {ps : List Piece} {p : Piece}, longestPiece ps = some p →
    ∃ before after, ps = before ++ p :: after ∧ (∀ q ∈ before, q.2 - q.1 < p.2 - p.1) ∧
      ∀ q ∈ after, q.2 - q.1 ≤ p.2 - p.1
  | x :: rest, p, h => by
    simp only [longestPiece] at h
    split at h
    next q hq =>
      obtain ⟨before, after, hr, hb, ha⟩ := longestPiece_spec hq
      split at h <;> cases h
      next hlt => exact ⟨x :: before, after, by rw [hr]; rfl, List.forall_mem_cons.2 ⟨hlt, hb⟩, ha⟩
      next hge =>
        refine ⟨[], rest, rfl, by simp, fun y hy => ?_⟩
        rw [hr, List.mem_append, List.mem_cons] at hy
        rcases hy with hy | rfl | hy
        · have := hb y hy; omega
        · omega
        · have := ha y hy; omega
    next hn => cases h; exact ⟨[], rest, rfl, by simp, by simp [longestPiece_eq_none.1 hn]⟩

/-- Of pieces in rising order none is longer than the longest, and none as long starts before it. -/
theorem longestPiece_best {ps : List Piece} {p q : Piece} (hs : Apart ps) (hlt : ∀ x ∈ ps, x.1 < x.2)
    (h : longestPiece ps = some p) (hq : q ∈ ps) : q.2 - q.1 ≤ p.2 - p.1 ∧ (q.2 - q.1 = p.2 - p.1 → p.1 ≤ q.1) := by
  obtain ⟨before, after, rfl, hb, ha⟩ := longestPiece_spec h
  rcases List.mem_append.1 hq with hm | hm
  · have := hb q hm; omega
  · rcases List.mem_cons.1 hm with rfl | hm
    · simp
    · have hpq : p.2 ≤ q.1 := List.rel_of_pairwise_cons (List.pairwise_append.1 hs).2.1 hm
      have := ha q hm
      have := hlt p (by simp)
      omega

theorem longestPiece_mem {ps : List Piece} {p : Piece} (h : longestPiece ps = some p) : p ∈ ps := by
  obtain ⟨before, after, rfl, -, -⟩ := longestPiece_spec h
  simp

/-! ## Guard trimming (R9) -/

/-- The pieces of a window outside the guarded spans of both strobes. -/
def trimPieces (guard : Nat) (strobe : PerEye Window) (w : Window) : List Piece :=
  cutPieces (guardedSpan guard strobe.right) (cutPieces (guardedSpan guard strobe.left) [((w.start : Int), (w.stop : Int))])

/-- An enabled window has a width. -/
def Window.proper (w : Window) : Prop := w.on = true → w.start < w.stop

theorem trimExposure_off {guard : Nat} {strobe : PerEye Window} {w : Window} (h : w.on = false) :
    trimExposure guard strobe w = (w, .unchanged) := by simp [trimExposure, h]

/-- What guard trimming makes of an enabled window, by the longest piece left. -/
theorem trimExposure_on {guard : Nat} {strobe : PerEye Window} {w : Window} (h : w.on = true) :
    trimExposure guard strobe w =
      match longestPiece (trimPieces guard strobe w) with
      | none => (⟨false, w.start, w.stop⟩, .removed)
      | some p => if p = ((w.start : Int), (w.stop : Int)) then (w, .unchanged)
          else (⟨true, p.1.toNat, p.2.toNat⟩, .shortened) := by
  rw [trimExposure, if_pos h]
  rfl

/-- The piece keeps the guard of every enabled strobe. -/
def Piece.guarded (guard : Nat) (strobe : PerEye Window) (q : Piece) : Prop :=
  ∀ e, (strobe.get e).on = true → q.2 ≤ (strobe.get e).start - (guard : Int) ∨ ((strobe.get e).stop : Int) + guard ≤ q.1

theorem cutPieces_guarded {guard : Nat} {w : Window} {ps : List Piece} {q : Piece} (hw : w.on = true)
    (h : q ∈ cutPieces (guardedSpan guard w) ps) : q.2 ≤ w.start - (guard : Int) ∨ (w.stop : Int) + guard ≤ q.1 := by
  rw [guardedSpan, if_pos hw] at h
  exact cutPieces_avoids h

theorem trimPieces_sound {guard : Nat} {strobe : PerEye Window} {w : Window} (hw : w.start < w.stop) {q : Piece}
    (h : q ∈ trimPieces guard strobe w) :
    q.within ((w.start : Int), (w.stop : Int)) ∧ q.1 < q.2 ∧ q.guarded guard strobe := by
  have hwhole : ∀ p ∈ [((w.start : Int), (w.stop : Int))], p.1 < p.2 := by simpa using hw
  obtain ⟨⟨p, hp, hqp⟩, hlt⟩ :=
    cutPieces_within (fun p hp => (cutPieces_within hwhole hp).2) h
  obtain ⟨⟨x, hx, hpx⟩, -⟩ := cutPieces_within hwhole hp
  rw [List.mem_singleton] at hx
  subst hx
  simp only [Piece.within] at hqp hpx ⊢
  refine ⟨⟨by omega, by omega⟩, hlt, fun e he => ?_⟩
  cases e with
  | left => have := cutPieces_guarded he hp; simp only [PerEye.get] at this ⊢; omega
  | right => exact cutPieces_guarded he h

theorem guardedSpan_proper {guard : Nat} {w : Window} (h : w.proper) : properSpan (guardedSpan guard w) := by
  intro x hx
  unfold guardedSpan at hx
  split at hx
  next ho => cases hx; have := h ho; simp only []; omega
  next => cases hx

theorem trimPieces_apart {guard : Nat} {strobe : PerEye Window} (h : ∀ e, (strobe.get e).proper) (w : Window) :
    Apart (trimPieces guard strobe w) :=
  cutPieces_apart (guardedSpan_proper (h .right))
    (cutPieces_apart (guardedSpan_proper (h .left)) (List.pairwise_singleton _ _))

/-- A piece of the window that keeps the guard lies in one of the pieces left. -/
theorem exists_trimPieces {guard : Nat} {strobe : PerEye Window} (h : ∀ e, (strobe.get e).proper) {w : Window} {x : Piece}
    (hx : x.1 < x.2) (hw : x.within ((w.start : Int), (w.stop : Int)))
    (ha : ∀ e y, guardedSpan guard (strobe.get e) = some y → Piece.avoids y x) :
    ∃ q ∈ trimPieces guard strobe w, x.within q :=
  exists_cutPieces (guardedSpan_proper (h .right)) hx
    (exists_cutPieces (guardedSpan_proper (h .left)) hx ⟨_, List.mem_singleton.2 rfl, hw⟩ (ha .left)) (ha .right)

/-- An exposure that is enabled after trimming keeps the guard of every enabled strobe (R9). -/
theorem trimExposure_guarded {guard : Nat} {strobe : PerEye Window} {w : Window} (hw : w.proper)
    (hon : (trimExposure guard strobe w).1.on = true) (e : Eye) (he : (strobe.get e).on = true) :
    ((trimExposure guard strobe w).1.stop : Int) ≤ ((strobe.get e).start : Int) - guard ∨
      (strobe.get e).stop + guard ≤ (trimExposure guard strobe w).1.start := by
  cases ho : w.on with
  | false => rw [trimExposure_off ho, ho] at hon; cases hon
  | true =>
    rw [trimExposure_on ho] at hon ⊢
    cases hl : longestPiece (trimPieces guard strobe w) with
    | none => rw [hl] at hon; cases hon
    | some p =>
      obtain ⟨⟨h1, h2⟩, hlt, hg⟩ := trimPieces_sound (hw ho) (longestPiece_mem hl)
      have := hg e he
      simp only [] at h1 h2 ⊢
      split
      next hp => subst hp; simp only [] at *; omega
      next => simp only []; omega

/-! ## Clamps and moves (R8) -/

theorem zeroClamp_proper (x : Flagged) : (zeroClamp x).1.proper := by
  unfold zeroClamp Window.proper
  split
  · simp
  · intro h; simp_all

theorem clampChannel_proper (period : Nat) (w : Window) : (clampChannel period w).1.proper := zeroClamp_proper _

theorem moveStrobe_proper (scan : Window) {x : Flagged} (hx : x.1.proper) : (moveStrobe scan x).1.proper := by
  unfold moveStrobe
  split
  · exact zeroClamp_proper _
  · exact hx

/-- What a commit makes of an exposure: clamped, then trimmed by the strobes it leaves (R8, R9). -/
theorem commitOf_expose (b : Bank) (lead : Nat) (k : Camera) :
    ((commitOf b lead).windows.expose.get k, (commitOf b lead).trims.get k) =
      trimExposure b.guard (commitOf b lead).windows.strobe (clampChannel b.period (b.win.expose.get k)).1 := by
  match k with
  | 0 | 1 | 2 | 3 => rfl

theorem commitOf_strobe (b : Bank) (lead : Nat) (e : Eye) :
    ((commitOf b lead).windows.strobe.get e, (commitOf b lead).strobeFlags.get e) =
      moveStrobe ((commitOf b lead).windows.scan.get e) (clampChannel b.period (b.win.strobe.get e)) := by
  cases e <;> rfl

theorem commitOf_scan (b : Bank) (lead : Nat) (e : Eye) :
    ((commitOf b lead).windows.scan.get e, (commitOf b lead).scanFlags.get e) =
      clampChannel b.period (b.win.scan.get e) := by
  cases e <;> rfl

/-- The windows a commit computes keep the guard of its bank (R9). -/
theorem commitOf_guarded (b : Bank) (lead : Nat) : Guarded (commitOf b lead).windows b.guard := by
  intro k e hk he
  have hx := congrArg Prod.fst (commitOf_expose b lead k)
  simp only [] at hx
  rw [hx] at hk ⊢
  exact trimExposure_guarded (clampChannel_proper _ _) hk e he

end Sys2Proof.Machine
end

section
namespace Sys2Proof.Machine
open Sys2Proof

/-- The end of a window after the end clamp (R8 step 1). -/
def clampedStop (period : Nat) (w : Window) : Nat := if w.on then min w.stop (period - 20) else w.stop

/-- The end of a window is clamped (R8 step 1). -/
def endIsClamped (period : Nat) (w : Window) : Bool := w.on && decide (period - 20 < w.stop)

theorem clampChannel_off {period : Nat} {w : Window} (h : w.on = false) : clampChannel period w = (w, .none) := by
  simp [clampChannel, endClamp, zeroClamp, h]

theorem endClamp_on {period : Nat} {w : Window} (h : w.on = true) :
    endClamp period w = (⟨true, w.start, clampedStop period w⟩, ⟨endIsClamped period w, false, false⟩) := by
  obtain ⟨on, start, stop⟩ := w
  subst h
  simp only [endClamp, clampedStop, endIsClamped, ClampFlags.none, true_and, if_true, Bool.true_and]
  split
  next hlt => rw [min_eq_right hlt.le, decide_eq_true hlt]
  next hge => rw [min_eq_left (not_lt.1 hge), decide_eq_false hge]

/-- An enabled channel that keeps a width after the end clamp. -/
theorem clampChannel_wide {period : Nat} {w : Window} (h : w.on = true) (hw : w.start < clampedStop period w) :
    clampChannel period w = (⟨true, w.start, clampedStop period w⟩, ⟨endIsClamped period w, false, false⟩) := by
  rw [clampChannel, endClamp_on h, zeroClamp, if_neg]
  simp only [not_and, not_le]
  exact fun _ => hw

/-- An enabled channel that the end clamp leaves without a width is disabled. -/
theorem clampChannel_narrow {period : Nat} {w : Window} (h : w.on = true) (hw : clampedStop period w ≤ w.start) :
    clampChannel period w = (⟨false, w.start, clampedStop period w⟩, ⟨endIsClamped period w, true, false⟩) := by
  rw [clampChannel, endClamp_on h, zeroClamp, if_pos ⟨rfl, hw⟩]

/-- An enabled window has a width and ends at or before P − 20 (R8). -/
def Window.sound (period : Nat) (w : Window) : Prop := w.on = true → w.start < w.stop ∧ w.stop ≤ period - 20

theorem clampChannel_sound (period : Nat) (w : Window) : (clampChannel period w).1.sound period := by
  intro hon
  refine ⟨clampChannel_proper period w hon, ?_⟩
  cases h : w.on with
  | false => rw [clampChannel_off h, h] at hon; cases hon
  | true =>
    rcases lt_or_ge w.start (clampedStop period w) with hw | hw
    · rw [clampChannel_wide h hw]; simp [clampedStop, h]
    · rw [clampChannel_narrow h hw] at hon; cases hon

theorem moveStrobe_stay {scan : Window} {x : Flagged} (h : scan.on = false ∨ x.1.on = false ∨ scan.stop ≤ x.1.start) :
    moveStrobe scan x = x := by
  rw [moveStrobe, if_neg]
  rintro ⟨h1, h2, h3⟩
  rcases h with h | h | h
  · rw [h1] at h; cases h
  · rw [h2] at h; cases h
  · omega

/-- A strobe that starts before the scan's end starts there, and is disabled where that leaves it no width (R8 step 3). -/
theorem moveStrobe_moved {scan w : Window} {f : ClampFlags} (hs : scan.on = true) (hw : w.on = true)
    (h : w.start < scan.stop) : moveStrobe scan (w, f) =
      if w.stop ≤ scan.stop then (⟨false, scan.stop, w.stop⟩, ⟨f.endClamped, true, true⟩)
      else (⟨true, scan.stop, w.stop⟩, ⟨f.endClamped, f.zeroWidth, true⟩) := by
  obtain ⟨on, start, stop⟩ := w
  subst hw
  rw [moveStrobe, if_pos ⟨hs, rfl, h⟩]
  simp only [zeroClamp, true_and]

theorem moveStrobe_sound {period : Nat} (scan : Window) {x : Flagged} (hx : x.1.sound period) :
    (moveStrobe scan x).1.sound period := by
  intro hon
  refine ⟨moveStrobe_proper scan (fun h => (hx h).1) hon, ?_⟩
  obtain ⟨w, f⟩ := x
  by_cases h : scan.on = true ∧ w.on = true ∧ w.start < scan.stop
  · obtain ⟨h1, h2, h3⟩ := h
    rw [moveStrobe_moved h1 h2 h3] at hon ⊢
    split
    · next hle => rw [if_pos hle] at hon; cases hon
    · exact (hx h2).2
  · rw [moveStrobe, if_neg h] at hon ⊢
    exact (hx hon).2

/-- A strobe enabled after the move starts at or after its scan's end (R8 step 3). -/
theorem moveStrobe_after {scan : Window} {x : Flagged} (hs : scan.on = true) (hon : (moveStrobe scan x).1.on = true) :
    scan.stop ≤ (moveStrobe scan x).1.start := by
  obtain ⟨w, f⟩ := x
  by_cases h : w.on = true ∧ w.start < scan.stop
  · rw [moveStrobe_moved hs h.1 h.2] at hon ⊢
    split <;> exact le_rfl
  · rw [moveStrobe, if_neg (fun hc => h hc.2)] at hon ⊢
    exact not_lt.1 fun hlt => h ⟨hon, hlt⟩

theorem trimExposure_sound {period guard : Nat} (strobe : PerEye Window) {w : Window} (hw : w.sound period) :
    (trimExposure guard strobe w).1.sound period := by
  intro hon
  cases h : w.on with
  | false => rw [trimExposure_off h, h] at hon; cases hon
  | true =>
    rw [trimExposure_on h] at hon ⊢
    have hww := hw h
    cases hl : longestPiece (trimPieces guard strobe w) with
    | none => rw [hl] at hon; cases hon
    | some p =>
      obtain ⟨⟨h1, h2⟩, hlt, -⟩ := trimPieces_sound hww.1 (longestPiece_mem hl)
      simp only [] at h1 h2 ⊢
      split
      · exact hww
      · simp only []; omega

/-! ## The pieces left, in counter values (R9) -/

/-- A counter value outside the guarded spans of the enabled strobes. -/
def Spared (guard : Nat) (strobe : PerEye Window) (n : Nat) : Prop :=
  ∀ e, (strobe.get e).on = true →
    (n : Int) < ((strobe.get e).start : Int) - guard ∨ (strobe.get e).stop + guard ≤ n

/-- A range of counter values of a window, not empty and outside the guarded spans. -/
def FreeRange (guard : Nat) (strobe : PerEye Window) (w : Window) (lo hi : Nat) : Prop :=
  w.start ≤ lo ∧ lo < hi ∧ hi ≤ w.stop ∧ ∀ n, lo ≤ n → n < hi → Spared guard strobe n

section
variable {guard : Nat} {strobe : PerEye Window} {w : Window}

theorem FreeRange.avoids {lo hi : Nat} (h : FreeRange guard strobe w lo hi) (e : Eye) (y : Piece)
    (hy : guardedSpan guard (strobe.get e) = some y) : Piece.avoids y ((lo : Int), (hi : Int)) := by
  unfold guardedSpan at hy
  split at hy
  next ho =>
    cases hy
    intro n h1 h2
    have := h.2.2.2 n.toNat (by simp only [] at h1; omega) (by simp only [] at h2; omega) e ho
    simp only [] at *
    omega
  next => cases hy

/-- A free range lies in one of the pieces that the cuts leave. -/
theorem FreeRange.exists_piece (hs : ∀ e, (strobe.get e).proper) {lo hi : Nat} (h : FreeRange guard strobe w lo hi) :
    ∃ q ∈ trimPieces guard strobe w, q.1 ≤ lo ∧ (hi : Int) ≤ q.2 := by
  obtain ⟨h1, h2, h3, -⟩ := id h
  exact exists_trimPieces hs (x := ((lo : Int), (hi : Int))) (by simp only []; omega)
    (by simp only [Piece.within]; omega) h.avoids

/-- Each piece that the cuts leave is a free range. -/
theorem freeRange_of_piece (hw : w.start < w.stop) {q : Piece} (hq : q ∈ trimPieces guard strobe w) :
    FreeRange guard strobe w q.1.toNat q.2.toNat := by
  obtain ⟨⟨h1, h2⟩, hlt, hg⟩ := trimPieces_sound hw hq
  simp only [] at h1 h2
  refine ⟨by omega, by omega, by omega, fun n hn1 hn2 e he => ?_⟩
  have := hg e he
  omega

theorem trimExposure_unchanged (hs : ∀ e, (strobe.get e).proper) (hon : w.on = true) (hw : w.start < w.stop)
    (h : FreeRange guard strobe w w.start w.stop) : trimExposure guard strobe w = (w, .unchanged) := by
  obtain ⟨q, hq, h1, h2⟩ := h.exists_piece hs
  rw [trimExposure_on hon]
  cases hl : longestPiece (trimPieces guard strobe w) with
  | none => rw [longestPiece_eq_none.1 hl] at hq; cases hq
  | some p =>
    obtain ⟨⟨h3, h4⟩, -, -⟩ := trimPieces_sound hw (longestPiece_mem hl)
    have := (longestPiece_best (trimPieces_apart hs w) (fun x hx => (trimPieces_sound hw hx).2.1) hl hq).1
    simp only [] at h3 h4 ⊢
    rw [if_pos (Prod.ext (by simp only []; omega) (by simp only []; omega))]

theorem trimExposure_removed (hon : w.on = true) (hw : w.start < w.stop)
    (h : ∀ lo hi, ¬ FreeRange guard strobe w lo hi) :
    trimExposure guard strobe w = (⟨false, w.start, w.stop⟩, .removed) := by
  rw [trimExposure_on hon]
  cases hl : longestPiece (trimPieces guard strobe w) with
  | none => rfl
  | some p => exact absurd (freeRange_of_piece hw (longestPiece_mem hl)) (h _ _)

theorem trimExposure_shortened (hs : ∀ e, (strobe.get e).proper) (hon : w.on = true) (hw : w.start < w.stop)
    (hn : ¬ FreeRange guard strobe w w.start w.stop) (h : ∃ lo hi, FreeRange guard strobe w lo hi) :
    ∃ a b, trimExposure guard strobe w = (⟨true, a, b⟩, .shortened) ∧ FreeRange guard strobe w a b ∧
      ∀ lo hi, FreeRange guard strobe w lo hi → hi - lo ≤ b - a ∧ (hi - lo = b - a → a ≤ lo) := by
  obtain ⟨lo, hi, hf⟩ := h
  obtain ⟨q, hq, -⟩ := hf.exists_piece hs
  rw [trimExposure_on hon]
  cases hl : longestPiece (trimPieces guard strobe w) with
  | none => rw [longestPiece_eq_none.1 hl] at hq; cases hq
  | some p =>
    have hfree := freeRange_of_piece hw (longestPiece_mem hl)
    have hp : p ≠ ((w.start : Int), (w.stop : Int)) := by
      rintro rfl
      exact hn (by simpa using hfree)
    refine ⟨p.1.toNat, p.2.toNat, by simp only [if_neg hp], hfree, fun a b hab => ?_⟩
    obtain ⟨x, hx, h1, h2⟩ := hab.exists_piece hs
    have hbest := longestPiece_best (trimPieces_apart hs w) (fun x hx => (trimPieces_sound hw hx).2.1) hl hx
    obtain ⟨⟨h3, -⟩, h4, -⟩ := trimPieces_sound hw (longestPiece_mem hl)
    obtain ⟨-, h5, -⟩ := hab
    simp only [] at h3
    omega

end

/-! ## What a commit computes -/

section
variable {b : Bank} {lead : Nat}

theorem commitOf_strobe_proper (e : Eye) : ((commitOf b lead).windows.strobe.get e).proper := by
  have h := congrArg Prod.fst (commitOf_strobe b lead e)
  simp only [] at h
  rw [h]
  exact moveStrobe_proper _ (clampChannel_proper _ _)

/-- The outcome of a commit for an exposure: its window, its trim and its clamp flags. -/
theorem commitOf_expose_outcome {k : Camera} {x : Flagged} {y : Window × Trim}
    (hx : clampChannel b.period (b.win.expose.get k) = x)
    (hy : trimExposure b.guard (commitOf b lead).windows.strobe x.1 = y) :
    (commitOf b lead).windows.expose.get k = y.1 ∧ (commitOf b lead).trims.get k = y.2 ∧
      (commitOf b lead).exposeFlags.get k = x.2 := by
  have h := commitOf_expose b lead k
  rw [hx, hy] at h
  refine ⟨congrArg Prod.fst h, congrArg Prod.snd h, ?_⟩
  rw [← hx]
  match k with
  | 0 | 1 | 2 | 3 => rfl

/-- The outcome of a commit for a strobe: its window and its clamp flags. -/
theorem commitOf_strobe_outcome {e : Eye} {y : Flagged}
    (hy : moveStrobe ((commitOf b lead).windows.scan.get e) (clampChannel b.period (b.win.strobe.get e)) = y) :
    (commitOf b lead).windows.strobe.get e = y.1 ∧ (commitOf b lead).strobeFlags.get e = y.2 := by
  have h := commitOf_strobe b lead e
  rw [hy] at h
  exact ⟨congrArg Prod.fst h, congrArg Prod.snd h⟩

/-- The outcome of a commit for a scan: its window and its clamp flags. -/
theorem commitOf_scan_outcome {e : Eye} {y : Flagged} (hy : clampChannel b.period (b.win.scan.get e) = y) :
    (commitOf b lead).windows.scan.get e = y.1 ∧ (commitOf b lead).scanFlags.get e = y.2 := by
  have h := commitOf_scan b lead e
  rw [hy] at h
  exact ⟨congrArg Prod.fst h, congrArg Prod.snd h⟩

theorem commitOf_sound : (∀ e, ((commitOf b lead).windows.scan.get e).sound b.period ∧
      ((commitOf b lead).windows.strobe.get e).sound b.period) ∧
    ∀ k, ((commitOf b lead).windows.expose.get k).sound b.period := by
  refine ⟨fun e => ⟨?_, ?_⟩, fun k => ?_⟩
  · rw [(commitOf_scan_outcome rfl).1]; exact clampChannel_sound _ _
  · rw [(commitOf_strobe_outcome rfl).1]; exact moveStrobe_sound _ (clampChannel_sound _ _)
  · rw [(commitOf_expose_outcome rfl rfl).1]; exact trimExposure_sound _ (clampChannel_sound _ _)

/-- A scan that is long enough for the rows keeps its enable, with its end clamped. -/
theorem commitOf_scan_fits {rows : Nat} {e : Eye} (h1 : 1 ≤ rows) (hp : 6000 ≤ b.period)
    (hf : (b.win.scan.get e).on = true →
      (rows : Int) ≤ min ((b.win.scan.get e).stop : Int) ((b.period : Int) - 20) - (b.win.scan.get e).start) :
    (commitOf b lead).windows.scan.get e =
        ⟨(b.win.scan.get e).on, (b.win.scan.get e).start, clampedStop b.period (b.win.scan.get e)⟩ ∧
      (commitOf b lead).scanFlags.get e = ⟨endIsClamped b.period (b.win.scan.get e), false, false⟩ := by
  cases ho : (b.win.scan.get e).on with
  | false =>
    have := commitOf_scan_outcome (lead := lead) (clampChannel_off (period := b.period) ho)
    rw [this.1, this.2]
    simp only [clampedStop, endIsClamped, ho, Bool.false_and, Bool.false_eq_true, if_false]
    exact ⟨by rw [← ho], rfl⟩
  | true =>
    have hw : (b.win.scan.get e).start < clampedStop b.period (b.win.scan.get e) := by
      have := hf ho
      simp only [clampedStop, ho, if_true]
      omega
    exact commitOf_scan_outcome (clampChannel_wide ho hw)

end

/-- Settles O21: the clamps and moves channel by channel, the trims by the pieces that the guarded spans leave. -/
theorem commitWindows : Obligations.CommitWindows := by
  unfold Obligations.CommitWindows
  intro b rows lead hp _ _ _ _ hf hr
  have hscan := fun e => commitOf_scan_fits (lead := lead) hr hp (hf e)
  have hstrobe : ∀ e, ((commitOf b lead).windows.strobe.get e).proper := fun e => commitOf_strobe_proper e
  refine ⟨commitOf_sound.1, commitOf_sound.2, fun e => ?_, fun e hs hon => ?_, fun e => ⟨fun ho => ?_, fun ho hle => ?_,
    fun ho hlt hsc => ?_, fun ho hlt hs hm => ⟨fun hb => ?_, fun hb => ?_⟩⟩, commitOf_guarded b lead, fun k =>
    ⟨fun ho => ?_, fun ho hle => ?_, fun ho hlt => ⟨fun hw => ?_, fun hw => ?_, fun hw hex => ?_⟩⟩, fun e => ?_⟩
  · rw [(hscan e).1]
    exact ⟨rfl, fun ho => by simp [clampedStop, ho], (hscan e).2⟩
  · rw [(commitOf_strobe_outcome rfl).1] at hon ⊢
    exact moveStrobe_after hs hon
  · have h := commitOf_strobe_outcome (lead := lead) (e := e) ((congrArg _ (clampChannel_off ho)).trans
      (moveStrobe_stay (.inr (.inl ho))))
    exact ⟨h.1, by rw [h.2]; simp [ho, ClampFlags.none]⟩
  · exact commitOf_strobe_outcome ((congrArg _ (clampChannel_narrow ho hle)).trans (moveStrobe_stay (.inr (.inl rfl))))
  · exact commitOf_strobe_outcome ((congrArg _ (clampChannel_wide ho hlt)).trans
      (moveStrobe_stay (hsc.imp_right .inr)))
  · exact commitOf_strobe_outcome (((congrArg _ (clampChannel_wide ho hlt)).trans (moveStrobe_moved hs rfl hm)).trans
      (if_neg (not_le.2 hb)))
  · exact commitOf_strobe_outcome (((congrArg _ (clampChannel_wide ho hlt)).trans (moveStrobe_moved hs rfl hm)).trans
      (if_pos hb))
  · have h := commitOf_expose_outcome (lead := lead) (clampChannel_off (period := b.period) ho) (trimExposure_off ho)
    exact ⟨h.1, h.2.1, by rw [h.2.2]; simp [ho, ClampFlags.none]⟩
  · exact commitOf_expose_outcome (clampChannel_narrow ho hle) (trimExposure_off rfl)
  · exact commitOf_expose_outcome (clampChannel_wide ho hlt) (trimExposure_unchanged hstrobe rfl hlt hw)
  · exact commitOf_expose_outcome (clampChannel_wide ho hlt) (trimExposure_removed rfl hlt hw)
  · obtain ⟨a, z, ht, hfree, hbest⟩ := trimExposure_shortened
      (w := ⟨true, (b.win.expose.get k).start, clampedStop b.period (b.win.expose.get k)⟩) hstrobe rfl hlt hw hex
    obtain ⟨h1, h2, h3⟩ := commitOf_expose_outcome (lead := lead) (clampChannel_wide ho hlt) ht
    simp only [h1]
    exact ⟨⟨trivial, h2, h3⟩, hfree, hbest⟩
  · have hl : (commitOf b lead).leads.get e = latchLead lead ((commitOf b lead).windows.scan.get e) ∧
        (commitOf b lead).leadClamped.get e = leadClamped lead ((commitOf b lead).windows.scan.get e) := by
      cases e <;> exact ⟨rfl, rfl⟩
    rw [hl.1, hl.2, (hscan e).1]
    exact ⟨rfl, rfl⟩

end Sys2Proof.Machine
end

section
/-! PROOFS. What every command does to the settings: the rate estimate, the counts, adjustment, gains and codes, the
windows and their guards, the line stores and the latched shifts. -/
namespace Sys2Proof.Machine
open Sys2Proof

/-! ## The settings of a state -/

/-- What the invariants of guards, rate, ranges, line stores and shifts read of a state. -/
structure Settings where
  rate : Int
  lockCount : Nat
  running : Bool
  adj : Int
  lockRun : Nat
  windows : Windows
  guard : Nat
  pendingGuard : Nat
  waiting : Option Commit
  derate : Nat
  requests : PerEye Nat
  lines : PerEye LineStore
  shifts : PerEye Shift
  config : DisplayConfig
  camRequests : PerCam Nat
  requested : Int
  gain : Int

/-- The settings that a state holds. -/
def settings (s : State) : Settings where
  rate := s.time.rate
  lockCount := s.time.lockCount
  running := s.tl.running
  adj := s.tl.adj
  lockRun := s.tl.lockRun
  windows := s.tl.windows
  guard := s.tl.active.guard
  pendingGuard := s.tl.pendingBank.guard
  waiting := s.tl.waiting
  derate := s.power.derate
  requests := s.disp.eyes.map EyeDisplay.request
  lines := s.disp.eyes.map EyeDisplay.lines
  shifts := s.disp.eyes.map EyeDisplay.shift
  config := s.disp.config
  camRequests := s.motion.cams.map Cam.request
  requested := s.audio.requested
  gain := s.audio.gain

/-- `GuardSound` as it reads the settings. -/
def Settings.GuardSound (x : Settings) : Prop :=
  Guarded x.windows x.guard ∧ ∀ c, x.waiting = some c → Guarded c.windows x.pendingGuard

/-- `RateSound` as it reads the settings. -/
def Settings.RateSound (x : Settings) : Prop := -200000 ≤ x.rate ∧ x.rate ≤ 200000

/-- `RangesSound` as it reads the settings. -/
def Settings.RangesSound (x : Settings) : Prop :=
  x.lockCount ≤ 4 ∧ x.lockRun ≤ 8 ∧ -20 ≤ x.adj ∧ x.adj ≤ 20 ∧ x.derate ≤ 8 ∧
    (∀ e, x.requests.get e ≤ 1023) ∧ (∀ c, x.camRequests.get c ≤ 1023) ∧
    -180 ≤ x.requested ∧ x.requested ≤ 0 ∧ -180 ≤ x.gain ∧ x.gain ≤ 0

/-- `StoresSound` as it reads the settings. -/
def Settings.StoresSound (x : Settings) : Prop := ∀ e, (x.lines.get e).wf = true

/-- `ShiftSound` as it reads the settings. -/
def Settings.ShiftSound (x : Settings) : Prop :=
  ∀ e, withinMargins x.config (x.shifts.get e) ∧ (x.running = false → x.shifts.get e = .zero)

@[simp] theorem PerCam_get_map {α β : Type} (p : PerCam α) (f : α → β) (c : Camera) : (p.map f).get c = f (p.get c) := by
  match c with
  | 0 | 1 | 2 | 3 => rfl

@[simp] theorem PerCam_get_all {α : Type} (x : α) (c : Camera) : (PerCam.all x).get c = x := by
  match c with
  | 0 | 1 | 2 | 3 => rfl

theorem guardSound_iff (s : State) : GuardSound s ↔ (settings s).GuardSound := Iff.rfl

theorem rateSound_iff (s : State) : RateSound s ↔ (settings s).RateSound := Iff.rfl

theorem rangesSound_iff (s : State) : RangesSound s ↔ (settings s).RangesSound := by
  simp [RangesSound, Settings.RangesSound, settings]

theorem storesSound_iff (s : State) : StoresSound s ↔ (settings s).StoresSound :=
  ⟨fun ⟨hl, hr⟩ e => by cases e <;> assumption, fun h => ⟨h .left, h .right⟩⟩

theorem shiftSound_iff (s : State) : ShiftSound s ↔ (settings s).ShiftSound := by
  simp [ShiftSound, Settings.ShiftSound, settings]

/-- From `s` to `t` each invariant of the settings is kept. -/
structure Kept (s t : State) : Prop where
  guard : (settings s).GuardSound → (settings t).GuardSound
  rate : (settings s).RateSound → (settings t).RateSound
  ranges : (settings s).RangesSound → (settings t).RangesSound
  stores : (settings s).StoresSound → (settings t).StoresSound
  shift : (settings s).ShiftSound → (settings t).ShiftSound

theorem Kept.trans {s t u : State} (h : Kept s t) (k : Kept t u) : Kept s u :=
  ⟨k.guard ∘ h.guard, k.rate ∘ h.rate, k.ranges ∘ h.ranges, k.stores ∘ h.stores, k.shift ∘ h.shift⟩

/-- Where the settings stay, every invariant of them is kept. -/
theorem Kept.of_eq {s t : State} (h : settings t = settings s) : Kept s t := by
  constructor <;> rw [h] <;> exact id

theorem Kept.refl (s : State) : Kept s s := .of_eq rfl

/-- Keeping the invariants in a second step, after a first. -/
theorem Kept.after {s t u : State} (k : Kept t u) (h : Kept s t) : Kept s u := h.trans k

/-- Keeping the invariants in a state with the same settings as one that keeps them. -/
theorem Kept.via {s t u : State} (k : settings u = settings t) (h : Kept s t) : Kept s u := h.trans (.of_eq k)

/-! ## Updates that leave the settings alone -/

section
variable (s : State)

@[simp] theorem settings_mapPins (f : Pins → Pins) : settings (s.mapPins f) = settings s := rfl
@[simp] theorem settings_mapClock (f : Clock → Clock) : settings (s.mapClock f) = settings s := rfl
@[simp] theorem settings_mapLink (f : Link → Link) : settings (s.mapLink f) = settings s := rfl
@[simp] theorem settings_mapReq (f : Requests → Requests) : settings (s.mapReq f) = settings s := rfl
@[simp] theorem settings_mapShift (f : ShiftUnit → ShiftUnit) : settings (s.mapShift f) = settings s := rfl
@[simp] theorem settings_mapFree (f : Nat → Nat) : settings (s.mapFree f) = settings s := rfl
@[simp] theorem settings_withPending (q : List Instr) : settings (s.withPending q) = settings s := rfl

/-- A change of the Timebase that spares rate and lock count. -/
theorem settings_mapTime {f : Timebase → Timebase} (h : ∀ x, (f x).rate = x.rate ∧ (f x).lockCount = x.lockCount) :
    settings (s.mapTime f) = settings s := by simp [settings, h]

/-- A change of the Power Manager that spares the derate level. -/
theorem settings_mapPower {f : Power → Power} (h : ∀ x, (f x).derate = x.derate) :
    settings (s.mapPower f) = settings s := by simp [settings, h]

/-- A change of the Audio Engine that spares the gains. -/
theorem settings_mapAudio {f : Audio → Audio} (h : ∀ x, (f x).requested = x.requested ∧ (f x).gain = x.gain) :
    settings (s.mapAudio f) = settings s := by simp [settings, h]

/-- A change of the Motion Hub that spares the illuminators' requests. -/
theorem settings_mapMotion {f : Motion → Motion} (h : ∀ x, (f x).cams = x.cams) :
    settings (s.mapMotion f) = settings s := by simp [settings, h]

/-- A change of the Display Output that spares eyes and configuration. -/
theorem settings_mapDisp {f : Display → Display} (h : ∀ x, (f x).eyes = x.eyes ∧ (f x).config = x.config) :
    settings (s.mapDisp f) = settings s := by simp [settings, h]

/-- An eye changed but for its drive request, its line store and its latched shift. -/
def EyeDisplay.SameSettings (d d' : EyeDisplay) : Prop := d'.request = d.request ∧ d'.lines = d.lines ∧ d'.shift = d.shift

/-- A change of the Display Output that spares what the settings read of each eye, and the configuration. -/
theorem settings_mapEyes {f : Display → Display}
    (h : ∀ x, x.eyes.left.SameSettings (f x).eyes.left ∧ x.eyes.right.SameSettings (f x).eyes.right ∧
      (f x).config = x.config) : settings (s.mapDisp f) = settings s := by
  obtain ⟨⟨l1, l2, l3⟩, ⟨r1, r2, r3⟩, hc⟩ := h s.disp
  simp [settings, PerEye.map, l1, l2, l3, r1, r2, r3, hc]

theorem settings_mapEye {f : EyeDisplay → EyeDisplay} (e : Eye) (h : ∀ x, EyeDisplay.SameSettings x (f x)) :
    settings (s.mapEye e f) = settings s := by
  refine settings_mapEyes s fun x => ?_
  cases e
  · exact ⟨h _, ⟨rfl, rfl, rfl⟩, rfl⟩
  · exact ⟨⟨rfl, rfl, rfl⟩, h _, rfl⟩

theorem settings_mapCam {f : Cam → Cam} (c : Camera) (h : ∀ x, (f x).request = x.request) :
    settings (s.mapCam c f) = settings s := by
  have hc : (s.mapCam c f).motion.cams.map Cam.request = s.motion.cams.map Cam.request := by
    match c with
    | 0 | 1 | 2 | 3 => simp [PerCam.map, PerCam.set, PerCam.get, h]
  simp [settings, ← hc]

/-- A change of the Frame Timeline that spares its settings. -/
theorem settings_mapTl {f : Timeline → Timeline}
    (h : ∀ x, (f x).running = x.running ∧ (f x).adj = x.adj ∧ (f x).lockRun = x.lockRun ∧ (f x).windows = x.windows ∧
      (f x).active = x.active ∧ (f x).pendingBank = x.pendingBank ∧ (f x).waiting = x.waiting) :
    settings (s.mapTl f) = settings s := by
  obtain ⟨h1, h2, h3, h4, h5, h6, h7⟩ := h s.tl
  simp [settings, h1, h2, h3, h4, h5, h6, h7]

end

/-! ## Operations that leave the settings alone -/

section
variable (s : State)

@[simp] theorem settings_raise (x : Source) (d : Detail) : settings (raise x d s) = settings s := rfl

@[simp] theorem settings_raiseIf (c : Bool) (x : Source) (d : Detail) : settings (raiseIf c x d s) = settings s := by
  cases c <;> rfl

@[simp] theorem settings_offer (r : Report) : settings (offer r s) = settings s := by
  unfold offer; split <;> rfl

theorem lightEye_sameSettings (e : Eye) : (s.disp.eyes.get e).SameSettings (lightEye s e) := by
  unfold lightEye
  split <;> exact ⟨rfl, rfl, rfl⟩

@[simp] theorem settings_lights : settings (lights s) = settings s := by
  obtain ⟨l1, l2, l3⟩ := lightEye_sameSettings s .left
  obtain ⟨r1, r2, r3⟩ := lightEye_sameSettings s .right
  simp only [settings, lights, PerEye.map, l1, l2, l3, r1, r2, r3]
  rfl

@[simp] theorem settings_blank (c : Cause) : settings (blank c s) = settings s := by
  unfold blank
  split
  · rfl
  · simp only [settings_lights, settings_raiseIf]; rfl

@[simp] theorem settings_unblank (c : Cause) : settings (unblank c s) = settings s := rfl

@[simp] theorem settings_setBlank (c : Cause) (p : Bool) : settings (setBlank c p s) = settings s := by
  cases p
  · exact settings_unblank s c
  · exact settings_blank s c

@[simp] theorem settings_setMute (c : MuteCause) (p : Bool) : settings (setMute c p s) = settings s := by
  refine settings_mapAudio s fun a => ?_
  cases p
  · simp only [Bool.false_eq_true, if_false, muteOff_eq, unsilenced]; split <;> exact ⟨rfl, rfl⟩
  · simp only [if_true, muteOn_eq, silenced]; split <;> exact ⟨rfl, rfl⟩

@[simp] theorem settings_computePower : settings (computePower s) = settings s := by
  unfold computePower; split <;> rfl

@[simp] theorem settings_handGrants : settings (handGrants s) = settings s := by
  rw [handGrants, settings_lights, settings_setMute]
  exact (settings_mapAudio _ fun _ => ⟨rfl, rfl⟩).trans (settings_setBlank s _ _)

@[simp] theorem settings_computeGrants : settings (computeGrants s) = settings s := by
  simp only [computeGrants, raiseLimited, settings_handGrants, settings_raiseIf, settings_computePower]

@[simp] theorem settings_computeIf (b : Bool) : settings (computeIf b s) = settings s := by
  cases b
  · rfl
  · exact settings_computeGrants s

@[simp] theorem settings_answer (q : Request) (st : Status) (b : ReplyBody) : settings (answer q st b s) = settings s := rfl
@[simp] theorem settings_popIntake : settings (popIntake s) = settings s := rfl
@[simp] theorem settings_addEntry (q : Request) (w : Wait) : settings (addEntry q w s) = settings s := rfl
@[simp] theorem settings_recordDuplicate (q : Request) : settings (recordDuplicate q s) = settings s := rfl
@[simp] theorem settings_finishWaiting (p : Wait → Bool) (st : Status) (b : Entry → ReplyBody) :
    settings (finishWaiting p st b s) = settings s := rfl

@[simp] theorem settings_recordFault (q : Request) (g : Group) : settings (recordFault q g s) = settings s := by
  unfold recordFault; split <;> rfl

@[simp] theorem settings_refuse (q : Request) (g : Group) (st : Status) (b : ReplyBody) :
    settings (refuse q g st b s) = settings s := by
  unfold refuse; split <;> simp

@[simp] theorem settings_changeSync (a : Sync) (c : SyncCause) (e : Option Int) :
    settings (changeSync a c e s) = settings s := by
  unfold changeSync
  rw [settings_raiseIf]
  exact settings_mapTime s fun _ => ⟨rfl, rfl⟩

@[simp] theorem settings_changePhase (m : PhaseMode) (told : Bool) : settings (changePhase m told s) = settings s := by
  unfold changePhase
  rw [settings_raiseIf]
  exact settings_mapTl s fun _ => ⟨rfl, rfl, rfl, rfl, rfl, rfl, rfl⟩

end

/-! ## Updates of a block that keep its invariants -/

section
variable (s : State)

theorem kept_mapTime {f : Timebase → Timebase} (hr : (f s.time).rate = s.time.rate ∨
      -200000 ≤ (f s.time).rate ∧ (f s.time).rate ≤ 200000)
    (hl : s.time.lockCount ≤ 4 → (f s.time).lockCount ≤ 4) : Kept s (s.mapTime f) where
  guard := id
  rate h := by
    rcases hr with hr | hr
    · simpa [settings, Settings.RateSound, hr] using h
    · exact hr
  ranges h := ⟨hl h.1, h.2⟩
  stores := id
  shift := id

/-- A change of the Frame Timeline: what it must keep of guards, lock run and adjustment, without a stop. -/
theorem kept_mapTl {f : Timeline → Timeline} (hg : GuardSound s → GuardSound (s.mapTl f))
    (hl : s.tl.lockRun ≤ 8 → (f s.tl).lockRun ≤ 8)
    (hj : -20 ≤ s.tl.adj ∧ s.tl.adj ≤ 20 → -20 ≤ (f s.tl).adj ∧ (f s.tl).adj ≤ 20)
    (hr : (f s.tl).running = s.tl.running ∨ (f s.tl).running = true) : Kept s (s.mapTl f) where
  guard := hg
  rate := id
  ranges h := by
    obtain ⟨h1, h2, h3, h4, h5⟩ := h
    obtain ⟨h3, h4⟩ := hj ⟨h3, h4⟩
    exact ⟨h1, hl h2, h3, h4, h5⟩
  stores := id
  shift h e := ⟨(h e).1, fun hf => (h e).2 (hr.elim (fun hs => hs.symm.trans hf) fun ht => absurd (ht.symm.trans hf) (by simp))⟩

/-- Windows and banks unchanged and no commit new in waiting: the guards are kept. -/
theorem guardSound_mapTl {f : Timeline → Timeline} (hw : (f s.tl).windows = s.tl.windows)
    (ha : (f s.tl).active = s.tl.active) (hp : (f s.tl).pendingBank = s.tl.pendingBank)
    (hc : (f s.tl).waiting = s.tl.waiting ∨ (f s.tl).waiting = none) : GuardSound s → GuardSound (s.mapTl f) := by
  rintro ⟨h1, h2⟩
  refine ⟨by simpa [hw, ha] using h1, fun c h => ?_⟩
  rw [mapTl_tl] at h ⊢
  rw [hp]
  rcases hc with hc | hc
  · exact h2 c (hc ▸ h)
  · rw [hc] at h; cases h

theorem kept_mapPower {f : Power → Power} (h : s.power.derate ≤ 8 → (f s.power).derate ≤ 8) :
    Kept s (s.mapPower f) where
  guard := id
  rate := id
  ranges := by
    rintro ⟨h1, h2, h3, h4, h5, h6⟩
    exact ⟨h1, h2, h3, h4, h h5, h6⟩
  stores := id
  shift := id

/-- A gain in half-dB steps within its range (R116, R118). -/
def gainInRange (g : Int) : Prop := -180 ≤ g ∧ g ≤ 0

theorem kept_mapAudio {f : Audio → Audio}
    (h : gainInRange s.audio.requested → gainInRange s.audio.gain →
      gainInRange (f s.audio).requested ∧ gainInRange (f s.audio).gain) : Kept s (s.mapAudio f) where
  guard := id
  rate := id
  ranges := by
    rintro ⟨h1, h2, h3, h4, h5, h6, h7, h8, h9, h10, h11⟩
    obtain ⟨⟨k1, k2⟩, k3, k4⟩ := h ⟨h8, h9⟩ ⟨h10, h11⟩
    exact ⟨h1, h2, h3, h4, h5, h6, h7, k1, k2, k3, k4⟩
  stores := id
  shift := id

theorem kept_mapCam (c : Camera) {f : Cam → Cam} (h : ∀ x, x.request ≤ 1023 → (f x).request ≤ 1023) :
    Kept s (s.mapCam c f) where
  guard := id
  rate := id
  ranges := by
    rintro ⟨h1, h2, h3, h4, h5, h6, h7, h8⟩
    refine ⟨h1, h2, h3, h4, h5, h6, fun k => ?_, h8⟩
    have hk : ∀ k, (s.motion.cams.get k).request ≤ 1023 := fun k => by simpa [settings] using h7 k
    simp only [settings, PerCam_get_map, mapCam_cams]
    by_cases hkc : k = c
    · subst hkc; rw [PerCam_get_set_same]; exact h _ (hk k)
    · rw [PerCam_get_set_other _ _ _ _ hkc]; exact hk k
  stores := id
  shift := id

/-- An eye changed within its invariants: code in range, line store canonical, shift as it was or, in RUN, within the
margins. -/
structure EyeDisplay.Keeps (c : DisplayConfig) (running : Bool) (d d' : EyeDisplay) : Prop where
  request : d.request ≤ 1023 → d'.request ≤ 1023
  lines : d.lines.wf = true → d'.lines.wf = true
  shift : d'.shift = d.shift ∨ d'.shift = .zero ∨ running = true ∧ withinMargins c d'.shift

theorem EyeDisplay.Keeps.refl (c : DisplayConfig) (running : Bool) (d : EyeDisplay) : EyeDisplay.Keeps c running d d :=
  ⟨id, id, .inl rfl⟩

theorem withinMargins_zero (c : DisplayConfig) : withinMargins c .zero := by
  simp [withinMargins, Shift.zero]

/-- A change of the Display Output that keeps its eyes' invariants and the configuration. -/
theorem kept_mapDisp {f : Display → Display}
    (h : ∀ e, EyeDisplay.Keeps s.disp.config s.tl.running (s.disp.eyes.get e) ((f s.disp).eyes.get e))
    (hc : (f s.disp).config = s.disp.config) : Kept s (s.mapDisp f) where
  guard := id
  rate := id
  ranges := by
    rintro ⟨h1, h2, h3, h4, h5, h6, h7⟩
    refine ⟨h1, h2, h3, h4, h5, fun e => ?_, h7⟩
    simp only [settings, PerEye_get_map] at h6 ⊢
    exact (h e).request (h6 e)
  stores hs e := by
    have := hs e
    simp only [settings, PerEye_get_map] at this ⊢
    exact (h e).lines this
  shift hs e := by
    have := hs e
    simp only [settings, PerEye_get_map, mapDisp_disp, hc] at this ⊢
    rcases (h e).shift with hk | hk | ⟨hr, hm⟩
    · rw [hk]; exact this
    · rw [hk]; exact ⟨withinMargins_zero _, fun _ => rfl⟩
    · exact ⟨hm, fun hf => absurd (hr.symm.trans hf) (by simp)⟩

theorem kept_mapEye (e : Eye) {f : EyeDisplay → EyeDisplay}
    (h : EyeDisplay.Keeps s.disp.config s.tl.running (s.disp.eyes.get e) (f (s.disp.eyes.get e))) :
    Kept s (s.mapEye e f) := by
  refine kept_mapDisp s (fun e' => ?_) rfl
  by_cases he : e' = e
  · subst he; rw [PerEye_get_set_same]; exact h
  · rw [PerEye_get_set_other _ _ _ _ he]; exact .refl _ _ _

end

end Sys2Proof.Machine
end

section
namespace Sys2Proof.Machine
open Sys2Proof

/-! ## Timebase -/

section
variable (s : State)

theorem clampInt_bounds {lo hi : Int} (h : lo ≤ hi) (x : Int) : lo ≤ clampInt lo hi x ∧ clampInt lo hi x ≤ hi := by
  unfold clampInt
  split
  · omega
  · split <;> omega

theorem clampNat_le {lo hi : Nat} (h : lo ≤ hi) (x : Nat) : clampNat lo hi x ≤ hi := by
  unfold clampNat
  split
  · exact h
  · split <;> omega

theorem bump_le {top n : Nat} : bump top n ≤ top := by
  unfold bump
  split <;> omega

theorem kept_firstMark (d : Tick) (h : HostTime) : Kept s (firstMark d h s) :=
  .via (settings_changeSync _ _ _ _) (kept_mapTime s (.inl rfl) fun _ => Nat.zero_le 4)

theorem kept_restartMark (d : Tick) (h : HostTime) : Kept s (restartMark d h s) :=
  .via (settings_changeSync _ _ _ _) (kept_mapTime s (.inl rfl) fun _ => Nat.zero_le 4)

theorem learn_rate (m : Int) (t : Timebase) : -200000 ≤ (t.learn m).rate ∧ (t.learn m).rate ≤ 200000 :=
  clampInt_bounds (by decide) _

theorem kept_stepMark (m e : Int) (d : Tick) (h : HostTime) : Kept s (stepMark m e d h s) :=
  .after (kept_mapTime _ (.inr (learn_rate m _)) id)
    (.via (settings_changeSync _ _ _ _) (kept_mapTime s (.inl rfl) fun _ => Nat.zero_le 4))

theorem kept_lockUpdate (e : Int) : Kept s (lockUpdate e s) := by
  unfold lockUpdate
  dsimp only
  split
  · have h : Kept s (s.mapTime fun t => { t with lockCount := bump 4 t.lockCount }) :=
      kept_mapTime s (.inl rfl) fun _ => bump_le
    split
    · exact .via (settings_changeSync _ _ _ _) h
    · exact h
  · have h : Kept s (s.mapTime fun t => { t with lockCount := 0 }) :=
      kept_mapTime s (.inl rfl) fun _ => Nat.zero_le 4
    split
    · exact .via (settings_changeSync _ _ _ _) h
    · exact h

theorem kept_updateMark (m e : Int) (hp : HostTime) (d : Tick) (h : HostTime) : Kept s (updateMark m e hp d h s) :=
  .after (kept_lockUpdate _ e) (kept_mapTime s (.inr (learn_rate m _)) id)

theorem kept_processMark (d : Tick) (h : HostTime) : Kept s (processMark d h s) := by
  unfold processMark
  split
  · exact kept_firstMark s d h
  · exact .of_eq rfl
  · exact kept_restartMark s d h
  · exact .of_eq rfl
  · exact kept_stepMark s _ _ d h
  · exact kept_updateMark s _ _ _ d h

/-- A lock run set back. -/
theorem kept_lockRun_zero {f : Timeline → Timeline}
    (h : ∀ t, (f t).lockRun = 0 ∧ (f t).windows = t.windows ∧ (f t).active = t.active ∧ (f t).pendingBank = t.pendingBank ∧ (f t).waiting = t.waiting ∧ (f t).adj = t.adj ∧ (f t).running = t.running) :
    Kept s (s.mapTl f) := by
  obtain ⟨h1, h2, h3, h4, h5, h6, h7⟩ := h s.tl
  exact kept_mapTl s (guardSound_mapTl s h2 h3 h4 (.inl h5)) (fun _ => h1 ▸ Nat.zero_le 8) (h6 ▸ id) (.inl h7)

theorem kept_loosenPhase : Kept s (loosenPhase s) := by
  unfold loosenPhase
  split
  · exact .via (settings_changePhase _ _ _) (kept_lockRun_zero s fun _ => ⟨rfl, rfl, rfl, rfl, rfl, rfl, rfl⟩)
  · exact .refl s

theorem kept_becomeCoarse : Kept s (becomeCoarse s) :=
  .via (settings_changeSync _ _ _ _) (kept_mapTime s (.inl rfl) fun _ => Nat.zero_le 4)

theorem kept_becomeUnsynced : Kept s (becomeUnsynced s) :=
  .after (kept_loosenPhase _) (.via (settings_changeSync _ _ _ _) (kept_mapTime s (.inl rfl) fun _ => Nat.zero_le 4))

theorem kept_timebaseSessionStart : Kept s (timebaseSessionStart s) :=
  .via (settings_changeSync _ _ _ _) (kept_mapTime s (.inl rfl) fun _ => Nat.zero_le 4)

theorem settings_stamped (k : Stamped) (d : Tick) : settings (s.mapTime fun t => t.stamped k d) = settings s :=
  settings_mapTime s fun t => by unfold Timebase.stamped; split <;> exact ⟨rfl, rfl⟩

/-! ## Late Shift Unit -/

theorem settings_storeLate (e : Eye) (o : Option LateOutcome) : settings (storeLate e o s) = settings s := by
  unfold storeLate
  split
  · exact settings_mapEye s e fun _ => ⟨rfl, rfl, rfl⟩
  · rfl

theorem kept_lateShift (q : Request) : Kept s (lateShift q s).state := by
  unfold lateShift
  split
  · exact .refl s
  · dsimp only
    split
    · exact .refl s
    · exact .of_eq ((settings_storeLate _ _ _).trans (settings_storeLate _ _ _))

theorem marginClamp_within (c : DisplayConfig) (x : Shift) : withinMargins c (marginClamp c x) := by
  have hx := clampInt_bounds (show -(c.marginX : Int) ≤ c.marginX by omega) x.sx
  have hy := clampInt_bounds (show -(c.marginY : Int) ≤ c.marginY by omega) x.sy
  exact ⟨hx.1, hx.2, hy.1, hy.2⟩

/-- A shift of no displacement lies within any margins. -/
theorem withinMargins_of_zero {c : DisplayConfig} {x : Shift} (hx : x.sx = 0) (hy : x.sy = 0) : withinMargins c x := by
  simp [withinMargins, hx, hy]

theorem computedShift_within (src : ShiftSource) (e : Eye) (h : Head) :
    withinMargins s.disp.config (computedShift src e h s) := by
  unfold computedShift
  split
  · exact withinMargins_of_zero rfl rfl
  · split
    · exact withinMargins_of_zero rfl rfl
    · dsimp only
      split
      · exact withinMargins_of_zero rfl rfl
      · exact marginClamp_within _ _

/-- The result of a latch lies within the margins in force (R102). -/
theorem shiftFor_within (e : Eye) (h : Head) : withinMargins s.disp.config (shiftFor e h s) := by
  unfold shiftFor
  split
  · exact withinMargins_zero _
  · exact marginClamp_within _ _
  · exact computedShift_within s _ e h
  · exact computedShift_within s _ e h

/-! ## Display Output -/

theorem settings_mapNamed (named : PerEye Bool) {f : EyeDisplay → EyeDisplay} (h : ∀ x, EyeDisplay.SameSettings x (f x)) :
    settings (mapNamed named f s) = settings s := by
  have hx : ∀ (b : Bool) (x : EyeDisplay), x.SameSettings (if b then f x else x) := fun b x => by
    cases b
    · exact ⟨rfl, rfl, rfl⟩
    · exact h x
  exact settings_mapEyes s fun x => ⟨hx _ _, hx _ _, rfl⟩

theorem wakeUp_sameSettings (d : EyeDisplay) : d.SameSettings d.wakeUp := by
  unfold EyeDisplay.wakeUp; split <;> exact ⟨rfl, rfl, rfl⟩

theorem restore_sameSettings (d : EyeDisplay) : d.SameSettings d.restore := by
  unfold EyeDisplay.restore; split <;> exact ⟨rfl, rfl, rfl⟩

theorem kept_panelOn (q : Request) : Kept s (panelOn q s).state := by
  unfold panelOn
  split
  · exact .refl s
  · split
    · exact .refl s
    · split
      · exact .refl s
      · split
        · exact .refl s
        · exact .of_eq ((settings_computeGrants _).trans (settings_mapNamed s _ wakeUp_sameSettings))

theorem settings_panelsOff (named : PerEye Bool) : settings (mapNamed named EyeDisplay.turnOff s) = settings s :=
  settings_mapNamed s named fun _ => ⟨rfl, rfl, rfl⟩

theorem kept_panelOff (q : Request) : Kept s (panelOff q s).state := by
  unfold panelOff
  split
  · exact .refl s
  · exact .of_eq (((settings_finishWaiting _ _ _ _).trans ((settings_computeIf _ _).trans (settings_lights _))).trans
      (settings_panelsOff s _))

theorem settings_wakeExpiry (e : Eye) : settings (wakeExpiry e s) = settings s :=
  (settings_finishWaiting _ _ _ _).trans ((settings_lights _).trans (settings_mapEye s e fun _ => ⟨rfl, rfl, rfl⟩))

theorem settings_panelSleep : settings (panelSleep s) = settings s :=
  (settings_finishWaiting _ _ _ _).trans (settings_mapNamed s _ fun _ => ⟨rfl, rfl, rfl⟩)

theorem settings_panelRestore : settings (panelRestore s) = settings s := settings_mapNamed s _ restore_sameSettings

/-- A configuration taken in STOPPED, where no shift is latched. -/
theorem kept_takeDisplayConfig (c : DisplayConfig) (hr : s.tl.running = false) : Kept s (takeDisplayConfig c s) := by
  have h : Kept s (s.mapDisp fun d => { d with config := c, eyes := d.eyes.map EyeDisplay.flush }) := by
    refine ⟨id, id, id, fun _ e => ?_, fun hs e => ?_⟩
    · cases e <;> rfl
    · have hz : (settings s).shifts.get e = .zero := (hs e).2 hr
      have he : (settings (s.mapDisp fun d => { d with config := c, eyes := d.eyes.map EyeDisplay.flush })).shifts.get e = .zero := by
        rw [← hz]; cases e <;> rfl
      rw [he]
      exact ⟨withinMargins_zero _, fun _ => rfl⟩
  exact .via ((settings_lights _).trans (settings_setBlank _ _ _)) h

theorem kept_displayConfig (q : Request) : Kept s (displayConfig q s).state := by
  unfold displayConfig
  dsimp only
  split
  · exact .refl s
  · next hr =>
    split
    · exact .refl s
    · exact kept_takeDisplayConfig s _ (by simpa using hr)

theorem clampCode_le (n : Nat) : clampCode n ≤ 1023 := clampNat_le (by decide) n

theorem kept_displayDrive (q : Request) : Kept s (displayDrive q s).state := by
  refine kept_mapDisp s (f := fun d => { d with eyes := ⟨{ d.eyes.left with request := _ }, { d.eyes.right with request := _ }⟩ })
    (fun e => ?_) rfl
  cases e <;> exact ⟨fun _ => clampCode_le _, id, .inl rfl⟩

theorem settings_countMalformed : settings (countMalformed s) = settings s := rfl

theorem settings_takeHead (e : Eye) (h : Head) : settings (takeHead e h s) = settings s := by
  have hs : settings ((s.mapDisp fun d => { d with headsReceived := d.headsReceived + 1 }).mapEye e fun d =>
      { d with pending := some h }) = settings s := settings_mapEye _ e fun _ => ⟨rfl, rfl, rfl⟩
  unfold takeHead
  dsimp only
  split <;> exact hs

theorem settings_receiveHead (p : List Byte) : settings (receiveHead p s) = settings s := by
  unfold receiveHead
  split
  · exact settings_takeHead s _ _
  · rfl

theorem kept_takeRow (e : Eye) (r : StoredRow) : Kept s (takeRow e r s) := by
  unfold takeRow
  split
  · exact .via (settings_mapDisp _ fun _ => ⟨rfl, rfl⟩)
      (kept_mapEye s e ⟨id, write_wf _ _ _ (Nat.mod_lt _ (by decide)), .inl rfl⟩)
  · exact .of_eq rfl

theorem kept_receiveRow (p : List Byte) : Kept s (receiveRow p s) := by
  unfold receiveRow
  split
  · exact kept_takeRow s _ _
  · exact .of_eq rfl

/-- A head bound in RUN. -/
theorem kept_bindHead (e : Eye) (h : Head) (hr : s.tl.running = true) : Kept s (bindHead e h s) :=
  .via (settings_lights _) (.via (settings_unblank _ _) (.via (settings_mapShift _ _)
    (kept_mapEye s e ⟨id, id, .inr (.inr ⟨hr, shiftFor_within s e h⟩)⟩)))

theorem settings_stall (e : Eye) : settings (stall e s) = settings s := settings_blank s _

theorem kept_missFrame (e : Eye) : Kept s (missFrame e s) := by
  unfold missFrame
  dsimp only
  have h : Kept s (s.mapEye e fun d => { d with bound := none, shift := .zero, missed := bump 65535 d.missed }) :=
    kept_mapEye s e ⟨id, id, .inr (.inl rfl)⟩
  split
  · exact .via ((settings_stall _ e).trans ((settings_lights _).trans (settings_mapShift _ _))) h
  · exact .via ((settings_lights _).trans (settings_mapShift _ _)) h

theorem kept_latchEye (e : Eye) (hr : s.tl.running = true) : Kept s (latchEye e s) := by
  unfold latchEye
  dsimp only
  have h : Kept s (s.mapTl fun t => { t with latched := t.latched.set e true }) := .of_eq rfl
  split
  · exact .after (kept_bindHead _ e _ hr) h
  · exact .after (kept_missFrame _ e) h

theorem settings_openScan (e : Eye) : settings (openScan e s) = settings s := by
  unfold openScan
  dsimp only
  split
  · exact settings_mapEye _ e fun _ => ⟨rfl, rfl, rfl⟩
  · rfl

theorem settings_scanEye (e : Eye) : settings (scanEye e s) = settings s := by
  unfold scanEye
  split
  · refine settings_mapEye s e fun d => ?_
    unfold EyeDisplay.scanRow
    split <;> exact ⟨rfl, rfl, rfl⟩
  · rfl

theorem settings_clearLatches : settings (clearLatches s) = settings s := settings_lights _

theorem settings_openStrobe (e : Eye) : settings (openStrobe e s) = settings s := settings_lights _

theorem settings_closeStrobe (e : Eye) : settings (closeStrobe e s) = settings s := settings_lights _

theorem settings_clearFrame : settings (clearFrame s) = settings s :=
  settings_mapEyes s fun _ => ⟨⟨rfl, rfl, rfl⟩, ⟨rfl, rfl, rfl⟩, rfl⟩

end

end Sys2Proof.Machine
end

section
namespace Sys2Proof.Machine
open Sys2Proof

/-! ## Power Manager -/

section
variable (s : State)

theorem guardSound_reset : (settings State.reset).GuardSound :=
  ⟨fun c _ h => absurd h (by rw [show (settings State.reset).windows.expose.get c = .off from PerCam_get_all _ c]; decide),
    fun _ h => by cases h⟩

theorem rangesSound_reset : (settings State.reset).RangesSound := by
  refine ⟨by decide, by decide, by decide, by decide, by decide, fun e => ?_, by decide, by decide, by decide, by decide,
    by decide⟩
  cases e <;> decide

theorem shiftSound_reset : (settings State.reset).ShiftSound := fun e => by
  rw [show (settings State.reset).shifts.get e = .zero from PerEye_get_both _ e]
  exact ⟨withinMargins_zero _, fun _ => rfl⟩

/-- In the part held in reset every invariant of the settings holds. -/
theorem kept_holdReset : Kept s (holdReset s) where
  guard _ := guardSound_reset
  rate _ := show (settings State.reset).RateSound from ⟨by decide, by decide⟩
  ranges _ := rangesSound_reset
  stores _ e := by cases e <;> rfl
  shift _ := shiftSound_reset

theorem kept_startPart : Kept s (startPart s) :=
  .via (settings_computeGrants _) (.via (t := holdReset s) rfl (kept_holdReset s))

theorem settings_takeContract (mw : Nat) : settings (takeContract mw s) = settings s :=
  (settings_computeGrants _).trans (settings_mapPower s fun _ => rfl)

theorem kept_powerContract (q : Request) : Kept s (powerContract q s).state := by
  unfold powerContract
  dsimp only
  split
  · exact .refl s
  · exact .of_eq (settings_takeContract s _)

theorem kept_derateUp : Kept s (derateUp s) :=
  .via (settings_raise _ _ _) (kept_mapPower s fun _ => bump_le)

theorem kept_derateDown : Kept s (derateDown s) := kept_mapPower s fun h => (Nat.sub_le _ 1).trans h

theorem countAverage_derate (p : Power) : p.countAverage.derate = p.derate := by
  unfold Power.countAverage
  split
  · rfl
  · split <;> rfl

theorem kept_judgeAverage : Kept s (judgeAverage s) := by
  unfold judgeAverage
  dsimp only
  have h : Kept s (s.mapPower Power.countAverage) := .of_eq (settings_mapPower s countAverage_derate)
  split
  · exact .after (kept_derateUp _) h
  · split
    · exact .after (kept_derateDown _) h
    · exact h

theorem kept_closeAverage : Kept s (closeAverage s) := by
  unfold closeAverage
  split
  · exact .after (kept_judgeAverage _) (.of_eq (settings_mapPower s fun _ => rfl))
  · exact .refl s

theorem settings_beginBrownout : settings (beginBrownout s) = settings s :=
  (settings_raise _ _ _).trans ((settings_setMute _ _ _).trans ((settings_blank _ _).trans ((settings_lights _).trans
    (settings_mapPower s fun _ => rfl))))

theorem settings_endBrownout : settings (endBrownout s) = settings s :=
  (settings_lights _).trans ((settings_setMute _ _ _).trans ((settings_setBlank _ _ _).trans
    ((settings_mapMotion _ fun _ => rfl).trans (settings_mapPower s fun _ => rfl))))

theorem settings_countHigh (mv : Nat) : settings (countHigh mv s) = settings s := by
  have h : settings (s.mapPower fun p => { p with highRun := if 11200 ≤ mv then bump 101 p.highRun else 0 }) =
      settings s := settings_mapPower s fun _ => rfl
  unfold countHigh
  dsimp only
  rw [apply_ite settings, settings_endBrownout, h, ite_self]

theorem settings_countLow (mv : Nat) : settings (countLow mv s) = settings s := by
  have h : settings (s.mapPower fun p => { p with lowRun := if mv < 10800 then bump 3 p.lowRun else 0 }) =
      settings s := settings_mapPower s fun _ => rfl
  unfold countLow
  dsimp only
  rw [apply_ite settings, settings_beginBrownout, h, ite_self]

theorem settings_takeSample (mv ma : Nat) : settings (takeSample mv ma s) = settings s := by
  have h : ∀ x, settings (s.mapPower (Power.addSample s.tl.running x)) = settings s := fun x =>
    settings_mapPower s fun p => by unfold Power.addSample; split <;> rfl
  unfold takeSample
  dsimp only
  split
  · exact (settings_countHigh _ mv).trans ((settings_mapClock _ _).trans (h _))
  · exact (settings_countLow _ mv).trans ((settings_mapClock _ _).trans (h _))

theorem kept_inputLevel (mv ma : Nat) : Kept s (inputLevel mv ma s) := by
  unfold inputLevel
  dsimp only
  split
  · exact .after (kept_holdReset _) (.of_eq (settings_mapPins s _))
  · split
    · exact .of_eq (settings_takeSample _ mv ma)
    · exact .of_eq rfl

theorem settings_goToSleep : settings (goToSleep s) = settings s :=
  (settings_computeIf _ _).trans ((settings_raise _ _ _).trans ((settings_lights _).trans ((settings_panelSleep _).trans
    (settings_mapPower s fun _ => rfl))))

theorem settings_wakePart (cause : SleepCause) : settings (wakePart cause s) = settings s :=
  (settings_computeIf _ _).trans ((settings_raise _ _ _).trans ((settings_lights _).trans ((settings_panelRestore _).trans
    (settings_mapPower s fun _ => rfl))))

theorem settings_wearToPower (w : Wear) : settings (wearToPower w s) = settings s := by
  cases w with
  | unknown => rfl
  | worn =>
    unfold wearToPower
    dsimp only
    split
    · exact settings_wakePart s _
    · rfl
  | removed =>
    unfold wearToPower
    dsimp only
    split <;> rfl

theorem kept_powerPolicy (q : Request) : Kept s (powerPolicy q s).state := by
  have h : ∀ t : State, settings (applyPolicy t) = settings t := fun t => by
    unfold applyPolicy
    split
    · split
      · exact settings_wakePart t _
      · rfl
    · split
      · exact settings_goToSleep t
      · rfl
  unfold powerPolicy
  dsimp only
  split
  · exact .refl s
  · exact .of_eq (h _)

/-! ## Motion Hub -/

theorem kept_motionConfig (q : Request) : Kept s (motionConfig q s).state := by
  unfold motionConfig
  dsimp only
  split
  · exact .refl s
  · split
    · exact .refl s
    · exact .of_eq ((settings_computeIf _ _).trans (settings_mapMotion s fun _ => rfl))

theorem settings_startExpiry : settings (startExpiry s) = settings s :=
  (settings_finishWaiting _ _ _ _).trans (settings_mapMotion s fun _ => rfl)

theorem settings_dataReady : settings (dataReady s) = settings s := by
  have h : ∀ t, settings (handleEdge t) = settings t := fun t => by
    unfold handleEdge
    split <;> rfl
  unfold dataReady captureEdge
  split
  · split
    · rfl
    · exact h _
  · rfl

theorem settings_nextRead : settings (nextRead s) = settings s := by
  unfold nextRead
  split
  · split <;> rfl
  · rfl

theorem settings_failPort : settings (failPort s) = settings s :=
  (settings_computeGrants _).trans (settings_mapMotion s fun _ => rfl)

theorem settings_failRead (cause : ReadCause) : settings (failRead cause s) = settings s := by
  unfold failRead
  dsimp only
  split
  · exact settings_failPort _
  · exact settings_nextRead _

theorem settings_sensorIsDue : settings (sensorIsDue s) = settings s := by
  unfold sensorIsDue
  dsimp only
  split
  · split
    · exact (settings_mapMotion _ fun _ => rfl).trans (settings_offer _ _)
    · rfl
  · rfl

theorem settings_readAnswer (began : Tick) (a : ImuAnswer) : settings (readAnswer began a s) = settings s := by
  have h : ∀ (x : Sample) (t : State), settings (storeSample x t) = settings t := fun x t => by
    unfold storeSample
    dsimp only
    split
    · exact settings_sensorIsDue _
    · rfl
  unfold readAnswer
  split
  · split
    · split
      · exact (settings_nextRead _).trans (h _ _)
      · exact settings_failRead s _
    · rfl
  · rfl

theorem settings_setChannel (c : Camera) (x : Channel) : settings (setChannel c x s) = settings s :=
  settings_mapCam s c fun _ => rfl

theorem settings_makeRecord (c : Camera) (x : Exposure) (a b d : Bool) : settings (makeRecord c x a b d s) = settings s :=
  settings_offer _ _

theorem settings_closeByDeadline (c : Camera) : settings (closeByDeadline c s) = settings s := by
  unfold closeByDeadline
  split
  · rw [settings_setChannel]
    split
    · exact settings_makeRecord _ _ _ _ _ _
    · exact settings_makeRecord _ _ _ _ _ _
    · rfl
  · exact settings_setChannel s _ _

theorem settings_recordEarly (c : Camera) : settings (recordEarly c s) = settings s := by
  unfold recordEarly
  split
  · split
    · exact settings_makeRecord _ _ _ _ _ _
    · rfl
  · rfl

theorem settings_closeEarly (c : Camera) (x : Channel) : settings (closeEarly c x s) = settings s := by
  unfold closeEarly
  split
  · exact (settings_setChannel _ _ _).trans (settings_recordEarly s c)
  · exact (settings_setChannel _ _ _).trans (settings_recordEarly s c)
  · exact settings_setChannel _ _ _
  · rfl

theorem settings_stopExposures : settings (stopExposures s) = settings s := by
  simp only [stopExposures, settings_closeEarly]

theorem settings_openChannel (c : Camera) : settings (openChannel c s) = settings s := settings_mapCam s c fun _ => rfl

theorem settings_openExposure (c : Camera) : settings (openExposure c s) = settings s := by
  unfold openExposure
  dsimp only
  rw [settings_lights]
  split
  · exact settings_openChannel _ c
  · exact (settings_openChannel _ c).trans (settings_closeByDeadline _ c)
  · rfl
  · rfl

theorem settings_closeExposure (c : Camera) : settings (closeExposure c s) = settings s := by
  refine (settings_lights _).trans ((settings_mapCam _ c fun k => ?_).trans rfl)
  unfold Cam.close
  split
  · split <;> rfl
  · rfl
  · rfl

theorem settings_validRise (c : Camera) : settings (validRise c s) = settings s := by
  unfold validRise
  split
  · split
    · exact settings_mapCam s c fun _ => rfl
    · rfl
  · rfl

theorem settings_validFall (c : Camera) : settings (validFall c s) = settings s := by
  unfold validFall
  split
  · split
    · refine (settings_mapCam _ c fun k => ?_).trans (settings_makeRecord s _ _ _ _ _)
      unfold Cam.ended
      split <;> rfl
    · rfl
  · rfl

theorem settings_enableCamera (c : Camera) (on : Bool) : settings (enableCamera c on s) = settings s := by
  unfold enableCamera
  split
  · rfl
  · rw [settings_computeGrants, settings_lights]
    split
    · exact settings_setChannel s c _
    · exact settings_closeEarly s c _

theorem kept_cameraConfig (q : Request) : Kept s (cameraConfig q s).state := by
  unfold cameraConfig
  dsimp only
  split
  · exact .refl s
  · exact .via (settings_enableCamera _ _ _) (kept_mapCam s _ fun _ _ => clampCode_le _)

theorem settings_changeWear (w : Wear) : settings (changeWear w s) = settings s :=
  (settings_wearToPower _ w).trans ((settings_setBlank _ _ _).trans ((settings_raise _ _ _).trans
    (settings_mapMotion s fun _ => rfl)))

theorem settings_proximityLevel (active : Bool) : settings (proximityLevel active s) = settings s := by
  have h : ∀ t : State, settings (t.mapMotion (Motion.debounce active)) = settings t := fun t =>
    settings_mapMotion t fun m => by unfold Motion.debounce; split <;> rfl
  unfold proximityLevel
  dsimp only
  split
  · unfold sampleProximity
    dsimp only
    split
    · exact (settings_changeWear _ _).trans ((settings_mapClock _ _).trans (h _))
    · exact (settings_mapClock _ _).trans (h _)
  · rfl

/-! ## Frame Timeline -/

theorem kept_apply (c : Commit) (hc : GuardSound s → Guarded c.windows s.tl.pendingBank.guard) :
    Kept s (s.mapTl (Timeline.apply c)) :=
  kept_mapTl s (fun h => ⟨hc h, fun _ hn => by cases hn⟩) id id (.inl rfl)

theorem kept_switchBank (b : Bool) : Kept s (switchBank b s) := by
  unfold switchBank
  split
  next c hc => exact .via (settings_finishWaiting _ _ _ _) (kept_apply s c fun h => h.2 c hc)
  next => exact .refl s

theorem kept_timelineCommit (q : Request) : Kept s (timelineCommit q s).state := by
  unfold timelineCommit
  dsimp only
  split
  · exact .refl s
  · split
    · exact .refl s
    · split
      · show Kept s (s.mapTl fun t => { t with waiting := some _ })
        refine kept_mapTl s (fun h => ⟨h.1, fun c hc => ?_⟩) id id (.inl rfl)
        cases hc
        exact commitOf_guarded _ _
      · exact .via (settings_computeGrants _) (kept_apply s _ fun _ => commitOf_guarded _ _)

theorem kept_timelineSet (q : Request) : Kept s (timelineSet q s).state := by
  unfold timelineSet
  split
  · exact .refl s
  next hw =>
    show Kept s (s.mapTl fun t => { t with pendingBank := parseBank q.body })
    refine kept_mapTl s (fun h => ⟨h.1, fun c hc => ?_⟩) id id (.inl rfl)
    have hc : s.tl.waiting = some c := hc
    rw [hc] at hw
    exact absurd rfl hw

theorem adjustment_bounds (e : Int) : -20 ≤ adjustment e ∧ adjustment e ≤ 20 := clampInt_bounds (by decide) _

theorem kept_lockPhase (e : Int) : Kept s (lockPhase e s) := by
  unfold lockPhase
  dsimp only
  split
  · have h : Kept s (s.mapTl fun t => { t with lockRun := bump 8 t.lockRun }) :=
      kept_mapTl s (guardSound_mapTl s rfl rfl rfl (.inl rfl)) (fun _ => bump_le) id (.inl rfl)
    split
    · exact .via (settings_changePhase _ _ _) h
    · exact h
  · have h : Kept s (s.mapTl fun t => { t with lockRun := 0 }) :=
      kept_lockRun_zero s fun _ => ⟨rfl, rfl, rfl, rfl, rfl, rfl, rfl⟩
    split
    · exact .via (settings_changePhase _ _ _) h
    · exact h

theorem kept_adjustPhase : Kept s (adjustPhase s) := by
  have h0 : Kept s (s.mapTl fun t => { t with adj := 0, frameError := none }) :=
    kept_mapTl s (guardSound_mapTl s rfl rfl rfl (.inl rfl)) id (fun _ => (by decide : (-20 : Int) ≤ 0 ∧ (0 : Int) ≤ 20)) (.inl rfl)
  unfold adjustPhase
  split
  · split
    · exact .after (kept_lockPhase _ _)
        (kept_mapTl s (guardSound_mapTl s rfl rfl rfl (.inl rfl)) id (fun _ => adjustment_bounds _) (.inl rfl))
    · exact h0
  · exact h0

theorem kept_frameAnchor (q : Request) : Kept s (frameAnchor q s).state := by
  unfold frameAnchor
  split
  · exact .via (settings_changePhase _ _ _) (kept_lockRun_zero s fun _ => ⟨rfl, rfl, rfl, rfl, rfl, rfl, rfl⟩)
  · exact .refl s

theorem settings_handOver (b : Bool) : settings (handOver b s) = settings s :=
  (settings_clearFrame _).trans (settings_mapTl s fun _ => ⟨rfl, rfl, rfl, rfl, rfl, rfl, rfl⟩)

theorem settings_recordDue : settings (recordDue s) = settings s := by
  unfold recordDue
  dsimp only
  split
  · exact settings_offer _ _
  · rfl

theorem settings_countFrame : settings (countFrame s) = settings s := by
  unfold countFrame
  dsimp only
  split
  · exact settings_recordDue _
  · rfl

theorem kept_beginFrame : Kept s (beginFrame s) :=
  .via (settings_mapMotion _ fun _ => rfl)
    (kept_mapTl s (guardSound_mapTl s rfl rfl rfl (.inl rfl)) id id (.inr rfl))

theorem settings_tellPhase : settings (s.mapTl Timeline.tellPhase) = settings s := rfl

theorem kept_startFrame : Kept s (startFrame s) :=
  .via (settings_computeGrants _) (.after (kept_closeAverage _) (.via ((settings_countFrame _).trans (settings_tellPhase _))
    (.after (kept_adjustPhase _) (.after (kept_switchBank _ _) (.after (kept_beginFrame _)
      (.of_eq (settings_handOver s _)))))))

theorem kept_beginRun : Kept s (beginRun s) :=
  .via (settings_computeGrants _) (.via (settings_mapPower _ fun _ => rfl) (.after (kept_adjustPhase _)
    (.after (kept_beginFrame _) (.of_eq rfl))))

theorem kept_timelineRun (q : Request) : Kept s (timelineRun q s).state := by
  unfold timelineRun
  split
  · exact .refl s
  · split
    · exact .refl s
    · exact kept_beginRun s

theorem kept_latchAtStart (e : Eye) : Kept s (latchAtStart e s) := by
  unfold latchAtStart
  split
  next h => exact kept_latchEye s e (by have := h.2; simp only [latchDue, Bool.and_eq_true] at this; exact this.1.1)
  next => exact .refl s

theorem kept_latchesAtStart : Kept s (latchesAtStart s) := .after (kept_latchAtStart _ _) (kept_latchAtStart s _)

theorem settings_stopDisplay : settings (stopDisplay s) = { settings s with shifts := .both .zero } := rfl

/-- The halt and the Display Output's part of it together: no shift is latched in STOPPED. -/
theorem kept_halted : Kept s (stopDisplay (countFrame (s.mapTl Timeline.halt))) := by
  constructor <;> rw [settings_stopDisplay, settings_countFrame]
  · exact id
  · exact id
  · rintro ⟨h1, h2, -, -, h5⟩
    exact ⟨h1, h2, (by decide : (-20 : Int) ≤ 0), (by decide : (0 : Int) ≤ 20), h5⟩
  · exact id
  · intro _ e
    rw [show (PerEye.both Shift.zero).get e = .zero from PerEye_get_both _ e]
    exact ⟨withinMargins_zero _, fun _ => rfl⟩

theorem kept_stopTimeline : Kept s (stopTimeline s) := by
  have hc : ∀ t : State, Kept t (commitAtStop t) := fun t => by
    unfold commitAtStop
    split
    · exact .via (settings_computeGrants _) (kept_switchBank t _)
    · exact .refl t
  exact .after (hc _) (.after (kept_loosenPhase _) (.after (kept_closeAverage _) (.via (settings_lights _)
    (.after (kept_halted _) (.via ((settings_handOver _ _).trans (settings_stopExposures _)) (kept_latchesAtStart s))))))

theorem kept_timelineStop (q : Request) : Kept s (timelineStop q s).state := by
  unfold timelineStop
  dsimp only [Done.ok]
  split
  · exact kept_stopTimeline s
  · exact .refl s

theorem kept_phaseSessionStart : Kept s (phaseSessionStart s) :=
  .via (settings_changePhase _ _ _) (kept_lockRun_zero s fun _ => ⟨rfl, rfl, rfl, rfl, rfl, rfl, rfl⟩)

theorem kept_withdrawCommit : Kept s (withdrawCommit s) :=
  kept_mapTl s (guardSound_mapTl s rfl rfl rfl (.inr rfl)) id id (.inl rfl)

end

end Sys2Proof.Machine
end

section
namespace Sys2Proof.Machine
open Sys2Proof

/-! ## Audio Engine -/

section
variable (s : State)

theorem startPlaying_gains (a : Audio) : a.startPlaying.requested = a.requested ∧ a.startPlaying.gain = a.gain := by
  unfold Audio.startPlaying; split <;> exact ⟨rfl, rfl⟩

theorem settings_appendFrames (seq : BitVec 16) (frames : List Stereo) :
    settings (appendFrames seq frames s) = settings s := by
  unfold appendFrames
  dsimp only
  rw [settings_raiseIf]
  exact settings_mapAudio s fun _ => startPlaying_gains _

theorem settings_receiveBlock (p : List Byte) : settings (receiveBlock p s) = settings s := by
  have hc : ∀ seq, settings (s.mapAudio (Audio.checkSequence seq)) = settings s := fun _ => rfl
  unfold receiveBlock
  split
  · unfold takeBlock
    dsimp only
    split
    · rfl
    · rfl
    all_goals exact (settings_appendFrames _ _ _).trans (hc _)
  · rfl

theorem settings_sendFrame : settings (sendFrame s) = settings s := by
  have hr : settings (s.mapAudio Audio.rampFrame) = settings s :=
    settings_mapAudio s fun a => by unfold Audio.rampFrame; split <;> exact ⟨rfl, rfl⟩
  unfold sendFrame
  dsimp only
  split
  · rfl
  · rfl
  · rfl
  · split <;> rfl
  · split
    · exact hr
    · exact hr

theorem settings_gatherCapture (width : Nat) (slots : List (BitVec 32)) :
    settings (gatherCapture width slots s) = settings s := by
  unfold gatherCapture
  dsimp only
  split
  · unfold storeCapture
    split
    · rfl
    · exact settings_raiseIf _ _ _ _
  · rfl

theorem settings_advanceDivider : settings (advanceDivider s) = settings s := by
  unfold advanceDivider
  dsimp only
  split <;> rfl

theorem settings_captureLevel (slots : List (BitVec 32)) : settings (captureLevel slots s) = settings s := by
  unfold captureLevel
  dsimp only
  split
  · exact (settings_advanceDivider _).trans ((settings_gatherCapture _ _ _).trans (settings_sendFrame _))
  · rfl

theorem kept_audioConfig (q : Request) : Kept s (audioConfig q s).state := by
  unfold audioConfig
  split
  · exact .refl s
  · split
    · exact .refl s
    · exact .of_eq rfl

theorem kept_audioStart (q : Request) : Kept s (audioStart q s).state := by
  unfold audioStart
  dsimp only [Done.ok]
  split
  · exact .of_eq ((settings_computeGrants _).trans rfl)
  · exact .refl s

theorem kept_audioStop (q : Request) : Kept s (audioStop q s).state := by
  unfold audioStop
  split
  · exact .refl s
  · exact .of_eq ((settings_computeGrants _).trans rfl)

theorem kept_audioVolume (q : Request) : Kept s (audioVolume q s).state :=
  kept_mapAudio s (f := fun a => { a with requested := clampInt (-180) 0 _ }) fun _ hg =>
    ⟨clampInt_bounds (by decide) _, hg⟩

theorem kept_captureStart (q : Request) : Kept s (captureStart q s).state := by
  unfold captureStart
  dsimp only [Done.ok]
  split
  · exact .refl s
  · exact .of_eq rfl

theorem kept_captureStop (q : Request) : Kept s (captureStop q s).state := by
  unfold captureStop
  split
  · exact .of_eq rfl
  · exact .refl s

theorem level_gainInRange (l : Level) : gainInRange l.gain := by
  cases l <;> exact ⟨by decide, by decide⟩

/-- The gain stays in its range, for it steps toward a target in it (R116, R118). -/
theorem stepGain_inRange {a : Audio} (hr : gainInRange a.requested) (hg : gainInRange a.gain) :
    gainInRange a.stepGain.requested ∧ gainInRange a.stepGain.gain := by
  obtain ⟨h1, h2⟩ := hr
  obtain ⟨h3, h4⟩ := hg
  obtain ⟨h5, h6⟩ := level_gainInRange a.ceiling
  unfold Audio.stepGain Audio.target
  split
  · exact ⟨⟨h1, h2⟩, by simp only [gainInRange]; omega⟩
  · split
    · exact ⟨⟨h1, h2⟩, by simp only [gainInRange]; omega⟩
    · exact ⟨⟨h1, h2⟩, h3, h4⟩

theorem kept_stepGain : Kept s (stepGain s) := .via (settings_mapClock _ _) (kept_mapAudio s stepGain_inRange)

theorem settings_faultLevel (b : Bool) : settings (faultLevel b s) = settings s := by
  unfold faultLevel
  dsimp only
  split
  · exact (settings_raise _ _ _).trans (settings_setMute _ _ _)
  · split
    · exact settings_setMute _ _ _
    · rfl

/-! ## Tether Link -/

theorem kept_startSession : Kept s (startSession s) :=
  .via ((settings_raise _ _ _).trans ((settings_setMute _ _ _).trans ((settings_lights _).trans (settings_unblank _ _))))
    (.after (kept_phaseSessionStart _) (.after (kept_timebaseSessionStart _) (.of_eq (settings_mapLink s _))))

theorem kept_endSession : Kept s (endSession s) :=
  .via ((settings_raise _ _ _).trans ((settings_setMute _ _ _).trans ((settings_mapAudio _ fun _ => ⟨rfl, rfl⟩).trans
    (settings_blank _ _)))) (.after (kept_withdrawCommit _) (.of_eq rfl))

/-- A valid packet keeps the settings sound where its owner's part does. -/
theorem kept_completeValid {hand : State → State} (h : ∀ t, Kept t (hand t)) : Kept s (completeValid hand s) := by
  unfold completeValid
  dsimp only
  split
  · exact .of_eq rfl
  · exact .of_eq rfl
  · split
    · exact .after (h _) (.after (kept_startSession _) (.of_eq rfl))
    · exact .of_eq rfl
  · exact .after (h _) (.of_eq rfl)
  · exact .after (h _) (.of_eq rfl)

theorem kept_videoPacket {hand : State → State} (h : ∀ t, Kept t (hand t)) : Kept s (videoPacket hand s) :=
  .after (kept_completeValid _ h) (.of_eq rfl)

theorem kept_audioPacket (p : List Byte) : Kept s (audioPacket p s) :=
  .after (kept_completeValid _ fun t => .of_eq (settings_receiveBlock t p)) (.of_eq rfl)

theorem settings_admitCtrl (p : List Byte) : settings (admitCtrl p s) = settings s := by
  unfold admitCtrl
  split <;> rfl

theorem kept_ctrlPacket (p : List Byte) : Kept s (ctrlPacket p s) :=
  .after (kept_completeValid _ fun t => .of_eq (settings_admitCtrl t p)) (.of_eq rfl)

theorem kept_receiveMark (d : Tick) (p : List Byte) : Kept s (receiveMark d p s) := by
  unfold receiveMark
  split
  · exact kept_processMark s d _
  · exact .refl s

theorem kept_markPacket (age : Nat) (p : List Byte) : Kept s (markPacket age p s) :=
  .after (kept_completeValid _ fun t => kept_receiveMark t _ p) (.of_eq rfl)

theorem kept_fillPacket : Kept s (fillPacket s) := .after (kept_completeValid _ .refl) (.of_eq rfl)

theorem kept_unknownPacket : Kept s (unknownPacket s) := .after (kept_completeValid _ .refl) (.of_eq rfl)

theorem settings_endWindow : settings (endWindow s) = settings s := settings_raiseIf _ _ _ _

theorem settings_startSuperframe : settings (startSuperframe s) = settings s := by
  unfold startSuperframe
  dsimp only
  split
  · exact settings_endWindow _
  · rfl

theorem settings_placeReports : ∀ (rs : List Report) (s : State), settings (placeReports rs s).2 = settings s
  | [], _ => rfl
  | _ :: rs, s => (settings_placeReports rs _).trans (settings_stamped s _ _)

theorem settings_fillSlot (c : SlotClass) : settings (fillSlot c s).2 = settings s := by
  unfold fillSlot
  split
  · rfl
  · rfl
  · exact settings_placeReports _ _
  · exact (settings_mapAudio _ fun _ => ⟨rfl, rfl⟩).trans (settings_stamped s _ _)
  · rfl
  · rfl

theorem settings_beginSlot : settings (beginSlot s) = settings s := settings_fillSlot s _

theorem kept_linkSlots (q : Request) : Kept s (linkSlots q s).state := by
  unfold linkSlots
  split
  · exact .refl s
  · dsimp only
    split
    · exact .of_eq rfl
    · exact .refl s

/-! ## Requests of the device -/

theorem kept_grantSet (q : Request) : Kept s (grantSet q s).state := by
  unfold grantSet
  dsimp only
  split
  · exact .refl s
  · split
    · exact .refl s
    · exact .of_eq rfl

/-- SYSTEM_RESET: the Timebase stays, and every other setting takes its reset value. -/
theorem kept_systemReset (q : Request) : Kept s (systemReset q s).state := by
  refine .via (settings_mapReq _ _) (.via (settings_computeGrants _) ?_)
  have h : settings (resetBlocks (s.mapReq discardEntries)) =
      { settings State.reset with rate := s.time.rate, lockCount := s.time.lockCount } := rfl
  constructor <;> rw [h]
  · exact fun _ => guardSound_reset
  · exact id
  · exact fun hs => ⟨hs.1, rangesSound_reset.2⟩
  · exact fun _ e => by cases e <;> rfl
  · exact fun _ => shiftSound_reset

/-! ## Every command -/

/-- An outcome whose next state keeps the invariants of the settings. -/
def KeptBy (s : State) (o : Host.Outcome State Fault Refusal) : Prop := ∀ t, o = .next t → Kept s t

theorem keptBy_next {t : State} (h : Kept s t) : KeptBy s (.next t) := fun _ ht => by cases ht; exact h

theorem keptBy_act {due : Bool} {f : State → State} (h : Kept s (f s)) : KeptBy s (act due f s) := by
  refine keptBy_next s ?_
  split
  · exact h
  · exact .refl s

theorem keptBy_act_due {due : Bool} {f : State → State} (h : due = true → Kept s (f s)) : KeptBy s (act due f s) := by
  refine keptBy_next s ?_
  split
  next hd => exact h (by rw [Bool.and_eq_true] at hd; exact hd.2)
  next => exact .refl s

theorem kept_checked (q : Request) (row : KindRow) {pass : State → State} (h : Kept s (pass s)) :
    Kept s (checked q row pass s) := by
  unfold checked
  split
  · exact .of_eq (settings_recordDuplicate s q)
  · exact .of_eq (settings_refuse s _ _ _ _)
  · exact h

theorem kept_serve {owner : Request → State → Done} (h : ∀ q t, Kept t (owner q t).state) : Kept s (serve owner s) := by
  unfold serve
  split
  · exact .after (kept_checked _ _ _ (.via (settings_answer _ _ _ _) (h _ _))) (.of_eq (settings_popIntake s))
  · exact .refl s

theorem settings_heldReply (q : Request) (w : Wait) (d : Held) : settings (d.reply q w) = settings d.state := by
  unfold Held.reply
  split <;> rfl

theorem kept_serveHeld {wait : Request → Wait} {owner : Request → State → Held} (h : ∀ q t, Kept t (owner q t).state) :
    Kept s (serveHeld wait owner s) := by
  unfold serveHeld
  split
  · exact .after (kept_checked _ _ _ (.via (settings_heldReply _ _ _) (.after (h _ _) (.of_eq (settings_addEntry _ _ _)))))
      (.of_eq (settings_popIntake s))
  · exact .refl s

theorem settings_serveUnknown : settings (serveUnknown s) = settings s := by
  unfold serveUnknown
  split
  · dsimp only
    split <;> rfl
  · rfl

/-- The taking of a request whose owner keeps the settings sound. -/
theorem keptBy_serve {due : Bool} {owner : Request → State → Done} (h : ∀ q t, Kept t (owner q t).state) :
    KeptBy s (act due (serve owner) s) := keptBy_act s (kept_serve s h)

theorem keptBy_serveHeld {due : Bool} {wait : Request → Wait} {owner : Request → State → Held}
    (h : ∀ q t, Kept t (owner q t).state) : KeptBy s (act due (serveHeld wait owner) s) :=
  keptBy_act s (kept_serveHeld s h)

/-- A request that only reads. -/
theorem keptBy_read {due : Bool} (body : State → ReplyBody) :
    KeptBy s (act due (serve fun _ t => .ok t (body t)) s) := keptBy_serve s fun _ t => .refl t

/-- A command that leaves the settings as they are. -/
theorem keptBy_same {due : Bool} {f : State → State} (h : settings (f s) = settings s) : KeptBy s (act due f s) :=
  keptBy_act s (.of_eq h)

/-- Every command keeps every invariant of the settings. -/
theorem keptBy_exec (i : Instr) : KeptBy s (exec i s) := by
  cases i with
  | startUp mv =>
    refine keptBy_next s ?_
    split
    · exact .refl s
    · split
      · exact .after (kept_startPart _) (.of_eq (settings_mapPins s _))
      · exact .of_eq (settings_mapPins s _)
  | powerOnReset mv =>
    refine keptBy_next s ?_
    split
    · exact .after (kept_holdReset _) (.of_eq (settings_mapPins s _))
    · exact .refl s
  | frameHead p => exact keptBy_act s (kept_videoPacket s fun t => .of_eq (settings_receiveHead t p))
  | row p => exact keptBy_act s (kept_videoPacket s fun t => kept_receiveRow t p)
  | audioBlock p => exact keptBy_act s (kept_audioPacket s p)
  | timeMark age p => exact keptBy_act s (kept_markPacket s age p)
  | syncLock e => exact keptBy_same s (settings_changeSync s _ _ _)
  | ctrl p => exact keptBy_act s (kept_ctrlPacket s p)
  | fill _ => exact keptBy_act s (kept_fillPacket s)
  | unknownClassPacket => exact keptBy_act s (kept_unknownPacket s)
  | badPacket => exact keptBy_same s rfl
  | sessionStart => exact keptBy_act s (kept_startSession s)
  | silenceTimerExpiry => exact keptBy_same s rfl
  | holdTimerExpiry => exact keptBy_act s (kept_endSession s)
  | superframeStart => exact keptBy_same s (settings_startSuperframe s)
  | badPacketWindowEnd => exact keptBy_same s (settings_endWindow s)
  | upstreamSlot => exact keptBy_same s (settings_beginSlot s)
  | unknownKind => exact keptBy_same s (settings_serveUnknown s)
  | deviceIdentify => exact keptBy_read s fun _ => _
  | deviceStatus => exact keptBy_read s fun t => .deviceStatus (deviceStatusOf t)
  | systemReset => exact keptBy_serve s fun q t => kept_systemReset t q
  | grantSet => exact keptBy_serve s fun q t => kept_grantSet t q
  | faultRead => exact keptBy_read s fun t => .fault t.req.fault
  | faultClear => exact keptBy_serve s fun _ t => .of_eq rfl
  | linkSlots => exact keptBy_serve s fun q t => kept_linkSlots t q
  | linkStatus => exact keptBy_read s fun t => .linkStatus (linkStatusOf t)
  | timeStatus => exact keptBy_read s fun t => .timeStatus (timeStatusOf t)
  | timelineSet => exact keptBy_serve s fun q t => kept_timelineSet t q
  | timelineCommit => exact keptBy_serveHeld s fun q t => kept_timelineCommit t q
  | timelineRun => exact keptBy_serve s fun q t => kept_timelineRun t q
  | timelineStop => exact keptBy_serve s fun q t => kept_timelineStop t q
  | frameAnchor => exact keptBy_serve s fun q t => kept_frameAnchor t q
  | timelineStatus => exact keptBy_read s fun t => .timelineStatus (timelineStatusOf t)
  | displayConfig => exact keptBy_serve s fun q t => kept_displayConfig t q
  | displayDrive => exact keptBy_serve s fun q t => kept_displayDrive t q
  | panelPowerOn => exact keptBy_serveHeld s fun q t => kept_panelOn t q
  | panelPowerOff => exact keptBy_serve s fun q t => kept_panelOff t q
  | displayBlank => exact keptBy_serve s fun _ t => .of_eq (settings_blank t _)
  | displayResume => exact keptBy_serve s fun _ t => .of_eq (settings_clearLatches t)
  | displayStatus => exact keptBy_read s fun t => .displayStatus (displayStatusOf t)
  | lateShift => exact keptBy_serve s fun q t => kept_lateShift t q
  | motionConfig => exact keptBy_serveHeld s fun q t => kept_motionConfig t q
  | cameraConfig => exact keptBy_serve s fun q t => kept_cameraConfig t q
  | motionStatus => exact keptBy_read s fun t => .motionStatus (motionStatusOf t)
  | audioConfig => exact keptBy_serve s fun q t => kept_audioConfig t q
  | audioStart => exact keptBy_serve s fun q t => kept_audioStart t q
  | audioStop => exact keptBy_serve s fun q t => kept_audioStop t q
  | audioVolume => exact keptBy_serve s fun q t => kept_audioVolume t q
  | audioMuteOn => exact keptBy_serve s fun _ t => .of_eq (settings_setMute t _ _)
  | audioMuteOff => exact keptBy_serve s fun _ t => .of_eq (settings_setMute t _ _)
  | captureStart => exact keptBy_serve s fun q t => kept_captureStart t q
  | captureStop => exact keptBy_serve s fun q t => kept_captureStop t q
  | audioStatus => exact keptBy_read s fun t => .audioStatus (audioStatusOf t)
  | powerContract => exact keptBy_serve s fun q t => kept_powerContract t q
  | powerPolicy => exact keptBy_serve s fun q t => kept_powerPolicy t q
  | powerStatus => exact keptBy_read s fun t => .powerStatus (powerStatusOf t)
  | frameStart => exact keptBy_act s (kept_startFrame s)
  | phaseLocked => exact keptBy_same s (settings_changePhase s _ _)
  | frameRecordDue => exact keptBy_same s (settings_recordDue s)
  | derateUp => exact keptBy_act s (kept_derateUp s)
  | derateDown => exact keptBy_act s (kept_derateDown s)
  | latch e =>
    exact keptBy_act_due s fun hd => kept_latchEye s e (by simp only [latchDue, Bool.and_eq_true] at hd; exact hd.1.1)
  | videoStall e => exact keptBy_same s (settings_stall s e)
  | scanWindowOpen e => exact keptBy_same s (settings_openScan s e)
  | scanRow e => exact keptBy_same s (settings_scanEye s e)
  | strobeWindowOpen e => exact keptBy_same s (settings_openStrobe s e)
  | strobeWindowClose e => exact keptBy_same s (settings_closeStrobe s e)
  | exposureWindowOpen c => exact keptBy_same s (settings_openExposure s c)
  | exposureWindowClose c => exact keptBy_same s (settings_closeExposure s c)
  | exposureDeadline c => exact keptBy_same s (settings_closeByDeadline s c)
  | frameValidRise c => exact keptBy_same s (settings_validRise s c)
  | frameValidFall c => exact keptBy_same s (settings_validFall s c)
  | wakeTimerExpiry e => exact keptBy_same s (settings_wakeExpiry s e)
  | startTimerExpiry => exact keptBy_same s (settings_startExpiry s)
  | dataReadyEdge => exact keptBy_same s (settings_dataReady s)
  | imuReadAnswer began a => exact keptBy_same s (settings_readAnswer s began a)
  | imuReadTimeout => exact keptBy_same s (settings_failRead s _)
  | imuPortFailed => exact keptBy_same s (settings_failPort s)
  | sensorDue => exact keptBy_same s (settings_sensorIsDue s)
  | proximitySample a => exact keptBy_next s (.of_eq (settings_proximityLevel s a))
  | wearChanged => exact keptBy_same s (settings_changeWear s _)
  | sleepTimerExpiry => exact keptBy_same s (settings_goToSleep s)
  | holdoverCoarse => exact keptBy_act s (kept_becomeCoarse s)
  | holdoverUnsynced => exact keptBy_act s (kept_becomeUnsynced s)
  | audioFrameBoundary slots => exact keptBy_next s (.of_eq (settings_captureLevel s slots))
  | dividerRecompute => exact keptBy_same s rfl
  | muteRampEnd => exact keptBy_same s rfl
  | gainStep => exact keptBy_act s (kept_stepGain s)
  | codecFaultAssert => exact keptBy_next s (.of_eq (settings_faultLevel s _))
  | codecFaultDeassert => exact keptBy_next s (.of_eq (settings_faultLevel s _))
  | inputMonitorSample mv ma => exact keptBy_next s (kept_inputLevel s mv ma)
  | brownoutBegin => exact keptBy_same s (settings_beginBrownout s)
  | brownoutEnd => exact keptBy_same s (settings_endBrownout s)
  | malformedVideoPacket => exact keptBy_act s (kept_videoPacket s fun t => .of_eq (settings_countMalformed t))

theorem settings_advance : settings (advance s) = settings s := by
  have ht : s.tl.advance = { s.tl with counter := s.tl.advance.counter } := by
    unfold Timeline.advance; split <;> rfl
  have he : ∀ d : EyeDisplay, d.SameSettings d.advance := fun d => by
    unfold EyeDisplay.advance; split <;> exact ⟨rfl, rfl, rfl⟩
  have hm : s.motion.advance.cams = s.motion.cams := by unfold Motion.advance; split <;> rfl
  obtain ⟨l1, l2, l3⟩ := he s.disp.eyes.left
  obtain ⟨r1, r2, r3⟩ := he s.disp.eyes.right
  simp only [settings, advance, PerEye.map, l1, l2, l3, r1, r2, r3, hm]
  rw [ht]
  rfl

/-- Every step keeps every invariant of the settings. -/
theorem kept_step {t : State} (h : step s = .next t) : Kept s t := by
  unfold step at h
  split at h
  · exact .trans (.of_eq (settings_withPending s _)) (keptBy_exec _ _ t h)
  · unfold idle at h
    split at h
    · unfold runPart at h
      split at h
      · exact keptBy_next s (.of_eq (settings_advance s)) t h
      · exact keptBy_exec s _ t h
      · exact .trans (.of_eq (settings_mapFree s _)) (keptBy_exec _ _ t h)
    · split at h
      · exact keptBy_exec s _ t h
      · exact keptBy_next s (.refl s) t h

end

/-- Settles O56: the trimming of a commit keeps the guard, and nothing else makes windows. -/
theorem guardKept : Obligations.GuardKept := by
  unfold Obligations.GuardKept
  intro s t hs h
  exact (guardSound_iff t).2 ((kept_step s h).guard ((guardSound_iff s).1 hs))

/-- Settles O59, by what every command does to the settings. -/
theorem settingsKept : Obligations.SettingsKept := by
  unfold Obligations.SettingsKept
  intro s t h
  have k := kept_step s h
  exact ⟨fun hs => (rateSound_iff t).2 (k.rate ((rateSound_iff s).1 hs)),
    fun hs => (rangesSound_iff t).2 (k.ranges ((rangesSound_iff s).1 hs)),
    fun hs => (storesSound_iff t).2 (k.stores ((storesSound_iff s).1 hs)),
    fun hs => (shiftSound_iff t).2 (k.shift ((shiftSound_iff s).1 hs))⟩

end Sys2Proof.Machine
end

section
namespace Sys2Proof.Machine
open Sys2Proof

/-! ## What each due condition says (R3, R4, R33, R132, R152, R162) -/

section
variable (s : State)

theorem anyOpen_eq_false (t : Timeline) :
    t.anyOpen = false ↔ (∀ e, t.strobe.get e ≠ .opened) ∧ ∀ k, t.expose.get k ≠ .opened := by
  have he : (∀ e, t.strobe.get e ≠ .opened) ↔ t.strobe.left ≠ .opened ∧ t.strobe.right ≠ .opened :=
    ⟨fun h => ⟨h .left, h .right⟩, fun h e => by cases e; exacts [h.1, h.2]⟩
  have hk : (∀ k, t.expose.get k ≠ .opened) ↔
      t.expose.c0 ≠ .opened ∧ t.expose.c1 ≠ .opened ∧ t.expose.c2 ≠ .opened ∧ t.expose.c3 ≠ .opened :=
    ⟨fun h => ⟨h 0, h 1, h 2, h 3⟩, fun ⟨h0, h1, h2, h3⟩ k =>
      match k with
      | 0 => h0
      | 1 => h1
      | 2 => h2
      | 3 => h3⟩
  rw [he, hk]
  simp only [Timeline.anyOpen, Bool.or_eq_false_iff, beq_eq_false_iff_ne, and_assoc]

theorem frameStartDue_iff : frameStartDue s = true ↔
    s.tl.running = true ∧ (s.tl.active.period : Int) + s.tl.adj ≤ s.tl.counter ∧ (∀ e, s.tl.strobe.get e ≠ .opened) ∧
      ∀ k, s.tl.expose.get k ≠ .opened := by
  unfold frameStartDue Timeline.frameEnd
  simp only [Bool.and_eq_true, decide_eq_true_eq, Bool.not_eq_true', anyOpen_eq_false, and_assoc]

theorem latchDue_iff (e : Eye) : latchDue s e = true ↔
    s.tl.running = true ∧ s.tl.latched.get e = false ∧ (s.tl.windows.scan.get e).on = true ∧
      ∃ lead, s.tl.leads.get e = some lead ∧ (s.tl.windows.scan.get e).start - lead ≤ s.tl.counter := by
  simp only [latchDue, Timeline.latchPoint, Bool.and_eq_true, Bool.not_eq_true', and_assoc]
  cases (s.tl.windows.scan.get e).on <;> cases s.tl.leads.get e <;> simp

theorem scanOpenDue_iff (e : Eye) : scanOpenDue s e = true ↔
    s.tl.running = true ∧ (s.tl.windows.scan.get e).on = true ∧ s.tl.scanOpened.get e = false ∧
      s.tl.latched.get e = true ∧ (s.tl.windows.scan.get e).start ≤ s.tl.counter := by
  simp only [scanOpenDue, Bool.and_eq_true, Bool.not_eq_true', decide_eq_true_eq, and_assoc]

theorem scanRowDue_iff (e : Eye) : scanRowDue s e = true ↔
    s.tl.running = true ∧ ∃ k, (s.disp.eyes.get e).scan = some k ∧ k < s.disp.config.rows ∧
      rowInstant (s.tl.windows.scan.get e) s.disp.config.rows k ≤ s.tl.counter := by
  rw [scanRowDue, Bool.and_eq_true]
  cases (s.disp.eyes.get e).scan <;> simp

theorem windowOpenDue_iff (t : Timeline) (w : Window) (p : WindowPhase) : windowOpenDue t w p = true ↔
    t.running = true ∧ w.on = true ∧ p = .before ∧ w.start ≤ t.counter := by
  simp only [windowOpenDue, Bool.and_eq_true, beq_iff_eq, decide_eq_true_eq, and_assoc]

theorem windowCloseDue_iff (t : Timeline) (w : Window) (p : WindowPhase) : windowCloseDue t w p = true ↔
    t.running = true ∧ p = .opened ∧ w.stop ≤ t.counter := by
  simp only [windowCloseDue, Bool.and_eq_true, beq_iff_eq, decide_eq_true_eq, and_assoc]

theorem wakeDue_iff (e : Eye) : wakeDue s e = true ↔
    (s.disp.eyes.get e).panel = .waking ∧ (s.disp.eyes.get e).wake = 0 := by
  simp only [wakeDue, Bool.and_eq_true, beq_iff_eq]

theorem deadlineDue_iff (c : Camera) : deadlineDue s c = true ↔ (s.motion.cams.get c).state = .closing ∧
    ∃ x, (s.motion.cams.get c).context = some x ∧ 0 ≤ tickDiff s.now x.deadline := by
  rw [deadlineDue, Bool.and_eq_true, beq_iff_eq]
  cases (s.motion.cams.get c).context <;> simp

theorem startDue_iff : startDue s = true ↔ s.motion.port = .starting ∧ s.motion.start = 0 := by
  simp only [startDue, Bool.and_eq_true, beq_iff_eq]

theorem readTimeoutDue_iff : readTimeoutDue s = true ↔
    s.motion.port = .running ∧ ∃ r, s.motion.read = some r ∧ 100 ≤ tickDiff s.now r.began := by
  rw [readTimeoutDue, Bool.and_eq_true, beq_iff_eq]
  cases s.motion.read <;> simp

theorem silenceDue_iff : silenceDue s = true ↔ s.link.state = .up ∧ 200 ≤ s.link.silence := by
  simp only [silenceDue, Bool.and_eq_true, beq_iff_eq, decide_eq_true_eq]

theorem holdDue_iff : holdDue s = true ↔ s.link.state = .hold ∧ 20000 ≤ s.link.hold := by
  simp only [holdDue, Bool.and_eq_true, beq_iff_eq, decide_eq_true_eq]

/-- An event of each multiple of `n` ticks that has not been done at this tick. -/
theorem multipleOf_pending_iff (n : Nat) (done : Bool) :
    (multipleOf n s.now && !done) = true ↔ s.now.toNat % n = 0 ∧ done = false := by
  simp only [multipleOf, Bool.and_eq_true, beq_iff_eq, Bool.not_eq_true']

theorem slotDue_iff : slotDue s = true ↔ s.link.nextSlot < 16 ∧
    ((s.link.nextSlot * 125 / 8 : Nat) : Int) ≤ tickDiff s.now s.link.superframeTick := by
  unfold slotDue slotOffset
  simp only [Bool.and_eq_true, decide_eq_true_eq]

theorem boundaryDue_iff : boundaryDue s = true ↔ s.audio.cycles < 48 := decide_eq_true_iff

theorem faultDue_iff : faultDue s = true ↔ s.pins.codecFault = true ∧ s.audio.mute.codec = false := by
  simp only [faultDue, Bool.and_eq_true, Bool.not_eq_true']

theorem faultClearDue_iff : faultClearDue s = true ↔ s.pins.codecFault = false ∧ s.audio.mute.codec = true := by
  simp only [faultClearDue, Bool.and_eq_true, Bool.not_eq_true']

theorem sleepDue_iff : sleepDue s = true ↔ s.power.asleep = false ∧ 1 ≤ s.power.timeout ∧
    ∃ n, s.power.sleepTimer = some n ∧ s.power.timeout * 1000000 ≤ n := by
  simp only [sleepDue, Bool.and_eq_true, Bool.not_eq_true', decide_eq_true_eq, and_assoc]
  cases s.power.sleepTimer <;> simp

theorem holdoverCoarseDue_iff : holdoverCoarseDue s = true ↔
    s.time.sync = .locked ∧ 10000000 ≤ tickDiff s.now s.time.dLast := by
  unfold holdoverCoarseDue Timebase.elapsed
  simp only [Bool.and_eq_true, beq_iff_eq, decide_eq_true_eq]

theorem holdoverUnsyncedDue_iff : holdoverUnsyncedDue s = true ↔
    s.time.sync = .coarse ∧ 60000000 ≤ tickDiff s.now s.time.dLast := by
  unfold holdoverUnsyncedDue Timebase.elapsed
  simp only [Bool.and_eq_true, beq_iff_eq, decide_eq_true_eq]

theorem takeDue_iff : takeDue s = true ↔ s.req.intake ≠ [] ∧
    s.req.replies.length + (s.req.table.map fun e => if e.dups = 0 then 1 else 2).sum < 32 := by
  have h : s.req.reserved = (s.req.table.map fun e => if e.dups = 0 then 1 else 2).sum := rfl
  simp only [takeDue, Requests.freePlaces, h, Bool.and_eq_true, Bool.not_eq_true', List.isEmpty_eq_false_iff,
    decide_eq_true_eq, tsub_pos_iff_lt]

/-! ## The events that are due -/

theorem mem_dueIf (c : Bool) (i j : Instr) : i ∈ dueIf c j ↔ i = j ∧ c = true := by
  cases c <;> simp [dueIf]

/-- A command that takes a request. -/
def takesRequest : Instr → Bool
  | .unknownKind | .deviceIdentify | .deviceStatus | .systemReset | .grantSet | .faultRead | .faultClear | .linkSlots
  | .linkStatus | .timeStatus | .timelineSet | .timelineCommit | .timelineRun | .timelineStop | .frameAnchor
  | .timelineStatus | .displayConfig | .displayDrive | .panelPowerOn | .panelPowerOff | .displayBlank | .displayResume
  | .displayStatus | .lateShift | .motionConfig | .cameraConfig | .motionStatus | .audioConfig | .audioStart | .audioStop
  | .audioVolume | .audioMuteOn | .audioMuteOff | .captureStart | .captureStop | .audioStatus | .powerContract
  | .powerPolicy | .powerStatus => true
  | _ => false

theorem takingOf_takes (k : Kind) (body : List Byte) : takesRequest (takingOf k body) = true := by
  cases k
  case panelPower => simp only [takingOf]; split <;> rfl
  case audioMute => simp only [takingOf]; split <;> rfl
  all_goals rfl

theorem takeCommand_takes : takesRequest (takeCommand s) = true := by
  unfold takeCommand
  split
  · exact takingOf_takes _ _
  · rfl

theorem ne_takeCommand {i : Instr} (h : takesRequest i = false) : i ≠ takeCommand s := fun hi => by
  rw [hi, takeCommand_takes] at h; cases h

/-- The events that are due are those of the part, of an eye and of a camera. -/
theorem mem_dueEvents (i : Instr) :
    i ∈ dueEvents s ↔ i ∈ dueOfPart s ∨ (∃ e, i ∈ dueOfEye s e) ∨ ∃ c, i ∈ dueOfCamera s c := by
  have he : (∃ e, i ∈ dueOfEye s e) ↔ i ∈ dueOfEye s .left ∨ i ∈ dueOfEye s .right :=
    ⟨fun ⟨e, h⟩ => by cases e; exacts [.inl h, .inr h], fun h => h.elim (fun h => ⟨_, h⟩) fun h => ⟨_, h⟩⟩
  have hc : (∃ c, i ∈ dueOfCamera s c) ↔ i ∈ dueOfCamera s 0 ∨ i ∈ dueOfCamera s 1 ∨ i ∈ dueOfCamera s 2 ∨
      i ∈ dueOfCamera s 3 :=
    ⟨fun ⟨c, h⟩ =>
      match c with
      | 0 => .inl h
      | 1 => .inr (.inl h)
      | 2 => .inr (.inr (.inl h))
      | 3 => .inr (.inr (.inr h)),
      fun h => by rcases h with h | h | h | h <;> exact ⟨_, h⟩⟩
  simp only [dueEvents, List.mem_append, he, hc, or_assoc]

/-- When an event of the part other than the taking of a request is due. -/
def dueNow (i : Instr) : Bool :=
  match i with
  | .frameStart => frameStartDue s
  | .latch e => latchDue s e
  | .scanWindowOpen e => scanOpenDue s e
  | .scanRow e => scanRowDue s e
  | .strobeWindowOpen e => strobeOpenDue s e
  | .strobeWindowClose e => strobeCloseDue s e
  | .wakeTimerExpiry e => wakeDue s e
  | .exposureWindowOpen c => exposeOpenDue s c
  | .exposureWindowClose c => exposeCloseDue s c
  | .exposureDeadline c => deadlineDue s c
  | .startTimerExpiry => startDue s
  | .imuReadTimeout => readTimeoutDue s
  | .silenceTimerExpiry => silenceDue s
  | .holdTimerExpiry => holdDue s
  | .superframeStart => superframeDue s
  | .upstreamSlot => slotDue s
  | .proximitySample active => active == s.pins.proximity && proximityDue s
  | .gainStep => gainDue s
  | .inputMonitorSample mv ma => mv == s.pins.mv && ma == s.pins.ma && monitorDue s
  | .audioFrameBoundary slots => slots == s.pins.capture && boundaryDue s
  | .codecFaultAssert => faultDue s
  | .codecFaultDeassert => faultClearDue s
  | .sleepTimerExpiry => sleepDue s
  | .holdoverCoarse => holdoverCoarseDue s
  | .holdoverUnsynced => holdoverUnsyncedDue s
  | _ => false

/-- A command that takes a request is due exactly when it takes the oldest one, which can be taken (R162). -/
theorem mem_dueEvents_taking {i : Instr} (h : takesRequest i = true) :
    i ∈ dueEvents s ↔ i = takeCommand s ∧ takeDue s = true := by
  rw [mem_dueEvents]
  cases i <;> cases h <;>
    simp only [dueOfPart, dueOfEye, dueOfCamera, List.mem_append, mem_dueIf, reduceCtorEq, false_and, or_false, false_or,
      exists_false]

/-- Every other command is due exactly when its own condition holds. -/
theorem mem_dueEvents_event {i : Instr} (h : takesRequest i = false) : i ∈ dueEvents s ↔ dueNow s i = true := by
  have hne := eq_false (ne_takeCommand s h)
  rw [mem_dueEvents]
  cases i <;> cases h <;>
    simp only [dueOfPart, dueOfEye, dueOfCamera, List.mem_append, mem_dueIf, hne, reduceCtorEq, false_and, or_false,
      false_or, true_and, exists_false, Instr.latch.injEq, Instr.scanWindowOpen.injEq, Instr.scanRow.injEq,
      Instr.strobeWindowOpen.injEq, Instr.strobeWindowClose.injEq, Instr.wakeTimerExpiry.injEq,
      Instr.exposureWindowOpen.injEq, Instr.exposureWindowClose.injEq, Instr.exposureDeadline.injEq,
      Instr.proximitySample.injEq, Instr.inputMonitorSample.injEq, Instr.audioFrameBoundary.injEq, exists_eq_left',
      dueNow, Bool.and_eq_true, beq_iff_eq, and_assoc, Bool.false_eq_true]

end

/-! ## One step of an idle part -/

section
variable {s : State}

theorem step_idle (h : s.pending = []) : step s = idle s := by simp [step, h]

/-- With an event due, a part that runs does one that is due. -/
theorem runPart_due (h : dueEvents s ≠ []) :
    ∃ i ∈ dueEvents s, runPart s = exec i s ∨ runPart s = exec i (s.mapFree (· + 1)) := by
  unfold runPart
  match hd : dueEvents s with
  | [] => exact absurd hd h
  | [i] => exact ⟨i, by simp, .inl rfl⟩
  | i :: j :: rest =>
    have hlt : Config.chooseEvent s.free % (rest.length + 2) < (i :: j :: rest).length := Nat.mod_lt _ (by simp)
    refine ⟨_, ?_, .inr rfl⟩
    rw [List.getD_eq_getElem _ _ hlt]
    exact List.getElem_mem hlt

theorem runPart_tick (h : dueEvents s = []) : runPart s = .next (advance s) := by simp [runPart, h]

theorem timeline_advance (t : Timeline) :
    t.advance = { t with counter := if t.running then t.counter + 1 else t.counter } := by
  unfold Timeline.advance; split <;> rfl

theorem link_advance (l : Link) : l.advance = { l with
    silence := if l.state = .up then l.silence + 1 else l.silence
    hold := if l.state = .hold then l.hold + 1 else l.hold } := by
  rcases l with ⟨st⟩
  cases st <;> rfl

theorem eyeDisplay_advance (d : EyeDisplay) :
    d.advance = { d with wake := if d.panel = .waking then d.wake - 1 else d.wake } := by
  unfold EyeDisplay.advance; split <;> rfl

theorem motion_advance (m : Motion) :
    m.advance = { m with start := if m.port = .starting then m.start - 1 else m.start } := by
  unfold Motion.advance; split <;> rfl

end

/-- Settles O2: each due condition by its own lemma, the choice by the events that are due, and the tick block by block. -/
theorem idleRunsDueEventOrTick : Obligations.IdleRunsDueEventOrTick := by
  unfold Obligations.IdleRunsDueEventOrTick
  refine ⟨fun s i => ?_, fun s hq => ⟨fun hp hd => ?_, fun hp hv => ?_, fun hp hv => ?_, fun hp hd => ?_⟩⟩
  · cases ht : takesRequest i with
    | true =>
      rw [mem_dueEvents_taking s ht, takeDue_iff]
      cases i <;> cases ht <;> exact Iff.rfl
    | false =>
      rw [mem_dueEvents_event s ht]
      have hnone : i = takeCommand s ∧ s.req.intake ≠ [] ∧
          s.req.replies.length + (s.req.table.map fun e => if e.dups = 0 then 1 else 2).sum < 32 ↔ False :=
        iff_false_intro fun h => ne_takeCommand s ht h.1
      cases i with
      | frameStart => exact frameStartDue_iff s
      | latch e => exact latchDue_iff s e
      | scanWindowOpen e => exact scanOpenDue_iff s e
      | scanRow e => exact scanRowDue_iff s e
      | strobeWindowOpen e => exact windowOpenDue_iff _ _ _
      | strobeWindowClose e => exact windowCloseDue_iff _ _ _
      | wakeTimerExpiry e => exact wakeDue_iff s e
      | exposureWindowOpen c => exact windowOpenDue_iff _ _ _
      | exposureWindowClose c => exact windowCloseDue_iff _ _ _
      | exposureDeadline c => exact deadlineDue_iff s c
      | startTimerExpiry => exact startDue_iff s
      | imuReadTimeout => exact readTimeoutDue_iff s
      | silenceTimerExpiry => exact silenceDue_iff s
      | holdTimerExpiry => exact holdDue_iff s
      | superframeStart => exact multipleOf_pending_iff s _ _
      | upstreamSlot => exact slotDue_iff s
      | proximitySample active =>
        rw [dueNow, Bool.and_eq_true, beq_iff_eq]
        exact and_congr_right fun _ => multipleOf_pending_iff s _ _
      | gainStep => exact multipleOf_pending_iff s _ _
      | inputMonitorSample mv ma =>
        rw [dueNow, Bool.and_eq_true, Bool.and_eq_true, beq_iff_eq, beq_iff_eq, and_assoc]
        exact and_congr_right fun _ => and_congr_right fun _ => multipleOf_pending_iff s _ _
      | audioFrameBoundary slots =>
        rw [dueNow, Bool.and_eq_true, beq_iff_eq]
        exact and_congr_right fun _ => boundaryDue_iff s
      | codecFaultAssert => exact faultDue_iff s
      | codecFaultDeassert => exact faultClearDue_iff s
      | sleepTimerExpiry => exact sleepDue_iff s
      | holdoverCoarse => exact holdoverCoarseDue_iff s
      | holdoverUnsynced => exact holdoverUnsyncedDue_iff s
      | _ => exact (iff_false_intro Bool.false_ne_true).trans hnone.symm
  · rw [step_idle hq, idle, if_pos hp]
    exact runPart_due hd
  · rw [step_idle hq, idle, if_neg (by simp [hp]), if_pos hv]
  · rw [step_idle hq, idle, if_neg (by simp [hp]), if_neg (not_lt.2 hv)]
  · rw [step_idle hq, idle, if_pos hp, runPart_tick hd]
    refine ⟨advance s, rfl, rfl, timeline_advance _, link_advance _, fun e => ?_, rfl, motion_advance _, rfl, rfl, rfl⟩
    rw [← eyeDisplay_advance]
    exact PerEye_get_map _ _ e

end Sys2Proof.Machine
end

section
namespace Sys2Proof.Machine
open Sys2Proof

/-! ## Requests answered at once, by what the owner leaves -/

/-- An admitted request whose owner leaves what it would leave of a state with the packet already taken: the answer joins
that state's replies (R162, R163, R167). -/
theorem act_serve_admitted {k : Kind} {s t : State} {owner : Request → State → Done} {st : Status} {b : ReplyBody}
    (h : Admitted k s) (ho : owner (asked s) (popIntake s) = ⟨popIntake t, st, b⟩) :
    act (kindDue k s) (serve owner) s = .next { t with req := answered (asked s) st b t.req } := by
  rw [act_of h.1 h.2.1, serve_admitted h owner, ho, Done.reply, answer_popIntake]

theorem raiseIf_popIntake (c : Bool) (src : Source) (d : Detail) (s : State) :
    raiseIf c src d (popIntake s) = popIntake (raiseIf c src d s) := by
  cases c <;> rfl

theorem changePhase_popIntake (m : PhaseMode) (told : Bool) (s : State) :
    changePhase m told (popIntake s) = popIntake (changePhase m told s) := by
  cases told <;> rfl

/-! ## The phase lock (R15 to R18) -/

theorem changePhase_eq (mode : PhaseMode) (told : Bool) (s : State) : changePhase mode told s = { s with
    tl := { s.tl with phase := mode }
    req := withEvent told .frameTimeline (.phaseLockChanged mode s.tl.lastError) s.now s.req } := by
  rw [changePhase, raiseIf_eq]
  rfl

/-- The lock run count after a phase error (R17). -/
def runAfter (e : Int) (run : Nat) : Nat := if e.natAbs ≤ 10 then min 8 (run + 1) else 0

/-- The phase mode after a phase error and the count it gave (R17). -/
def phaseAfter (e : Int) (count : Nat) (mode : PhaseMode) : PhaseMode :=
  if mode = .acquiring ∧ count = 8 then .locked else if mode = .locked ∧ 100 < e.natAbs then .acquiring else mode

theorem bump_eq_min (top n : Nat) : bump top n = min top (n + 1) := by
  unfold bump; split <;> omega

/-- A phase error moves the lock run and the mode, and PHASE_LOCK_CHANGED tells a change of mode (R17). -/
theorem lockPhase_eq (e : Int) (s : State) : lockPhase e s = { s with
    tl := { s.tl with lockRun := runAfter e s.tl.lockRun, phase := phaseAfter e (runAfter e s.tl.lockRun) s.tl.phase }
    req := withEvent (s.tl.phase != phaseAfter e (runAfter e s.tl.lockRun) s.tl.phase) .frameTimeline
      (.phaseLockChanged (phaseAfter e (runAfter e s.tl.lockRun) s.tl.phase) s.tl.lastError) s.now s.req } := by
  have stay : withEvent (s.tl.phase != s.tl.phase) .frameTimeline (.phaseLockChanged s.tl.phase s.tl.lastError) s.now
      s.req = s.req := by
    rw [bne_self_eq_false]; rfl
  unfold lockPhase
  dsimp only
  by_cases he : e.natAbs ≤ 10
  · rw [if_pos he]
    simp only [bump_eq_min, runAfter, if_pos he, phaseReached, mapTl_tl, Bool.and_eq_true, beq_iff_eq, decide_eq_true_eq,
      show 8 ≤ min 8 (s.tl.lockRun + 1) ↔ min 8 (s.tl.lockRun + 1) = 8 by omega]
    by_cases hl : s.tl.phase = .acquiring ∧ min 8 (s.tl.lockRun + 1) = 8
    · rw [if_pos hl, becomePhaseLocked, changePhase_eq, phaseAfter, if_pos hl, hl.1]
      rfl
    · rw [if_neg hl, phaseAfter, if_neg hl, if_neg (by omega), stay]
      rfl
  · rw [if_neg he]
    simp only [runAfter, if_neg he, mapTl_tl, phaseAfter, show ¬ (0 = 8) by decide, and_false, if_false]
    by_cases hl : s.tl.phase = .locked ∧ 100 < e.natAbs
    · simp only [hl.1, hl.2, and_self, if_true, changePhase_eq]
      rfl
    · simp only [hl, if_false, stay]
      rfl

/-- Without an anchor or a valid map a frame start adjusts nothing (R16). -/
theorem adjustPhase_free {s : State} (h : s.tl.anchor = none ∨ s.time.sync = .unsynced) :
    adjustPhase s = { s with tl := { s.tl with adj := 0, frameError := none } } := by
  unfold adjustPhase
  split
  next a ha =>
    rw [if_neg]
    · rfl
    · rcases h with h | h
      · rw [h] at ha; cases ha
      · simp [Timebase.synced, h]
  next => rfl

/-- With an anchor and a valid map the phase error gives the adjustment and moves the lock (R16, R17). -/
theorem adjustPhase_anchored {s : State} {a : HostTime} (ha : s.tl.anchor = some a) (hs : s.time.sync ≠ .unsynced) :
    adjustPhase s = lockPhase (phaseError (s.time.hostOf s.tl.startTick) a s.tl.active.period) { s with
      tl := { s.tl with
        adj := adjustment (phaseError (s.time.hostOf s.tl.startTick) a s.tl.active.period)
        lastError := some (phaseError (s.time.hostOf s.tl.startTick) a s.tl.active.period)
        frameError := some (phaseError (s.time.hostOf s.tl.startTick) a s.tl.active.period) } } := by
  unfold adjustPhase
  rw [ha]
  dsimp only
  rw [if_pos (by simpa [Timebase.synced] using hs)]
  rfl

/-- The phase error is the signed distance to the nearest anchor-aligned instant (R16). -/
theorem phaseError_nearest (hf a : HostTime) {period : Nat} (hp : 0 < period) :
    -((period / 2 : Nat) : Int) ≤ phaseError hf a period ∧
      phaseError hf a period ≤ (period : Int) - 1 - (period / 2 : Nat) ∧
      ∃ n : Int, hostDiff hf a = n * period + phaseError hf a period := by
  have hp' : (0 : Int) < period := by exact_mod_cast hp
  have h1 := Int.emod_nonneg (hostDiff hf a + (period / 2 : Nat)) hp'.ne'
  have h2 := Int.emod_lt_of_pos (hostDiff hf a + (period / 2 : Nat)) hp'
  have h3 := Int.mul_ediv_add_emod (hostDiff hf a + (period / 2 : Nat)) period
  unfold phaseError
  refine ⟨by omega, by omega, (hostDiff hf a + (period / 2 : Nat)) / period, ?_⟩
  rw [mul_comm]
  omega

/-- Settles O23: the lock's table by `lockPhase_eq`, the error by its distance. -/
theorem phaseLock : Obligations.PhaseLock := by
  unfold Obligations.PhaseLock
  refine ⟨fun s => ⟨adjustPhase_free, fun a ha hs => ⟨phaseError_nearest _ _, ?_⟩⟩,
    fun s => ⟨fun h => ⟨fun hs => ?_, fun hs => ?_⟩, fun hp ha hl => ?_⟩⟩
  · rw [adjustPhase_anchored ha hs, lockPhase_eq]
    rfl
  · refine (act_serve_admitted (st := .ok) (b := .empty) (t := changePhase .acquiring (s.tl.phase != .acquiring)
      (s.mapTl fun t => { t with anchor := some (u64 (asked s).body 0), lockRun := 0, lastError := none })) h ?_).trans ?_
    · rw [frameAnchor, if_pos (by simpa [Timebase.synced] using hs), ← changePhase_popIntake]
      rfl
    · rw [changePhase_eq]
      rfl
  · refine act_serve_admitted (t := s) h ?_
    rw [frameAnchor, if_neg (by simp [Timebase.synced, hs])]
    rfl
  · refine act_eq hp (by simp [phaseReached, ha, hl]) ?_
    rw [becomePhaseLocked, changePhase_eq]

/-! ## The latch (R53, R54) -/

/-- The VIDEO_STALL condition of an eye becomes present, and its event follows that of the blank condition (R54, R57). -/
def stalled (e : Eye) (run : Nat) (t : State) : State :=
  { blanked (stallCause e) t with req := withEvent true (.eye e) (.videoStall run) t.now (blanked (stallCause e) t).req }

theorem blanked_now (c : Cause) (s : State) : (blanked c s).now = s.now := by
  unfold blanked; split <;> rfl

theorem stall_of_sound (e : Eye) {s : State} (h : LightsSound s) :
    stall e s = stalled e (s.disp.eyes.get e).missed s := by
  rw [stall, blank_of_sound _ h, raise_eq, stalled, blanked_now]

theorem lightEye_missed (s : State) (e : Eye) : (lightEye s e).missed = (s.disp.eyes.get e).missed := by
  unfold lightEye; dsimp only; split <;> rfl

theorem lights_missed (s : State) (e : Eye) : ((lights s).disp.eyes.get e).missed = (s.disp.eyes.get e).missed := by
  cases e <;> exact lightEye_missed s _

theorem stallReached_iff (s : State) (e : Eye) :
    stallReached s e = true ↔ 3 ≤ (s.disp.eyes.get e).missed ∧ s.disp.present.get (stallCause e) = false := by
  simp [stallReached]

/-- The eye after a missed frame, its lights following (R54). -/
def missed (e : Eye) (s : State) : State :=
  lights { s with
    disp := { s.disp with
      eyes := s.disp.eyes.set e { s.disp.eyes.get e with
        bound := none, shift := .zero, missed := min 65535 ((s.disp.eyes.get e).missed + 1) } }
    shift := { s.shift with record := s.shift.record.set e .zero } }

theorem missed_missed (e : Eye) (s : State) :
    ((missed e s).disp.eyes.get e).missed = min 65535 ((s.disp.eyes.get e).missed + 1) := by
  rw [missed, lights_missed, PerEye_get_set_same]

/-- A missed frame stalls the eye from the third in a row on (R54). -/
theorem missFrame_eq (e : Eye) (s : State) : missFrame e s =
    if 3 ≤ min 65535 ((s.disp.eyes.get e).missed + 1) ∧ s.disp.present.get (stallCause e) = false then
      stalled e (min 65535 ((s.disp.eyes.get e).missed + 1)) (missed e s)
    else missed e s := by
  have start : missFrame e s = if stallReached (missed e s) e then stall e (missed e s) else missed e s := by
    rw [missed, ← bump_eq_min]
    rfl
  have sound : LightsSound (missed e s) := lights_sound _
  have reached := stallReached_iff (missed e s) e
  rw [missed_missed, show (missed e s).disp.present = s.disp.present from rfl] at reached
  rw [start, stall_of_sound e sound, missed_missed]
  simp only [reached]

/-- Settles O35: both ends of `latchEye`, the lights being right when a miss stalls. -/
theorem latchBindsOrMisses : Obligations.LatchBindsOrMisses := by
  unfold Obligations.LatchBindsOrMisses
  refine fun s e hp => ⟨fun at_ hr hl hat hc => ?_, fun h hm ha => ?_⟩
  · have due : latchDue s e = true := by simp [latchDue, hr, hl, hat, hc]
    refine ⟨fun h hh => act_eq hp due ?_, fun hn => act_eq hp due ?_⟩
    · rw [latchEye, mapTl_disp, hh]
      rfl
    · have miss : latchEye e s = missFrame e { s with tl := { s.tl with latched := s.tl.latched.set e true } } := by
        rw [latchEye, mapTl_disp, hn]
        rfl
      exact miss.trans (missFrame_eq e _)
  · refine act_eq hp ((stallReached_iff s e).2 ⟨hm, ha⟩) (stall_of_sound e h)

end Sys2Proof.Machine
end

section
namespace Sys2Proof.Machine
open Sys2Proof

/-! ## Requests that can wait, by what the owner leaves -/

/-- An admitted request of a kind that can wait, answered at once with the table left alone. -/
theorem act_serveHeld_answered {k : Kind} {s t : State} {wait : Request → Wait} {owner : Request → State → Held}
    {st : Status} {b : ReplyBody} (h : Admitted k s) (ht : t.req.table = s.req.table)
    (ho : owner (asked s) (addEntry (asked s) (wait (asked s)) (popIntake s)) =
      ⟨addEntry (asked s) (wait (asked s)) (popIntake t), some (st, b)⟩) :
    act (kindDue k s) (serveHeld wait owner) s = .next { t with req := answered (asked s) st b t.req } := by
  have hw : t.req.waits (asked s).client (asked s).tag = false := by
    rw [Requests.waits, ht]
    exact h.fresh
  rw [act_of h.1 h.2.1, serveHeld_admitted h, ho, ← finishEntry_new _ (wait (asked s)) st b _ hw]
  rfl

/-- An admitted request left waiting. -/
theorem act_serveHeld_waiting {k : Kind} {s t : State} {wait : Request → Wait} {owner : Request → State → Held}
    (h : Admitted k s)
    (ho : owner (asked s) (addEntry (asked s) (wait (asked s)) (popIntake s)) =
      ⟨addEntry (asked s) (wait (asked s)) (popIntake t), none⟩) :
    act (kindDue k s) (serveHeld wait owner) s =
      .next { t with req := leftWaiting (asked s) (wait (asked s)) t.req } := by
  rw [act_of h.1 h.2.1, serveHeld_admitted h, ho]
  rfl

theorem addEntry_spares (q : Request) (w : Wait) : SparesEvents fun r => { r with table := r.table ++ [entryOf q w] } :=
  fun _ _ => rfl

theorem computeGrants_addEntry (q : Request) (w : Wait) (s : State) :
    computeGrants (addEntry q w s) = addEntry q w (computeGrants s) :=
  computeGrants_mapReq (addEntry_spares q w) s

/-- A grant computation keeps the request table: it commutes with writing the table anew. -/
theorem computeGrants_table (s : State) : (computeGrants s).req.table = s.req.table := by
  have same := computeGrants_mapReq (g := fun r => { r with table := s.req.table }) (fun _ _ => rfl) s
  have table := congrArg (fun t : State => t.req.table) same
  exact table

/-! ## The phase adjustment beside what it does not read -/

theorem lockPhase_popIntake (e : Int) (s : State) : lockPhase e (popIntake s) = popIntake (lockPhase e s) := by
  rw [lockPhase_eq, lockPhase_eq]
  exact congrArg (fun r => ({ s with
      tl := { s.tl with
        lockRun := runAfter e s.tl.lockRun, phase := phaseAfter e (runAfter e s.tl.lockRun) s.tl.phase }
      req := r } : State)) (withEvent_spares popIntake_spares _ _ _ _ _)

theorem lockPhase_mapPower (e : Int) (f : Power → Power) (s : State) :
    lockPhase e (s.mapPower f) = (lockPhase e s).mapPower f := by
  rw [lockPhase_eq, lockPhase_eq]
  rfl

/-- A change that keeps the timeline and the Timebase and commutes with the lock's move commutes with the adjustment. -/
theorem adjustPhase_comm {g : State → State} (ht : ∀ s f, g (s.mapTl f) = (g s).mapTl f)
    (hl : ∀ e s, lockPhase e (g s) = g (lockPhase e s)) (htl : ∀ s, (g s).tl = s.tl)
    (htime : ∀ s, (g s).time = s.time) (s : State) : adjustPhase (g s) = g (adjustPhase s) := by
  unfold adjustPhase
  simp only [htl, htime]
  split
  · split
    · rw [← hl, ht]
    · rw [ht]
  · rw [ht]

theorem adjustPhase_mapPower (f : Power → Power) (s : State) : adjustPhase (s.mapPower f) = (adjustPhase s).mapPower f :=
  adjustPhase_comm (fun _ _ => rfl) (fun e s => lockPhase_mapPower e f s) (fun _ => rfl) (fun _ => rfl) s

theorem adjustPhase_popIntake (s : State) : adjustPhase (popIntake s) = popIntake (adjustPhase s) :=
  adjustPhase_comm (fun _ _ => rfl) lockPhase_popIntake (fun _ => rfl) (fun _ => rfl) s

/-! ## TIMELINE_RUN (R13) -/

theorem scanFits_iff (period rows : Nat) (w : Window) : scanFits period rows w = true ↔
    (w.on = true → (rows : Int) ≤ min (w.stop : Int) ((period : Int) - 20) - w.start) := by
  unfold scanFits
  cases w.on <;> simp

theorem runFault_left {t : Timeline} {rows : Nat} (h : ¬ scanFits t.active.period rows t.windows.scan.left = true) :
    runFault t rows = some .left := by
  rw [runFault, if_pos (by simpa using h)]

theorem runFault_right {t : Timeline} {rows : Nat} (hl : scanFits t.active.period rows t.windows.scan.left = true)
    (h : ¬ scanFits t.active.period rows t.windows.scan.right = true) : runFault t rows = some .right := by
  rw [runFault, if_neg (by simpa using hl), if_pos (by simpa using h)]

theorem runFault_none {t : Timeline} {rows : Nat} (hl : scanFits t.active.period rows t.windows.scan.left = true)
    (h : scanFits t.active.period rows t.windows.scan.right = true) : runFault t rows = none := by
  rw [runFault, if_neg (by simpa using hl), if_neg (by simpa using h)]

theorem timelineRun_fault {s : State} {e : Eye} (q : Request) (hr : s.tl.running = false)
    (h : runFault s.tl s.disp.config.rows = some e) :
    timelineRun q s = .refused s .outOfRange (.commitCheck (.scan e)) := by
  rw [timelineRun, if_neg (by simp [hr]), h]

theorem timelineRun_ok {s : State} (q : Request) (hr : s.tl.running = false)
    (h : runFault s.tl s.disp.config.rows = none) :
    timelineRun q s = .ok (beginRun s) (.run (beginRun s).tl.frame (beginRun s).tl.leads) := by
  rw [timelineRun, if_neg (by simp [hr]), h]

theorem withEvent_changes (c : Bool) (src : Source) (d : Detail) (t : Tick) (r : Requests) :
    withEvent c src d t r = { r with events := (withEvent c src d t r).events } := by
  cases c <;> rfl

/-- What the adjustment changes: the phase lock's fields, by whether an anchor and a valid map are there (R16), and the
events. -/
theorem adjustPhase_changes (s : State) : ∃ adj err frameErr run phase ev, adjustPhase s = { s with
      tl := { s.tl with adj := adj, lastError := err, frameError := frameErr, lockRun := run, phase := phase }
      req := { s.req with events := ev } } ∧
    (s.tl.anchor = none ∨ s.time.sync = .unsynced →
      adj = 0 ∧ frameErr = none ∧ err = s.tl.lastError ∧ phase = s.tl.phase ∧ run = s.tl.lockRun) ∧
    ∀ a, s.tl.anchor = some a → s.time.sync ≠ .unsynced →
      let e := phaseError (s.time.hostOf s.tl.startTick) a s.tl.active.period
      adj = adjustment e ∧ err = some e ∧ frameErr = some e := by
  by_cases h : s.tl.anchor = none ∨ s.time.sync = .unsynced
  · refine ⟨_, _, _, _, _, _, adjustPhase_free h, fun _ => ⟨rfl, rfl, rfl, rfl, rfl⟩, fun a ha hs => ?_⟩
    rcases h with h | h
    · rw [h] at ha
      cases ha
    · exact absurd h hs
  · obtain ⟨ha, hs⟩ := not_or.1 h
    obtain ⟨a, ha⟩ := Option.ne_none_iff_exists'.1 ha
    rw [adjustPhase_anchored ha hs, lockPhase_eq, withEvent_changes]
    refine ⟨_, _, _, _, _, _, rfl, fun h' => absurd h' h, fun a' ha' _ => ?_⟩
    cases ha.symm.trans ha'
    exact ⟨rfl, rfl, rfl⟩

theorem adjustPhase_frame (s : State) :
    (adjustPhase s).tl.frame = s.tl.frame ∧ (adjustPhase s).tl.leads = s.tl.leads := by
  obtain ⟨adj, err, frameErr, run, phase, ev, eq, -, -⟩ := adjustPhase_changes s
  rw [eq]
  exact ⟨rfl, rfl⟩

theorem beginRun_popIntake (s : State) : beginRun (popIntake s) = popIntake (beginRun s) := by
  rw [beginRun, beginRun, ← computeGrants_popIntake, ← adjustPhase_mapPower, ← adjustPhase_mapPower,
    ← adjustPhase_popIntake]
  rfl

/-- The first frame of a run answers the frame number and the leads derived anew. -/
theorem beginRun_answer (s : State) : (beginRun s).tl.frame = s.tl.frame + 1 ∧
    (beginRun s).tl.leads = (s.tl.deriveLeads s.disp.config.lead).leads := by
  rw [beginRun, computeGrants_tl, mapPower_tl]
  exact adjustPhase_frame _

/-- Settles O24: the refusals by `runFault`, the first frame by `beginRun`. -/
theorem timelineRunBegins : Obligations.TimelineRunBegins := by
  unfold Obligations.TimelineRunBegins
  intro s h
  simp only [← scanFits_iff]
  refine ⟨fun hr => ?_, fun hr hl => ?_, fun hr hl hf => ?_, fun hr hl hf => ?_⟩
  · refine act_serve_admitted (t := s) h ?_
    rw [timelineRun, if_pos (show (popIntake s).tl.running = true from hr)]
    rfl
  · exact act_serve_admitted (t := s) h (timelineRun_fault _ hr (runFault_left hl))
  · exact act_serve_admitted (t := s) h (timelineRun_fault _ hr (runFault_right hl hf))
  · obtain ⟨frame, leads⟩ := beginRun_answer s
    refine (act_serve_admitted (t := beginRun s) (st := .ok)
      (b := .run (beginRun s).tl.frame (beginRun s).tl.leads) h ?_).trans ?_
    · rw [timelineRun_ok _ (s := popIntake s) hr (runFault_none hl hf), beginRun_popIntake]
      rfl
    · rw [frame, leads, beginRun, ← adjustPhase_mapPower]
      rfl

/-! ## TIMELINE_SET and TIMELINE_COMMIT (R6, R7, R11) -/

/-- A switch byte is on when it is not 0 (section 10.4). -/
theorem switchOn_eq (b : Byte) : switchOn b = decide (b.toNat ≠ 0) := by
  rw [switchOn, Bool.eq_iff_iff]
  simp [BitVec.toNat_eq]

theorem commitFault_period {b : Bank} {rows : Nat} (h : ¬ (6000 ≤ b.period ∧ b.period ≤ 20000)) :
    commitFault b rows = some .period := by
  rw [commitFault, if_pos (by omega)]

theorem commitFault_guard {b : Bank} {rows : Nat} (hp : 6000 ≤ b.period ∧ b.period ≤ 20000) (h : ¬ b.guard ≤ 2000) :
    commitFault b rows = some .guard := by
  rw [commitFault, if_neg (by omega), if_pos (by omega)]

theorem commitFault_divider {b : Bank} {rows : Nat} (hp : 6000 ≤ b.period ∧ b.period ≤ 20000) (hg : b.guard ≤ 2000)
    (h : ¬ (1 ≤ b.divider ∧ b.divider ≤ 8)) : commitFault b rows = some .divider := by
  rw [commitFault, if_neg (by omega), if_neg (by omega), if_pos (by omega)]

/-- A bank that passes the first three checks fails where a scan does not fit. -/
theorem commitFault_scans {b : Bank} {rows : Nat} (hp : 6000 ≤ b.period ∧ b.period ≤ 20000) (hg : b.guard ≤ 2000)
    (hd : 1 ≤ b.divider ∧ b.divider ≤ 8) : commitFault b rows =
      if scanFits b.period rows (b.win.scan.get .left) = true then
        if scanFits b.period rows (b.win.scan.get .right) = true then none else some (.scan .right)
      else some (.scan .left) := by
  rw [commitFault, if_neg (by omega), if_neg (by omega), if_neg (by omega), PerEye.get, PerEye.get]
  cases scanFits b.period rows b.win.scan.left <;> cases scanFits b.period rows b.win.scan.right <;> rfl

/-- Applying a commit while none waits. -/
theorem Timeline.apply_free {t : Timeline} (c : Commit) (h : t.waiting = none) :
    t.apply c = { t with active := t.pendingBank, windows := c.windows, leads := c.leads } := by
  simp only [Timeline.apply, ← h]

theorem timelineCommit_fault {s : State} {c : CommitCheck} (q : Request) (hw : s.tl.waiting = none)
    (h : commitFault s.tl.pendingBank s.disp.config.rows = some c) :
    timelineCommit q s = ⟨s, some (.outOfRange, .commitCheck c)⟩ := by
  rw [timelineCommit, if_neg (by simp [hw]), h]

theorem timelineCommit_ok {s : State} (q : Request) (hw : s.tl.waiting = none)
    (h : commitFault s.tl.pendingBank s.disp.config.rows = none) :
    timelineCommit q s =
      if s.tl.running then ⟨s.mapTl fun t => { t with waiting := some (commitOf t.pendingBank s.disp.config.lead) }, none⟩
      else ⟨computeGrants (s.mapTl (Timeline.apply (commitOf s.tl.pendingBank s.disp.config.lead))),
        some (.ok, .committed (commitOf s.tl.pendingBank s.disp.config.lead) s.tl.frame false)⟩ := by
  rw [timelineCommit, if_neg (by simp [hw]), h]
  rfl

/-- Settles O22: the checks by `commitFault`, the outcome by whether the timeline runs. -/
theorem timelineSetAndCommit : Obligations.TimelineSetAndCommit := by
  unfold Obligations.TimelineSetAndCommit
  intro s
  simp only [← scanFits_iff]
  refine ⟨fun h => ⟨fun hw => ?_, fun hw => ?_⟩, fun h => ⟨fun hw => ?_, fun hw => ?_, fun hw hp hg hd hl hr => ?_⟩⟩
  · refine (act_serve_admitted (t := s.mapTl fun t => { t with pendingBank := parseBank (asked s).body }) (st := .ok)
      (b := .empty) h ?_).trans ?_
    · rw [timelineSet, if_neg (by simp [hw])]
      rfl
    · simp only [← switchOn_eq]
      rfl
  · refine act_serve_admitted (t := s) h ?_
    rw [timelineSet, if_pos (by simpa using hw)]
    rfl
  · refine act_serveHeld_answered (t := s) h rfl ?_
    rw [timelineCommit, if_pos (by simpa using hw)]
  · have names : ∀ c, commitFault s.tl.pendingBank s.disp.config.rows = some c → exec .timelineCommit s =
        .next { s with req := answered (asked s) .outOfRange (.commitCheck c) s.req } := fun c hc =>
      act_serveHeld_answered (t := s) h rfl (timelineCommit_fault _ hw hc)
    refine ⟨fun hp => names _ (commitFault_period hp), fun hp hg => names _ (commitFault_guard hp hg),
      fun hp hg hd => names _ (commitFault_divider hp hg hd), fun hp hg hd hl => names _ ?_,
      fun hp hg hd hl hr => names _ ?_⟩
    · rw [commitFault_scans hp hg hd, if_neg hl]
    · rw [commitFault_scans hp hg hd, if_pos hl, if_neg hr]
  · have fits : commitFault s.tl.pendingBank s.disp.config.rows = none := by
      rw [commitFault_scans hp hg hd, if_pos hl, if_pos hr]
    refine ⟨fun run => ?_, fun stopped => ?_⟩
    · refine act_serveHeld_waiting
        (t := { s with tl := { s.tl with waiting := some (commitOf s.tl.pendingBank s.disp.config.lead) } }) h ?_
      exact (timelineCommit_ok (s := addEntry _ _ (popIntake s)) _ hw fits).trans (if_pos run)
    · have commit := timelineCommit_ok (s := addEntry (asked s) .commit (popIntake s)) (asked s) hw fits
      rw [if_neg (by simpa using stopped)] at commit
      refine act_serveHeld_answered (st := .ok)
        (b := .committed (commitOf s.tl.pendingBank s.disp.config.lead) s.tl.frame false)
        (t := computeGrants { s with tl := { s.tl with
          active := s.tl.pendingBank
          windows := (commitOf s.tl.pendingBank s.disp.config.lead).windows
          leads := (commitOf s.tl.pendingBank s.disp.config.lead).leads } }) h (computeGrants_table _) (commit.trans ?_)
      rw [← computeGrants_popIntake, ← computeGrants_addEntry, State.mapTl,
        Timeline.apply_free (t := (addEntry _ _ (popIntake s)).tl) _ hw]
      rfl

/-! ## The discipline state (R32 to R34, R18) -/

theorem changeSync_eq (after : Sync) (cause : SyncCause) (error : Option Int) (s : State) :
    changeSync after cause error s = { s with
      time := { s.time with sync := after }
      req := withEvent (s.time.sync != after) .timebase (.syncChanged s.time.sync after cause error) s.now s.req } := by
  rw [changeSync, raiseIf_eq]
  rfl

/-- With an anchor held the phase lock goes back to ACQUIRING (R18). -/
theorem loosenPhase_eq (s : State) : loosenPhase s = { s with
    tl := if s.tl.anchor.isSome then { s.tl with phase := .acquiring, lockRun := 0 } else s.tl
    req := withEvent (s.tl.anchor.isSome && s.tl.phase == .locked) .frameTimeline
      (.phaseLockChanged .acquiring s.tl.lastError) s.now s.req } := by
  unfold loosenPhase
  cases h : s.tl.anchor.isSome
  · rfl
  · rw [if_pos rfl, changePhase_eq]
    rfl

/-- Settles O15: each by what `changeSync` and `loosenPhase` leave. -/
theorem syncLockAndHoldover : Obligations.SyncLockAndHoldover := by
  unfold Obligations.SyncLockAndHoldover
  refine fun s hp => ⟨fun hs hl e => act_eq hp ?_ ?_, fun hs he => act_eq hp ?_ ?_, fun hs he => act_eq hp ?_ ?_⟩
  · simp [lockReached, hs, hl]
  · rw [becomeLocked, changeSync_eq, hs]
    rfl
  · exact (holdoverCoarseDue_iff s).2 ⟨hs, he⟩
  · rw [becomeCoarse, changeSync_eq, mapTime_time, hs]
    rfl
  · exact (holdoverUnsyncedDue_iff s).2 ⟨hs, he⟩
  · rw [becomeUnsynced, loosenPhase_eq, changeSync_eq, mapTime_time, hs]
    rfl

end Sys2Proof.Machine
end

section
namespace Sys2Proof.Machine
open Sys2Proof

/-! ## Session starts (R146) -/

/-- The Link Controller as a session start leaves it (R146). -/
def begun (l : Link) : Link := { l with state := .up, run := 0, silence := 0, session := l.session + 1 }

/-- What a valid packet counts at the Link Controller touches nothing that a session start sets or reads. -/
def CountsOnly (f : Link → Link) : Prop :=
  ∀ l, (f l).state = l.state ∧ (f l).run = l.run ∧ (f l).session = l.session ∧ f (begun l) = begun (f l)

theorem packetCount_countsOnly {c : Instr} {f : Link → Link} (h : packetCount c = some f) : CountsOnly f := by
  cases c <;> cases h <;> exact fun _ => ⟨rfl, rfl, rfl, rfl⟩

/-- The eighth valid packet starts the session and is handed to its owner in it (R143, R146). -/
theorem completeValid_starts {f : Link → Link} (hf : CountsOnly f) (hand : State → State) {s : State}
    (ha : s.link.state = .acquire) (hr : s.link.run = 7) (hl : LightsSound s) :
    completeValid hand (s.mapLink f) = hand (sessionStarted (heard (f s.link) s.now) s) := by
  obtain ⟨state, run, -, -⟩ := hf s.link
  rw [completeValid_eighth hand (s.mapLink f) (state.trans ha) (run.trans hr)]
  exact congrArg hand (startSession_of_sound (s := (s.mapLink f).mapLink _) hl)

/-- In the session so begun the same packet is handed over alike (R144, R149). -/
theorem completeValid_begun {f : Link → Link} (hf : CountsOnly f) (hand : State → State) (s : State) :
    completeValid hand ((sessionStarted s.link s).mapLink f) = hand (sessionStarted (heard (f s.link) s.now) s) := by
  obtain ⟨up, -, -, -⟩ := hf (begun s.link)
  obtain ⟨-, -, session, comm⟩ := hf s.link
  rw [completeValid_up hand ((sessionStarted s.link s).mapLink f) up]
  have link : f (sessionStarted s.link s).link = begun (f s.link) := comm
  have started : sessionStarted (heard (f s.link) s.now) s =
      { sessionStarted s.link s with link := begun (heard (f s.link) s.now) } := by
    simp only [sessionStarted, heard, session]
    rfl
  simp only [State.mapLink, link, started]
  rfl

/-- The eighth packet acts as the same packet does in the session so begun (R146). -/
theorem act_starts {f : Link → Link} (hf : CountsOnly f) (hand : State → State) {s : State} (hp : s.powered = true)
    (ha : s.link.state = .acquire) (hr : s.link.run = 7) (hl : LightsSound s) :
    act true (fun s => completeValid hand (s.mapLink f)) s =
      act true (fun s => completeValid hand (s.mapLink f)) (sessionStarted s.link s) := by
  rw [act_of hp rfl, act_of (s := sessionStarted s.link s) hp rfl, completeValid_starts hf hand ha hr hl,
    completeValid_begun hf hand s]

/-- Settles O5: `startSession_of_sound`, and `act_starts` for each packet class. -/
theorem sessionStarts : Obligations.SessionStarts := by
  unfold Obligations.SessionStarts
  refine fun s hp ha hl => ⟨fun hr => ?_, fun hr c f hc => ?_, fun hr p => ?_, fun hr age p h hm => ?_⟩
  · exact act_eq hp (by simp [sessionReached, ha, hr]) (startSession_of_sound hl)
  · have hf := packetCount_countsOnly hc
    cases c <;> cases hc <;> exact act_starts hf _ hp ha hr hl
  · exact act_eq hp rfl (completeValid_starts (packetCount_countsOnly (c := .fill p) rfl) id ha hr hl)
  · refine act_eq hp rfl ((completeValid_starts (packetCount_countsOnly (c := .timeMark age p) rfl) _ ha hr hl).trans ?_)
    rw [receiveMark, hm]
    rfl

end Sys2Proof.Machine
end

section
namespace Sys2Proof.Machine
open Sys2Proof

/-! ## The reading requests (R21, R40, R64, R86, R122, R140, R158, R171, R174) -/

/-- A read answers OK with its content and changes nothing else. -/
theorem act_read {k : Kind} {s : State} {owner : Request → State → Done} {b : ReplyBody} (h : Admitted k s)
    (ho : owner (asked s) (popIntake s) = .ok (popIntake s) b) :
    act (kindDue k s) (serve owner) s = .next { s with req := answered (asked s) .ok b s.req } :=
  act_serve_admitted (t := s) h ho

/-- One for each enabled camera (R78). -/
def enabledCount (m : Motion) (c : Camera) : Nat := if (m.cams.get c).state = .disabled then 0 else 1

theorem enabledCount_eq (m : Motion) (c : Camera) : enabledCount m c = if (m.cams.get c).enabled then 1 else 0 := by
  rw [enabledCount, Cam.enabled]
  by_cases h : (m.cams.get c).state = .disabled <;> simp [h]

/-- The cameras enabled, counted one by one. -/
theorem enabledCount_sum (m : Motion) : enabledCount m 0 + enabledCount m 1 + enabledCount m 2 + enabledCount m 3 =
    (if m.cams.c0.enabled then 1 else 0) + (if m.cams.c1.enabled then 1 else 0) + (if m.cams.c2.enabled then 1 else 0) +
      (if m.cams.c3.enabled then 1 else 0) := by
  rw [enabledCount_eq, enabledCount_eq, enabledCount_eq, enabledCount_eq]
  rfl

theorem cams_enabled_length (m : Motion) : (m.cams.toList.filter Cam.enabled).length =
    enabledCount m 0 + enabledCount m 1 + enabledCount m 2 + enabledCount m 3 := by
  rw [enabledCount_sum, ← List.countP_eq_length_filter]
  simp only [PerCam.toList, List.countP_cons, List.countP_nil]
  omega

theorem anyCamera_eq (m : Motion) :
    anyCamera m = decide (0 < enabledCount m 0 + enabledCount m 1 + enabledCount m 2 + enabledCount m 3) := by
  rw [enabledCount_sum, anyCamera]
  cases m.cams.c0.enabled <;> cases m.cams.c1.enabled <;> cases m.cams.c2.enabled <;> cases m.cams.c3.enabled <;> rfl

theorem countReports_eq {k : Stamped} {p : Report → Bool} (h : ∀ r, (r.stampKind == k) = p r) (l : Link) :
    countReports k l = (l.reports.filter p).length := by
  rw [countReports, funext h]

theorem synced_ite {α : Type} (t : Timebase) (a b : α) :
    (if t.synced then a else b) = if t.sync = .unsynced then b else a := by
  rw [Timebase.synced]
  by_cases h : t.sync = .unsynced <;> simp [h]

/-- Settles O18: each read by `act_read`, its content by the definition of its status. -/
theorem statusReads : Obligations.StatusReads := by
  unfold Obligations.StatusReads
  intro s
  refine ⟨fun h => act_read h rfl, fun h => act_read h ?_, fun h => act_read h rfl, fun h => act_read h ?_,
    fun h => act_read h ?_, fun h => act_read h rfl, fun h => act_read h rfl, fun h => act_read h rfl,
    fun h => act_read h rfl, fun h => act_read h ?_⟩
  · rw [deviceStatus, deviceStatusOf, cams_enabled_length]
    simp only [popIntake, State.mapReq, List.length_drop]
    rfl
  · rw [linkStatus, linkStatusOf,
      countReports_eq (k := .sensor) (p := fun r => match r with | .sensor _ => true | _ => false)
        (fun r => by cases r <;> rfl),
      countReports_eq (k := .exposure) (p := fun r => match r with | .exposure _ => true | _ => false)
        (fun r => by cases r <;> rfl),
      countReports_eq (k := .frame) (p := fun r => match r with | .frame _ => true | _ => false)
        (fun r => by cases r <;> rfl)]
    rfl
  · rw [timeStatus, timeStatusOf, synced_ite, synced_ite]
    rfl
  · simp only [powerStatus, powerStatusOf, State.fixedSum, State.fixedLoads, State.available, anyCamera_eq]
    rfl

end Sys2Proof.Machine
end

section
namespace Sys2Proof.Machine
open Sys2Proof

/-! ## SYSTEM_RESET (R175, R141) -/

/-- Where all that is asked for fits, the ladder's first setting is chosen (R129). -/
theorem chooseSetting_first {d : Demand} {derate a : Nat}
    (h : (price d ⟨16 - derate, 16 - derate, d.level⟩).total ≤ a) :
    chooseSetting d derate a = ⟨16 - derate, 16 - derate, d.level⟩ := by
  simp [chooseSetting, ladder, h]

/-- Consumers that ask for nothing are granted nothing and cost nothing (R127). -/
theorem price_idle {d : Demand} (hs : d.strobe = .both 0) (hi : d.illum = .all 0) (he : d.enabled = .all false)
    (ht : d.stopped = true) (x : Setting) : price d x = ⟨.both ⟨0, 0, 0⟩, .all ⟨0, 0, 0⟩, 0⟩ := by
  simp [price, strobeLine, illumLine, audioCost, hs, hi, he, ht, PerEye.both, PerCam.all]

/-- The reset values of the blocks ask for nothing, and 1,800 mW are available: the Power Manager's reset values say what
is granted then (R129, R141). -/
theorem computePower_resetBlocks (s : State) : computePower (resetBlocks s) = resetBlocks s := by
  have available : (resetBlocks s).available = (1800 : Nat) := by
    rw [State.available, show (resetBlocks s).fixedSum = 700 from rfl, show (resetBlocks s).power.contract = 2500 from rfl]
    rfl
  have idle := price_idle (d := demand (resetBlocks s)) rfl rfl rfl rfl ⟨16, 16, .l1⟩
  have chosen : chooseSetting (demand (resetBlocks s)) (resetBlocks s).power.derate 1800 = ⟨16, 16, .l1⟩ :=
    chooseSetting_first (derate := 0) ((congrArg Priced.total idle).trans_le (Nat.zero_le _))
  rw [computePower, available, if_neg (by decide), Int.toNat_natCast, chosen]
  simp only [State.mapPower, Power.grant, idle]
  rfl

/-- The blocks after the grant computation of SYSTEM_RESET: a brownout in progress keeps its blank and mute causes. -/
def resetParts (s : State) : State :=
  { resetBlocks s with
    disp := if s.power.brownout then
        { Display.reset with
          present := { Causes.none with power := true }, latches := { Causes.none with power := true } }
      else .reset
    audio := { Audio.reset with
      cycles := s.audio.cycles
      line := s.audio.line
      ceiling := .l1
      mute := ⟨false, false, s.pins.codecFault, s.power.brownout⟩ } }

theorem computeGrants_resetBlocks (s : State) : computeGrants (resetBlocks s) = { resetParts s with
    req := withEvent s.power.brownout .displayOutput (.displayBlanked .power) s.now s.req } := by
  have limited : raiseLimited (resetBlocks s).power (resetBlocks s).available (resetBlocks s) = resetBlocks s := rfl
  rw [computeGrants, computePower_resetBlocks, limited, handGrants, setBlank, resetParts]
  have kept : (resetBlocks s).power.brownout = s.power.brownout := rfl
  have granted : (resetBlocks s).power.audioGrant = .l1 := rfl
  rw [kept, granted]
  cases s.power.brownout <;> rfl

theorem resetBlocks_popIntake (s : State) : resetBlocks (popIntake s) = popIntake (resetBlocks s) := rfl

/-- Settles O20: the table by `discardEntries_ended`, the blocks by `computeGrants_resetBlocks`. -/
theorem systemResetEffect : Obligations.SystemResetEffect := by
  unfold Obligations.SystemResetEffect
  intro s h
  obtain ⟨dups, ended, told⟩ := discardEntries_ended (popIntake s).req
  refine ⟨dups, s.req.serial + dups.length, told, ?_⟩
  refine act_serve_admitted (st := .ok) (b := .discarded s.req.table.length) (t := { resetParts s with
    req := { withEvent s.power.brownout .displayOutput (.displayBlanked .power) s.now
        { s.req with table := [], replies := s.req.replies ++ dups, serial := s.req.serial + dups.length } with
      grants := .none, fault := none } }) h ?_
  have emptied : (popIntake s).mapReq discardEntries = popIntake { s with
      req := { s.req with table := [], replies := s.req.replies ++ dups, serial := s.req.serial + dups.length } } := by
    rw [State.mapReq, ended]
    rfl
  rw [systemReset, emptied, resetBlocks_popIntake, computeGrants_popIntake, computeGrants_resetBlocks]
  rfl

end Sys2Proof.Machine
end

section
namespace Sys2Proof.Machine
open Sys2Proof

/-! ## What the operations of a frame start leave unchanged -/

/-- The adjustment does not touch the frame handed over. -/
theorem adjustPhase_mapEnded (f : Option EndedFrame) (s : State) :
    adjustPhase (s.mapTl fun t => { t with ended := f }) = (adjustPhase s).mapTl fun t => { t with ended := f } := by
  by_cases h : s.tl.anchor = none ∨ s.time.sync = .unsynced
  · rw [adjustPhase_free h, adjustPhase_free (s := s.mapTl fun t => { t with ended := f }) h]
    rfl
  · obtain ⟨ha, hs⟩ := not_or.1 h
    obtain ⟨a, ha⟩ := Option.ne_none_iff_exists'.1 ha
    rw [adjustPhase_anchored ha hs, adjustPhase_anchored (s := s.mapTl fun t => { t with ended := f }) ha hs, lockPhase_eq,
      lockPhase_eq]
    rfl

/-- The judgement of an average moves the Power Manager's counts and derate level and may raise an event (R133). -/
theorem judgeAverage_changes (s : State) : ∃ power ev,
    judgeAverage s = { s with power := power, req := { s.req with events := ev } } ∧ power.count = s.power.count ∧
      power.average = s.power.average := by
  have counted : s.power.countAverage.count = s.power.count ∧ s.power.countAverage.average = s.power.average := by
    unfold Power.countAverage
    split
    · exact ⟨rfl, rfl⟩
    · split <;> exact ⟨rfl, rfl⟩
  unfold judgeAverage
  dsimp only
  split
  · rw [derateUp, raise_eq, withEvent_changes]
    exact ⟨_, _, rfl, counted⟩
  · split
    · exact ⟨_, _, rfl, counted⟩
    · exact ⟨_, _, rfl, counted⟩

/-- Closing the frame average moves the Power Manager and may raise an event (R132, R133). -/
theorem closeAverage_changes (s : State) : ∃ power ev,
    closeAverage s = { s with power := power, req := { s.req with events := ev } } ∧ power.count = 0 ∧
      (0 < s.power.count → power.average = s.power.sum / s.power.count) := by
  unfold closeAverage
  split
  next h =>
    obtain ⟨power, ev, eq, count, average⟩ :=
      judgeAverage_changes (s.mapPower fun p => { p with average := p.sum / p.count, sum := 0, count := 0 })
    exact ⟨power, ev, eq, count, fun _ => average⟩
  next h => exact ⟨_, _, rfl, Nat.eq_zero_of_not_pos h, fun hc => absurd hc h⟩

/-- A grant computation keeps all of the Request Controller but its events. -/
theorem computeGrants_req (s : State) : (computeGrants s).req = { s.req with events := (computeGrants s).req.events } := by
  have same := computeGrants_mapReq (g := fun r => { s.req with events := r.events }) (fun _ _ => rfl) s
  have req := congrArg State.req same
  exact req

/-- A grant computation keeps the frame average. -/
theorem computeGrants_average (s : State) :
    (computeGrants s).power.count = s.power.count ∧ (computeGrants s).power.average = s.power.average := by
  rw [computeGrants_power, computePower]
  split <;> exact ⟨rfl, rfl⟩

/-! ## Darkness while no window is open (R61, R84) -/

/-- No window of a strobe or an exposure is open: no light is lit. -/
def NoWindowOpen (t : Timeline) : Prop :=
  t.running = false ∨ (∀ e, t.strobe.get e ≠ .opened) ∧ ∀ c, t.expose.get c ≠ .opened

theorem strobeLit_eq_false {s : State} (h : NoWindowOpen s.tl) (e : Eye) : strobeLit s e = false := by
  rcases h with h | ⟨h, -⟩
  · simp [strobeLit, h]
  · simp [strobeLit, h e]

theorem illumLit_eq_false {s : State} (h : NoWindowOpen s.tl) (c : Camera) : illumLit s c = false := by
  rcases h with h | ⟨-, h⟩
  · simp [illumLit, h]
  · simp [illumLit, h c]

/-- With no window open the lights go dark. -/
theorem lights_dark {s : State} (h : NoWindowOpen s.tl) : lights s = { s with
    disp := { s.disp with eyes := s.disp.eyes.map fun d => { d with drive := 0 } }
    motion := { s.motion with cams := s.motion.cams.map fun k => { k with drive := 0 } } } := by
  have eye : ∀ e, lightEye s e = { s.disp.eyes.get e with drive := 0 } := fun e => by
    simp [lightEye, strobeLit_eq_false h]
  have cam : ∀ c, lightCam s c = { s.motion.cams.get c with drive := 0 } := fun c => by
    simp [lightCam, illumLit_eq_false h]
  rw [lights, eye, eye, cam, cam, cam, cam]
  rfl

/-- The eyes with their strobes dark, and the Motion Hub with its illuminators dark. -/
def darkEyes (s : State) : PerEye EyeDisplay := s.disp.eyes.map fun d => { d with drive := 0 }
def darkMotion (s : State) : Motion := { s.motion with cams := s.motion.cams.map fun k => { k with drive := 0 } }

theorem lights_darkEyes {s : State} (h : NoWindowOpen s.tl) :
    (lights s).disp.eyes = darkEyes s ∧ (lights s).motion = darkMotion s := by
  rw [lights_dark h]
  exact ⟨rfl, rfl⟩

/-- With no window open a blank condition darkens only what `lights` darkens. -/
theorem blank_darkEyes {s : State} (h : NoWindowOpen s.tl) (c : Cause) :
    darkEyes (blank c s) = darkEyes s ∧ darkMotion (blank c s) = darkMotion s := by
  unfold blank
  split
  · exact ⟨rfl, rfl⟩
  · rw [raiseIf_eq, lights_dark (s := { s.mapDisp _ with req := _ }) h]
    exact ⟨rfl, rfl⟩

/-- With no window open a grant computation leaves every light dark. -/
theorem computeGrants_dark {s : State} (h : NoWindowOpen s.tl) :
    (computeGrants s).disp.eyes = darkEyes s ∧ (computeGrants s).motion = darkMotion s := by
  have hand : ∀ t : State, NoWindowOpen t.tl →
      (handGrants t).disp.eyes = darkEyes t ∧ (handGrants t).motion = darkMotion t := by
    intro t ht
    rw [handGrants, setBlank]
    obtain ⟨eyes, motion⟩ := blank_darkEyes ht .power
    split
    · obtain ⟨eyes', motion'⟩ := lights_darkEyes
        (s := setMute .power (t.power.audioGrant == .l0 || t.power.brownout)
          ((blank .power t).mapAudio fun a => { a with ceiling := t.power.audioGrant })) (by simpa using ht)
      exact ⟨eyes'.trans eyes, motion'.trans motion⟩
    · exact lights_darkEyes (s := setMute .power (t.power.audioGrant == .l0 || t.power.brownout)
          ((unblank .power t).mapAudio fun a => { a with ceiling := t.power.audioGrant })) (by simpa using ht)
  obtain ⟨eyes, motion⟩ := hand (raiseLimited s.power s.available (computePower s)) (by simpa using h)
  refine ⟨eyes.trans ?_, motion.trans ?_⟩
  · simp [darkEyes]
  · simp [darkMotion]

/-- A state that keeps what waits, the pins, the clock and the Timebase is told by the other blocks. -/
theorem State.eq_of_kept {s t : State} (pending : t.pending = s.pending) (powered : t.powered = s.powered)
    (pins : t.pins = s.pins) (clock : t.clock = s.clock) (time : t.time = s.time) :
    t = { s with
      tl := t.tl, req := t.req, link := t.link, disp := t.disp, shift := t.shift, motion := t.motion
      audio := t.audio, power := t.power, free := t.free } := by
  rw [← pending, ← powered, ← pins, ← clock, ← time]

/-! ## Frame starts (R1 to R3) -/

/-- The frame now beginning, before the bank switch (R1 to R3). -/
def begunFrame (s : State) : State := { s with
  tl := { s.tl with
    counter := 0, frame := s.tl.frame + 1, startTick := s.now, newBank := s.tl.waiting.isSome, ended := none
    latched := .both false, scanOpened := .both false, strobe := .both .before, expose := .all .before }
  disp := { s.disp with eyes := s.disp.eyes.map fun d => { d with repeats := 0, lit := false } }
  shift := { s.shift with latched := .both false }
  motion := { s.motion with darkened := false } }

/-- The waiting commit applied and its requests answered (R11). -/
def committed (atFrameStart : Bool) (c : Commit) (s : State) : State := { s with
  tl := { s.tl with active := s.tl.pendingBank, windows := c.windows, leads := c.leads, waiting := none }
  req := finishAll (s.req.table.filter fun e => e.wait.isCommit) .ok (fun _ => .committed c s.tl.frame atFrameStart) s.req }

theorem switchBank_none {s : State} (b : Bool) (h : s.tl.waiting = none) : switchBank b s = s := by
  rw [switchBank, h]

theorem switchBank_some {s : State} {c : Commit} (b : Bool) (h : s.tl.waiting = some c) :
    switchBank b s = committed b c s := by
  rw [switchBank, h]
  rfl

/-- What is left of a frame start after the bank switch: the adjustment, the FRAME record, the frame average and the
grants (R2). -/
def frameFinished (s switched : State) : State :=
  let x := adjustPhase switched
  computeGrants (closeAverage { x with
    tl := { x.tl with reportCount := if s.tl.active.divider ≤ s.tl.reportCount + 1 then 0 else s.tl.reportCount + 1 }
    link := offered (if s.tl.active.divider ≤ s.tl.reportCount + 1 then
      [.frame { frameNow false s with phase := x.tl.phase }] else []) s })

theorem offered_congr {s t : State} (rs : List Report) (h : t.link = s.link) : offered rs t = offered rs s := by
  simp only [offered, h]

theorem offered_nil (s : State) : offered [] s = s.link := by
  simp [offered]

/-- The FRAME record of a frame just ended is offered when the report divider says so (R19). -/
theorem countFrame_eq {s : State} {f : EndedFrame} (h : s.tl.ended = some f) : countFrame s = { s with
    tl := { s.tl with
      reportCount := if f.divider ≤ s.tl.reportCount + 1 then 0 else s.tl.reportCount + 1, ended := none }
    link := offered (if f.divider ≤ s.tl.reportCount + 1 then [.frame f.record] else []) s } := by
  have reached : recordReached (s.mapTl fun t => { t with reportCount := t.reportCount + 1 }) =
      decide (f.divider ≤ s.tl.reportCount + 1) := by
    simp [recordReached, h]
  unfold countFrame
  simp only [reached, decide_eq_true_eq]
  by_cases hd : f.divider ≤ s.tl.reportCount + 1
  · simp only [hd, if_true, recordDue, mapTl_tl, h, offer_eq]
    rfl
  · simp only [hd, if_false, offered_nil]
    rfl

theorem eyeFrame_eq (s : State) (e : Eye) : eyeFrame s e =
    if s.shift.latched.get e then
      ⟨(s.disp.eyes.get e).bound.map Head.id, s.shift.record.get e, (s.disp.eyes.get e).repeats, (s.disp.eyes.get e).lit⟩
    else ⟨none, .zero, (s.disp.eyes.get e).repeats, (s.disp.eyes.get e).lit⟩ := by
  rw [eyeFrame, ShiftUnit.handover]
  cases s.shift.latched.get e <;> rfl

/-- The frame handed over, as its record describes it (R20). -/
theorem endFrame_eq (cut : Bool) (s : State) : endFrame cut s = ⟨frameNow cut s, s.tl.active.divider⟩ := by
  rw [endFrame, eyeFrame_eq, eyeFrame_eq]
  rfl

/-- The operations of R2 in their order: with the frame handed over kept aside, it is `frameFinished`. -/
theorem finishFrame_eq {s z : State} (hl : z.link = s.link) (hc : z.tl.reportCount = s.tl.reportCount)
    (he : z.tl.ended = none) :
    computeGrants (closeAverage (countFrame ((adjustPhase (z.mapTl fun t =>
      { t with ended := some (endFrame false s) })).mapTl Timeline.tellPhase))) = frameFinished s z := by
  obtain ⟨adj, err, frameErr, run, phase, ev, eq, -, -⟩ := adjustPhase_changes z
  rw [endFrame_eq, adjustPhase_mapEnded, countFrame_eq rfl, frameFinished, eq]
  refine congrArg (fun y => computeGrants (closeAverage y)) ?_
  simp only [mapTl_tl, Timeline.tellPhase, hc, he]
  rw [offered_congr (s := s) _ (by simpa using hl)]
  rfl

/-- The frame handed over is kept aside while the next begins. -/
theorem beginFrame_handOver {s : State} (h : s.tl.running = true) :
    beginFrame (handOver false s) = (begunFrame s).mapTl fun t => { t with ended := some (endFrame false s) } := by
  simp only [beginFrame, handOver, begunFrame, State.mapTl, Timeline.begin, h]
  rfl

/-- A frame start with no commit waiting (R2). -/
theorem startFrame_free {s : State} (hr : s.tl.running = true) (hw : s.tl.waiting = none) :
    startFrame s = frameFinished s (begunFrame s) := by
  rw [startFrame, beginFrame_handOver hr, switchBank_none _ (by exact hw)]
  exact finishFrame_eq rfl rfl rfl

/-- A frame start that switches the bank (R2, R11). -/
theorem startFrame_waiting {s : State} {c : Commit} (hr : s.tl.running = true) (hw : s.tl.waiting = some c) :
    startFrame s = frameFinished s (committed true c (begunFrame s)) := by
  rw [startFrame, beginFrame_handOver hr, switchBank_some (c := c) _ (by exact hw)]
  exact finishFrame_eq (z := committed true c (begunFrame s)) rfl rfl rfl

/-- The frame now beginning with a bank, its windows and leads and a Request Controller. -/
def switchedFrame (bank : Bank) (windows : Windows) (leads : PerEye (Option Nat)) (req : Requests) (s : State) : State :=
  { begunFrame s with
    tl := { (begunFrame s).tl with active := bank, windows := windows, leads := leads, waiting := none }
    req := req }

theorem begunFrame_eq {s : State} (hw : s.tl.waiting = none) :
    begunFrame s = switchedFrame s.tl.active s.tl.windows s.tl.leads s.req s := by
  simp only [switchedFrame, begunFrame, hw]

/-- A frame start before its grant computation, by what the adjustment and the frame average leave (R2). -/
def frameOutcome (s z : State) (adj : Int) (err frameErr : Option Int) (run : Nat) (phase : PhaseMode) (power : Power)
    (events : List Event) : State := { z with
  tl := { z.tl with
    adj := adj, lastError := err, frameError := frameErr, lockRun := run, phase := phase
    reportCount := if s.tl.active.divider ≤ s.tl.reportCount + 1 then 0 else s.tl.reportCount + 1 }
  link := offered (if s.tl.active.divider ≤ s.tl.reportCount + 1 then
    [.frame { frameNow false s with phase := phase }] else []) s
  power := power
  req := { z.req with events := events } }

/-- The end of a frame start is a grant computation in which nothing of the timeline, the link and the Late Shift Unit is
still to change (R2). -/
theorem frameFinished_changes (s z : State) : ∃ adj err frameErr run phase power ev,
    frameFinished s z = computeGrants (frameOutcome s z adj err frameErr run phase power ev) ∧
    power.count = 0 ∧ (0 < z.power.count → power.average = z.power.sum / z.power.count) ∧
    (z.tl.anchor = none ∨ z.time.sync = .unsynced →
      adj = 0 ∧ frameErr = none ∧ err = z.tl.lastError ∧ phase = z.tl.phase ∧ run = z.tl.lockRun) ∧
    ∀ a, z.tl.anchor = some a → z.time.sync ≠ .unsynced →
      let e := phaseError (z.time.hostOf z.tl.startTick) a z.tl.active.period
      adj = adjustment e ∧ err = some e ∧ frameErr = some e := by
  obtain ⟨adj, err, frameErr, run, phase, ev, eq, free, anchored⟩ := adjustPhase_changes z
  obtain ⟨power, ev', eq', count, average⟩ := closeAverage_changes (frameOutcome s z adj err frameErr run phase z.power ev)
  refine ⟨adj, err, frameErr, run, phase, power, ev', ?_, count, average, free, anchored⟩
  rw [frameFinished, eq]
  exact congrArg computeGrants eq'

end Sys2Proof.Machine
end

section
namespace Sys2Proof.Machine
open Sys2Proof

/-! ## The state after a frame start -/

/-- Every entry ended has its reply among the replies queued for them (R164, R167). -/
theorem repliesOf_mem {st : Status} {b : Entry → ReplyBody} {es : List Entry} {new : List Reply}
    (h : repliesOf st b es new) {e : Entry} (he : e ∈ es) :
    ∃ x ∈ new, x.client = e.client ∧ x.tag = e.tag ∧ x.status = st ∧ x.body = b e ∧ x.taken = e.taken := by
  induction es generalizing new with
  | nil => cases he
  | cons head tail ih =>
    obtain ⟨own, later, client, tag, -, status, body, taken, queued, rest⟩ := h
    have mem : own ∈ new ∧ ∀ x ∈ later, x ∈ new := by
      rcases queued with ⟨-, rfl⟩ | ⟨-, dup, -, rfl⟩
      · exact ⟨List.mem_cons_self, fun x hx => List.mem_cons_of_mem _ hx⟩
      · exact ⟨List.mem_cons_self, fun x hx => List.mem_cons_of_mem _ (List.mem_cons_of_mem _ hx)⟩
    rcases List.mem_cons.1 he with rfl | he
    · exact ⟨own, mem.1, client, tag, status, body, taken⟩
    · obtain ⟨x, hx, told⟩ := ih rest he
      exact ⟨x, mem.2 x hx, told⟩

theorem isCommit_iff (w : Wait) : w.isCommit = true ↔ w = .commit := by
  cases w <;> simp [Wait.isCommit]

/-- A switch of the bank ends the requests that wait for it (R11, R164). -/
theorem committed_ended {s : State} (atFrameStart : Bool) (c : Commit) (h : TableSound s) :
    waitingEnded (fun e => e.wait = .commit) .ok (fun _ => .committed c s.tl.frame atFrameStart) s.req
      (committed atFrameStart c s).req :=
  finishWaiting_ended Wait.isCommit _ (fun e => isCommit_iff e.wait) _ _ _ h.2.1

/-- What a frame start leaves, its bank switch having left this bank and these requests (R1 to R3, R16, R19, R63, R84,
R104, R132). -/
theorem frameFinished_switched {bank : Bank} {windows : Windows} {leads : PerEye (Option Nat)} {req : Requests}
    {s t : State} (hr : s.tl.running = true) (ht : t = frameFinished s (switchedFrame bank windows leads req s)) :
    let due := s.tl.active.divider ≤ s.tl.reportCount + 1
    (t.tl.running = true ∧ t.tl.counter = 0 ∧ t.tl.frame = s.tl.frame + 1 ∧ t.tl.startTick = s.now ∧
      t.tl.strobe = .both .before ∧ t.tl.expose = .all .before ∧ t.tl.latched = .both false ∧
      t.tl.scanOpened = .both false ∧ t.tl.waiting = none ∧ t.tl.newBank = s.tl.waiting.isSome ∧ t.tl.ended = none ∧
      t.tl.pendingBank = s.tl.pendingBank ∧ t.tl.anchor = s.tl.anchor) ∧
    (t.tl.active = bank ∧ t.tl.windows = windows ∧ t.tl.leads = leads) ∧
    t.req = { req with events := t.req.events } ∧
    (s.tl.anchor = none ∨ s.time.sync = .unsynced → t.tl.adj = 0 ∧ t.tl.frameError = none ∧
      t.tl.lastError = s.tl.lastError ∧ t.tl.phase = s.tl.phase ∧ t.tl.lockRun = s.tl.lockRun) ∧
    (∀ a, s.tl.anchor = some a → s.time.sync ≠ .unsynced →
      let e := phaseError (s.time.hostOf s.now) a bank.period
      t.tl.adj = adjustment e ∧ t.tl.lastError = some e ∧ t.tl.frameError = some e) ∧
    t.tl.reportCount = (if due then 0 else s.tl.reportCount + 1) ∧
    t.link = offered (if due then [.frame { frameNow false s with phase := t.tl.phase }] else []) s ∧
    (∀ e, t.disp.eyes.get e = { s.disp.eyes.get e with repeats := 0, lit := false, drive := 0 }) ∧
    t.shift = { s.shift with latched := .both false } ∧
    t.motion = { s.motion with darkened := false, cams := s.motion.cams.map fun k => { k with drive := 0 } } ∧
    t.power.count = 0 ∧ (0 < s.power.count → t.power.average = s.power.sum / s.power.count) ∧
    t = { s with
      tl := t.tl, req := t.req, link := t.link, disp := t.disp, shift := t.shift, motion := t.motion
      audio := t.audio, power := t.power, free := t.free } := by
  obtain ⟨adj, err, frameErr, run, phase, power, ev, eq, count, average, free, anchored⟩ :=
    frameFinished_changes s (switchedFrame bank windows leads req s)
  obtain ⟨y, hy⟩ : ∃ y, y = frameOutcome s (switchedFrame bank windows leads req s) adj err frameErr run phase power ev :=
    ⟨_, rfl⟩
  have eq' : t = computeGrants y := by rw [hy]; exact ht.trans eq
  have tl : t.tl = (frameOutcome s (switchedFrame bank windows leads req s) adj err frameErr run phase power ev).tl := by
    rw [eq', computeGrants_tl, hy]
  have closed : NoWindowOpen y.tl := by
    rw [hy]
    refine .inr ⟨fun e => ?_, fun c => ?_⟩
    · exact fun h => nomatch (PerEye_get_both _ e).symm.trans h
    · exact fun h => nomatch (PerCam_get_all _ c).symm.trans h
  obtain ⟨eyes, motion⟩ := computeGrants_dark closed
  obtain ⟨count', average'⟩ := computeGrants_average y
  rw [tl]
  refine ⟨⟨hr, rfl, rfl, rfl, rfl, rfl, rfl, rfl, rfl, rfl, rfl, rfl, rfl⟩, ⟨rfl, rfl, rfl⟩, ?_, free, anchored, rfl, ?_,
    fun e => ?_, ?_, ?_, ?_, fun h => ?_, ?_⟩
  · rw [eq', computeGrants_req, hy]
    rfl
  · rw [eq', computeGrants_link, hy]
    rfl
  · rw [eq', eyes, hy, darkEyes, PerEye_get_map]
    exact congrArg (fun d : EyeDisplay => { d with drive := 0 }) (PerEye_get_map _ _ e)
  · rw [eq', computeGrants_shift, hy]
    rfl
  · rw [eq', motion, hy]
    rfl
  · rw [eq', count', hy]
    exact count
  · rw [eq', average', hy]
    exact average h
  · rw [← tl]
    refine State.eq_of_kept ?_ ?_ ?_ ?_ ?_
    · rw [eq', computeGrants_pending, hy]
      rfl
    · rw [eq', computeGrants_powered, hy]
      rfl
    · rw [eq', computeGrants_pins, hy]
      rfl
    · rw [eq', computeGrants_clock, hy]
      rfl
    · rw [eq', computeGrants_time, hy]
      rfl

theorem startFrame_switched {s : State} {c : Commit} (hr : s.tl.running = true) (hw : s.tl.waiting = some c) :
    startFrame s = frameFinished s
      (switchedFrame s.tl.pendingBank c.windows c.leads (committed true c (begunFrame s)).req s) :=
  startFrame_waiting hr hw

theorem startFrame_kept {s : State} (hr : s.tl.running = true) (hw : s.tl.waiting = none) :
    startFrame s = frameFinished s (switchedFrame s.tl.active s.tl.windows s.tl.leads s.req s) := by
  rw [startFrame_free hr hw, begunFrame_eq hw]

/-- The requests that waited for a commit are answered, and leave the table (R11, R164). -/
theorem waitingEnded_answered {p : Entry → Prop} {st : Status} {b : Entry → ReplyBody} {r r' : Requests}
    (h : waitingEnded p st b r r') : (∀ e, e ∈ r'.table ↔ e ∈ r.table ∧ ¬ p e) ∧
      ∀ e ∈ r.table, p e → ∃ x ∈ r'.replies, x.client = e.client ∧ x.tag = e.tag ∧ x.status = st ∧ x.body = b e ∧
        x.taken = e.taken := by
  obtain ⟨es, new, -, ended, replies, -, table, eq⟩ := h
  refine ⟨table, fun e he hpe => ?_⟩
  obtain ⟨x, hx, told⟩ := repliesOf_mem replies ((ended e).2 ⟨he, hpe⟩)
  refine ⟨x, ?_, told⟩
  rw [eq]
  exact List.mem_append_right _ hx

/-- Settles O26: a frame start is `frameFinished` after the bank switch. -/
theorem frameStarts : Obligations.FrameStarts := by
  unfold Obligations.FrameStarts
  refine fun s hp => ⟨fun hr hc ho => ?_, fun f hf hd => act_eq hp ?_ ?_⟩
  · have due : frameStartDue s = true := by
      simp only [frameStartDue, hr, ho, Bool.true_and, Bool.not_false, Bool.and_true]
      exact decide_eq_true hc
    have started : exec .frameStart s = .next (startFrame s) := act_of hp due
    refine ⟨fun hw => ?_, fun c hw ht => ?_, startFrame s, started, ?_⟩
    · rw [started, startFrame_free hr hw]
      rfl
    · refine ⟨_, committed_ended (s := begunFrame s) true c ht, ?_⟩
      rw [started, startFrame_waiting hr hw]
      rfl
    · cases hw : s.tl.waiting with
      | none =>
        obtain ⟨⟨running, counter, frame, startTick, strobe, expose, latched, scanOpened, waiting, newBank, ended, pending,
          anchor⟩, bank, req, free, anchored, rest⟩ := frameFinished_switched hr (startFrame_kept hr hw)
        refine ⟨running, counter, frame, startTick, strobe, expose, latched, scanOpened, waiting, hw ▸ newBank, ended,
          pending, anchor, fun _ => bank, fun _ h => (nomatch h), fun _ => req, free, fun a ha hs => ?_, rest⟩
        rw [bank.1]
        exact anchored a ha hs
      | some c =>
        obtain ⟨⟨running, counter, frame, startTick, strobe, expose, latched, scanOpened, waiting, newBank, ended, pending,
          anchor⟩, ⟨bank, windows, leads⟩, req, free, anchored, rest⟩ :=
            frameFinished_switched hr (startFrame_switched hr hw)
        refine ⟨running, counter, frame, startTick, strobe, expose, latched, scanOpened, waiting, hw ▸ newBank, ended,
          pending, anchor, fun h => (nomatch h), fun c' hc' => ?_, fun h => (nomatch h), free, fun a ha hs => ?_, rest⟩
        · cases hc'
          refine ⟨bank, windows, leads, fun ht => ?_⟩
          have answered := waitingEnded_answered (committed_ended (s := begunFrame s) true c ht)
          rw [req]
          exact answered
        · rw [bank]
          exact anchored a ha hs
  · simp [recordReached, hf, hd]
  · rw [recordDue, hf]
    exact offer_eq _ _

end Sys2Proof.Machine
end

section
namespace Sys2Proof.Machine
open Sys2Proof

/-! ## Exposures closed at a stop (R82) -/

/-- A camera channel left by a stop: an enabled one is IDLE (R82). -/
def idled (k : Cam) : Cam := if k.state = .disabled then k else { k with state := .idle, context := none }

theorem idled_of {k : Cam} (h : k.state ≠ .disabled) : idled k = { k with state := .idle, context := none } := by
  rw [idled, if_neg h]

/-- The record of an exposure closed early is offered (R82). -/
theorem recordEarly_eq {c : Camera} {s : State}
    (h : (s.motion.cams.get c).state = .opened ∨ (s.motion.cams.get c).state = .closing) :
    recordEarly c s = { s with link := offered (earlyRecord s c).toList s } := by
  have told : earlyRecord s c = match (s.motion.cams.get c).context with
      | some x => if x.recorded = false ∧ x.stop = none then
          x.start.map fun t => .exposure ⟨c, x.frame, t, x.trigger, none, x.drive, false, true, true, x.lateStart⟩
        else none
      | none => none := by
    unfold earlyRecord
    rcases h with h | h <;> rw [h] <;> cases (s.motion.cams.get c).context <;> rfl
  rw [told, recordEarly]
  cases hx : (s.motion.cams.get c).context with
  | none => rw [Option.toList, offered_nil]
  | some x =>
    rcases x with ⟨f, t, start, stop, d, recorded, l, dl⟩
    cases start <;> cases stop <;> cases recorded <;> simp [offered_nil, makeRecord, offer_eq]

theorem earlyRecord_eq_none {s : State} {c : Camera} (h1 : (s.motion.cams.get c).state ≠ .opened)
    (h2 : (s.motion.cams.get c).state ≠ .closing) : earlyRecord s c = none := by
  unfold earlyRecord
  split
  next h _ => exact absurd h h1
  next h _ => exact absurd h h2
  next => rfl

theorem PerCam_set_get {α : Type} (p : PerCam α) (c : Camera) : p.set c (p.get c) = p := by
  match c with
  | 0 | 1 | 2 | 3 => rfl

/-- Closing one camera's exposure early (R82). -/
theorem closeEarly_eq (c : Camera) (s : State) : closeEarly c .idle s = { s with
    motion := { s.motion with cams := s.motion.cams.set c (idled (s.motion.cams.get c)) }
    link := offered (earlyRecord s c).toList s } := by
  unfold closeEarly
  cases hs : (s.motion.cams.get c).state with
  | disabled =>
    rw [earlyRecord_eq_none (by simp [hs]) (by simp [hs]), idled, if_pos hs, PerCam_set_get, Option.toList, offered_nil]
  | idle =>
    rw [earlyRecord_eq_none (by simp [hs]) (by simp [hs]), idled_of (by simp [hs]), Option.toList, offered_nil]
    rfl
  | opened =>
    rw [idled_of (by simp [hs]), recordEarly_eq (.inl hs)]
    rfl
  | closing =>
    rw [idled_of (by simp [hs]), recordEarly_eq (.inr hs)]
    rfl

/-- Offering more records after some is offering them all. -/
theorem offered_append (a b : List Report) (s : State) :
    offered (a ++ b) s = offered b { s with link := offered a s } := by
  have state : ∀ l : Link, (a.foldl (fun l r => l.offer r) l).state = l.state := by
    induction a with
    | nil => exact fun _ => rfl
    | cons r a ih =>
      intro l
      rw [List.foldl_cons, ih]
      unfold Link.offer
      split
      · rfl
      · cases r <;> rfl
  unfold offered
  by_cases h : s.link.state = .up ∨ s.link.state = .hold
  · simp only [h, if_true, List.foldl_append, state]
  · simp only [h, if_false]

/-- What is told of a camera does not change when another is closed. -/
theorem earlyRecord_other {s : State} {c k : Camera} (h : k ≠ c) (x : Cam) (l : Link) :
    earlyRecord { s with motion := { s.motion with cams := s.motion.cams.set c x }, link := l } k = earlyRecord s k := by
  unfold earlyRecord
  rw [PerCam_get_set_other _ _ _ _ h]

/-- Closing the exposures of distinct cameras early, one after another (R82). -/
theorem foldl_closeEarly (cs : List Camera) (s : State) (h : cs.Nodup) :
    cs.foldl (fun s c => closeEarly c .idle s) s = { s with
      motion := { s.motion with cams := cs.foldl (fun p c => p.set c (idled (p.get c))) s.motion.cams }
      link := offered (cs.filterMap (earlyRecord s)) s } := by
  induction cs generalizing s with
  | nil => rw [List.filterMap_nil, offered_nil]; rfl
  | cons c cs ih =>
    obtain ⟨hc, hcs⟩ := List.nodup_cons.1 h
    have others : cs.filterMap (earlyRecord (closeEarly c .idle s)) = cs.filterMap (earlyRecord s) := by
      rw [closeEarly_eq]
      exact List.filterMap_congr fun k hk => earlyRecord_other (fun e : k = c => hc (e ▸ hk)) _ _
    have all : (c :: cs).filterMap (earlyRecord s) = (earlyRecord s c).toList ++ cs.filterMap (earlyRecord s) := by
      cases h : earlyRecord s c <;> simp [h]
    rw [List.foldl_cons, ih _ hcs, others, all, offered_append, closeEarly_eq]
    rfl

/-- A stop closes every exposure early (R82). -/
theorem stopExposures_eq (s : State) : stopExposures s = { s with
    motion := { s.motion with cams := s.motion.cams.map idled }
    link := offered (cameras.filterMap (earlyRecord s)) s } :=
  (foldl_closeEarly cameras s (by decide)).trans rfl

end Sys2Proof.Machine
end

section
namespace Sys2Proof.Machine
open Sys2Proof

/-! ## The frame ended by a stop (R14, R63, R82, R105) -/

/-- What a stop does after the latches due at counter 0 are signalled. -/
def endTimeline (s : State) : State :=
  commitAtStop (loosenPhase (closeAverage (lights (stopDisplay
    (countFrame ((handOver (!atFrameEnd s) (stopExposures s)).mapTl Timeline.halt))))))

theorem stopTimeline_eq (s : State) : stopTimeline s = endTimeline (latchesAtStart s) := rfl

/-- The frame ended by a stop, its windows closed, its lights dark and its records offered (R14, R19, R63, R82, R105). -/
def stopped (s : State) : State :=
  let due := s.tl.active.divider ≤ s.tl.reportCount + 1
  let cut := decide ((s.tl.counter : Int) < s.tl.active.period + s.tl.adj)
  let records := cameras.filterMap (earlyRecord s) ++ (if due then [.frame (frameNow cut s)] else [])
  { s with
    tl := { s.tl with
      running := false, counter := 0, adj := 0, strobe := .both .closed, expose := .all .closed, ended := none
      reportCount := if due then 0 else s.tl.reportCount + 1 }
    link := offered records s
    disp := { s.disp with
      eyes := s.disp.eyes.map fun d =>
        { d with repeats := 0, lit := false, scan := none, bound := none, shift := .zero, missed := 0, drive := 0 }
      present := { s.disp.present with stallLeft := false, stallRight := false } }
    shift := .reset
    motion := { s.motion with cams := s.motion.cams.map fun k =>
      if k.state = .disabled then { k with drive := 0 } else { k with state := .idle, context := none, drive := 0 } } }

/-- An idled channel whose illuminator is dark. -/
theorem idled_dark (k : Cam) : { idled k with drive := 0 } =
    if k.state = .disabled then { k with drive := 0 } else { k with state := .idle, context := none, drive := 0 } := by
  unfold idled
  split <;> rfl

theorem atFrameEnd_not (s : State) :
    (!atFrameEnd s) = decide ((s.tl.counter : Int) < s.tl.active.period + s.tl.adj) := by
  rw [atFrameEnd, Timeline.frameEnd, ← decide_not]
  simp

/-- The frame handed over at a stop, counted and its windows closed (R14, R19, R63). -/
theorem countFrame_handOver (cut : Bool) (s : State) : countFrame ((handOver cut s).mapTl Timeline.halt) = { s with
    tl := { s.tl with
      running := false, counter := 0, adj := 0, strobe := .both .closed, expose := .all .closed, ended := none
      reportCount := if s.tl.active.divider ≤ s.tl.reportCount + 1 then 0 else s.tl.reportCount + 1 }
    link := offered (if s.tl.active.divider ≤ s.tl.reportCount + 1 then [.frame (frameNow cut s)] else []) s
    disp := { s.disp with eyes := s.disp.eyes.map fun d => { d with repeats := 0, lit := false } }
    shift := { s.shift with latched := .both false } } := by
  rw [handOver, endFrame_eq, countFrame_eq rfl, offered_congr (s := s)]
  · rfl
  · rfl

theorem frameNow_stopExposures (cut : Bool) (s : State) : frameNow cut (stopExposures s) = frameNow cut s := by
  rw [stopExposures_eq]
  rfl

/-- After the hand-over the eyes are dark and without a frame (R63, R105). -/
theorem lights_stopDisplay {s : State} (h : NoWindowOpen s.tl) : lights (stopDisplay s) = { s with
    disp := { s.disp with
      eyes := s.disp.eyes.map fun d => { d with scan := none, bound := none, shift := .zero, missed := 0, drive := 0 }
      present := { s.disp.present with stallLeft := false, stallRight := false } }
    shift := .reset
    motion := darkMotion s } := by
  rw [lights_dark (s := stopDisplay s) h]
  rfl

theorem endTimeline_stopped (s : State) : endTimeline s = commitAtStop (loosenPhase (closeAverage (stopped s))) := by
  refine congrArg (fun t => commitAtStop (loosenPhase (closeAverage t))) ?_
  rw [atFrameEnd_not, countFrame_handOver, lights_stopDisplay (.inl rfl), frameNow_stopExposures, stopExposures_eq, stopped]
  simp only [← idled_dark, offered_append]
  rfl

/-! ## A stop beside the taking of its packet -/

theorem raise_popIntake (src : Source) (d : Detail) (s : State) : raise src d (popIntake s) = popIntake (raise src d s) :=
  raiseIf_popIntake true src d s

theorem closeAverage_popIntake (s : State) : closeAverage (popIntake s) = popIntake (closeAverage s) := by
  have judged : ∀ t : State, judgeAverage (popIntake t) = popIntake (judgeAverage t) := fun t => by
    unfold judgeAverage
    dsimp only
    rw [apply_ite popIntake, apply_ite popIntake, derateUp, derateUp, ← raise_popIntake]
    rfl
  unfold closeAverage
  rw [apply_ite popIntake, ← judged]
  rfl

theorem loosenPhase_popIntake (s : State) : loosenPhase (popIntake s) = popIntake (loosenPhase s) := by
  unfold loosenPhase
  rw [apply_ite popIntake, ← changePhase_popIntake]
  rfl

theorem stopped_popIntake (s : State) : stopped (popIntake s) = popIntake (stopped s) := rfl

/-- Ending waiting requests beside the taking of a packet. -/
theorem finishAll_taken (es : List Entry) (st : Status) (b : Entry → ReplyBody) (r : Requests) :
    finishAll es st b { r with intake := r.intake.drop 1, taken := r.taken + 1 } =
      { finishAll es st b r with
        intake := (finishAll es st b r).intake.drop 1, taken := (finishAll es st b r).taken + 1 } := by
  have one : ∀ (e : Entry) (r : Requests),
      finishEntry e st (b e) { r with intake := r.intake.drop 1, taken := r.taken + 1 } =
        { finishEntry e st (b e) r with
          intake := (finishEntry e st (b e) r).intake.drop 1, taken := (finishEntry e st (b e) r).taken + 1 } := by
    intro e r
    unfold finishEntry pushDuplicates countRefusal
    split <;> split <;> rfl
  induction es generalizing r with
  | nil => rfl
  | cons e es ih =>
    rw [finishAll, List.foldl_cons, one]
    exact ih _

theorem committed_popIntake (b : Bool) (c : Commit) (s : State) :
    committed b c (popIntake s) = popIntake (committed b c s) := by
  have req := finishAll_taken (s.req.table.filter fun e => e.wait.isCommit) .ok (fun _ => .committed c s.tl.frame b) s.req
  exact congrArg (fun r => ({ s with
    tl := { s.tl with active := s.tl.pendingBank, windows := c.windows, leads := c.leads, waiting := none }
    req := r } : State)) req

theorem commitAtStop_popIntake (s : State) : commitAtStop (popIntake s) = popIntake (commitAtStop s) := by
  unfold commitAtStop
  cases hw : s.tl.waiting with
  | none => rw [if_neg (by simp [hw]), if_neg (by simp)]
  | some c =>
    rw [if_pos (by simp [hw]), if_pos (by simp), switchBank_some (s := popIntake s) _ hw, switchBank_some _ hw,
      committed_popIntake, computeGrants_popIntake]

theorem stall_popIntake (e : Eye) (s : State) : stall e (popIntake s) = popIntake (stall e s) := by
  rw [stall, stall, ← raise_popIntake]
  exact congrArg (raise _ _) (blank_mapReq popIntake_spares _ s)

theorem latchEye_popIntake (e : Eye) (s : State) : latchEye e (popIntake s) = popIntake (latchEye e s) := by
  unfold latchEye
  dsimp only
  cases hp : (s.disp.eyes.get e).pending with
  | some h =>
    simp only [mapTl_disp, popIntake_disp, hp]
    rfl
  | none =>
    simp only [mapTl_disp, popIntake_disp, hp]
    rw [missFrame, missFrame, apply_ite popIntake, ← stall_popIntake]
    rfl

theorem latchesAtStart_popIntake (s : State) : latchesAtStart (popIntake s) = popIntake (latchesAtStart s) := by
  have one : ∀ (e : Eye) (t : State), latchAtStart e (popIntake t) = popIntake (latchAtStart e t) := fun e t => by
    unfold latchAtStart
    rw [apply_ite popIntake, ← latchEye_popIntake]
    rfl
  rw [latchesAtStart, latchesAtStart, one, one]

theorem stopTimeline_popIntake (s : State) : stopTimeline (popIntake s) = popIntake (stopTimeline s) := by
  rw [stopTimeline_eq, stopTimeline_eq, latchesAtStart_popIntake, endTimeline_stopped, endTimeline_stopped,
    stopped_popIntake, closeAverage_popIntake, loosenPhase_popIntake, commitAtStop_popIntake]

/-- TIMELINE_STOP in RUN (R14). -/
theorem exec_timelineStop {s : State} (h : Admitted .timelineStop s) (hr : s.tl.running = true) :
    exec .timelineStop s =
      .next { stopTimeline s with req := answered (asked s) .ok .empty (stopTimeline s).req } := by
  refine act_serve_admitted (t := stopTimeline s) h ?_
  rw [timelineStop, if_pos (show (popIntake s).tl.running = true from hr), stopTimeline_popIntake]
  rfl

/-! ## A latch due at counter 0, signalled before the stop or in it (log 47) -/

/-- A blank condition that becomes present reaches the Display Output and the events. -/
theorem blanked_changes (c : Cause) (s : State) : ∃ disp ev,
    blanked c s = { s with disp := disp, req := { s.req with events := ev } } := by
  unfold blanked
  split
  · exact ⟨_, _, rfl⟩
  · rw [withEvent_changes]
    exact ⟨_, _, rfl⟩

/-- A missed frame reaches the Display Output, the Late Shift Unit, the lights and the events (R54). -/
theorem missFrame_changes (e : Eye) (s : State) : ∃ disp shift motion ev, missFrame e s = { s with
    disp := disp, shift := shift, motion := motion, req := { s.req with events := ev } } := by
  rw [missFrame_eq]
  split
  · obtain ⟨disp, ev, eq⟩ := blanked_changes (stallCause e) (missed e s)
    rw [stalled, eq, withEvent_changes]
    exact ⟨_, _, _, _, rfl⟩
  · exact ⟨_, _, _, _, rfl⟩

/-- What a latch changes (R53, R54). -/
theorem latchEye_changes (e : Eye) (s : State) : ∃ disp shift motion ev, latchEye e s = { s with
    tl := { s.tl with latched := s.tl.latched.set e true }
    disp := disp, shift := shift, motion := motion, req := { s.req with events := ev } } := by
  unfold latchEye
  dsimp only
  split
  · exact ⟨_, _, _, _, rfl⟩
  · exact missFrame_changes e (s.mapTl fun t => { t with latched := t.latched.set e true })

theorem latchAtStart_due {s : State} {e : Eye} (hc : s.tl.counter = 0) (h : latchDue s e = true) :
    latchAtStart e s = latchEye e s := if_pos ⟨hc, h⟩

theorem latchAtStart_not_due {s : State} {e : Eye} (h : latchDue s e = false) : latchAtStart e s = s :=
  if_neg (by simp [h])

/-- At counter 0 a latch is due where the latch point is 0 and it was not signalled (R4). -/
theorem latchDue_at_start {s : State} (hc : s.tl.counter = 0) (e : Eye) : latchDue s e = true ↔
    s.tl.running = true ∧ s.tl.latched.get e = false ∧ s.tl.latchPoint e = some 0 := by
  unfold latchDue
  cases s.tl.latchPoint e <;> simp [hc, and_assoc]

/-- An eye latched is not latched again. -/
theorem latchDue_latchEye_same (e : Eye) (s : State) : latchDue (latchEye e s) e = false := by
  obtain ⟨disp, shift, motion, ev, eq⟩ := latchEye_changes e s
  simp [eq, latchDue]

/-- The latch of one eye is no part of the other's. -/
theorem latchDue_latchEye_other {e k : Eye} (h : k ≠ e) (s : State) : latchDue (latchEye e s) k = latchDue s k := by
  obtain ⟨disp, shift, motion, ev, eq⟩ := latchEye_changes e s
  rw [eq, latchDue, latchDue, PerEye_get_set_other _ _ _ _ h]
  rfl

/-- A stop finds the same latches signalled whether the first due was signalled before it or in it (log 47). -/
theorem latchesAtStart_latchEye {s : State} {e : Eye} (hc : s.tl.counter = 0) (hd : latchDue s e = true)
    (hl : e = .right → latchDue s .left = false) : latchesAtStart (latchEye e s) = latchesAtStart s := by
  cases e with
  | left =>
    rw [latchesAtStart, latchesAtStart, latchAtStart_due hc hd, latchAtStart_not_due (latchDue_latchEye_same .left s)]
  | right =>
    have left := hl rfl
    rw [latchesAtStart, latchesAtStart, latchAtStart_not_due left,
      latchAtStart_not_due ((latchDue_latchEye_other (by decide) s).trans left),
      latchAtStart_not_due (latchDue_latchEye_same .right s), latchAtStart_due hc hd]

/-- A latch leaves the request at the head of the intake to be taken as before. -/
theorem latchEye_admitted {k : Kind} {s : State} (h : Admitted k s) (e : Eye) :
    Admitted k (latchEye e s) ∧ asked (latchEye e s) = asked s ∧ (latchEye e s).tl.running = s.tl.running := by
  obtain ⟨disp, shift, motion, ev, eq⟩ := latchEye_changes e s
  rw [eq]
  exact ⟨h, rfl, rfl⟩

/-! ## TIMELINE_STOP (R14) -/

/-- The stopped timeline, the frame average closed and the phase lock back in ACQUIRING (R18, R132). -/
def freed (s : State) : State :=
  let dark := closeAverage (stopped s)
  { dark with
    tl := if s.tl.anchor.isSome then { dark.tl with phase := .acquiring, lockRun := 0 } else dark.tl
    req := withEvent (s.tl.anchor.isSome && s.tl.phase == .locked) .frameTimeline
      (.phaseLockChanged .acquiring s.tl.lastError) s.now dark.req }

theorem loosenPhase_stopped (s : State) : loosenPhase (closeAverage (stopped s)) = freed s := by
  obtain ⟨power, ev, eq, -, -⟩ := closeAverage_changes (stopped s)
  rw [freed, loosenPhase_eq, eq]
  rfl

/-- What a stop leaves for the commit that waits, and for the answer. -/
theorem freed_keeps (s : State) : (freed s).tl.waiting = s.tl.waiting ∧ (freed s).tl.frame = s.tl.frame ∧
    (freed s).tl.pendingBank = s.tl.pendingBank ∧ ∃ ev, (freed s).req = { s.req with events := ev } := by
  obtain ⟨power, ev, eq, -, -⟩ := closeAverage_changes (stopped s)
  rw [freed, eq, withEvent_changes]
  cases s.tl.anchor.isSome <;> exact ⟨rfl, rfl, rfl, _, rfl⟩

theorem freed_tableSound {s : State} (h : TableSound s) : TableSound (freed s) := by
  obtain ⟨-, -, -, ev, req⟩ := freed_keeps s
  rw [TableSound, req]
  exact h

theorem commitAtStop_none {s : State} (h : s.tl.waiting = none) : commitAtStop s = s :=
  if_neg (by simp [h])

theorem commitAtStop_some {s : State} {c : Commit} (h : s.tl.waiting = some c) :
    commitAtStop s = computeGrants (committed false c s) := by
  rw [commitAtStop, if_pos (by simp [h]), switchBank_some _ h]

/-- With no latch due at counter 0 a stop signals none. -/
theorem latchesAtStart_none {s : State}
    (h : ∀ e, s.tl.counter = 0 → s.tl.latched.get e = true ∨ s.tl.latchPoint e ≠ some 0) : latchesAtStart s = s := by
  by_cases hc : s.tl.counter = 0
  · refine latchesAtStart_of_none fun e => Bool.eq_false_iff.2 fun hd => ?_
    obtain ⟨-, hl, hp⟩ := (latchDue_at_start hc e).1 hd
    rcases h e hc with h | h
    · rw [hl] at h
      cases h
    · exact h hp
  · exact latchesAtStart_of_counter hc

/-- Settles O25: a latch before the stop or in it by `latchesAtStart_latchEye`, the stop by `endTimeline_stopped`. -/
theorem timelineStopEnds : Obligations.TimelineStopEnds := by
  unfold Obligations.TimelineStopEnds
  refine fun s h => ⟨fun hr => ?_, fun e t hr hc hl hp hfirst ht => ?_, fun hr hn => ?_⟩
  · refine act_serve_admitted (t := s) h ?_
    rw [timelineStop, if_neg (by simp [hr])]
    rfl
  · have due : latchDue s e = true := (latchDue_at_start hc e).2 ⟨hr, hl, hp⟩
    have latched : exec (.latch e) s = .next (latchEye e s) := act_of h.1 due
    cases latched.symm.trans ht
    obtain ⟨admitted, same, running⟩ := latchEye_admitted h e
    have first : e = .right → latchDue s .left = false := fun he => Bool.eq_false_iff.2 fun hd => by
      obtain ⟨-, hl, hp⟩ := (latchDue_at_start hc .left).1 hd
      exact (hfirst he).elim (fun h => Bool.false_ne_true (hl.symm.trans h)) fun h => h hp
    rw [exec_timelineStop h hr, exec_timelineStop admitted (running.trans hr), same, stopTimeline_eq, stopTimeline_eq,
      latchesAtStart_latchEye hc due first]
  · obtain ⟨waiting, frame, bank, -⟩ := freed_keeps s
    have stop : stopTimeline s = commitAtStop (freed s) := by
      rw [stopTimeline_eq, latchesAtStart_none hn, endTimeline_stopped, loosenPhase_stopped]
    refine ⟨fun hw => ?_, fun c hw ht => ?_⟩
    · rw [exec_timelineStop h hr, stop, commitAtStop_none (waiting.trans hw)]
      rfl
    · have ended := committed_ended false c (freed_tableSound ht)
      rw [frame] at ended
      refine ⟨_, ended, ?_⟩
      rw [exec_timelineStop h hr, stop, commitAtStop_some (waiting.trans hw), ← bank]
      rfl

end Sys2Proof.Machine
end

section
/-! PROOFS. What every command does to the queues, the FIFOs, the sensor ring and the request table. -/
namespace Sys2Proof.Machine
open Sys2Proof

/-! ## The event queue (R172) -/

/-- What tells the records of the event queue apart: source and kind. -/
def Event.key (e : Event) : Source × Nat := (e.source, e.detail.code)

theorem eventsDistinct_iff (s : State) : EventsDistinct s ↔ (s.req.events.map Event.key).Nodup := by
  simp [EventsDistinct, List.Nodup, List.pairwise_map, Event.key]

theorem matches_iff (e : Event) (src : Source) (d : Detail) :
    e.matches src d = true ↔ e.source = src ∧ e.detail.code = d.code := by
  simp [Event.matches]

/-- An event of a kind and source that no record has is appended (R172). -/
theorem raiseInto_new {src : Source} {d : Detail} (t : Tick) {es : List Event}
    (h : ∀ x ∈ es, ¬ (x.source = src ∧ x.detail.code = d.code)) : raiseInto src d t es = es ++ [⟨src, d, 1, t, t⟩] := by
  induction es with
  | nil => rfl
  | cons e es ih =>
    obtain ⟨he, hes⟩ := List.forall_mem_cons.1 h
    rw [raiseInto, if_neg (by rwa [matches_iff]), ih hes, List.cons_append]

/-- An event coalesces into the first record of its kind and source (R172). -/
theorem raiseInto_found {src : Source} {d : Detail} (t : Tick) {e : Event} (after : List Event)
    (he : e.source = src ∧ e.detail.code = d.code) {before : List Event}
    (h : ∀ x ∈ before, ¬ (x.source = src ∧ x.detail.code = d.code)) :
    raiseInto src d t (before ++ e :: after) =
      before ++ { e with count := bump 255 e.count, last := t, detail := d } :: after := by
  induction before with
  | nil => rw [List.nil_append, raiseInto, if_pos ((matches_iff e src d).2 he), List.nil_append]
  | cons b before ih =>
    obtain ⟨hb, hbs⟩ := List.forall_mem_cons.1 h
    rw [List.cons_append, raiseInto, if_neg (by rwa [matches_iff]), ih hbs, List.cons_append]

/-- In a list some element satisfies `p`, and one first does, or none does. -/
theorem first_or_none {α : Type} (p : α → Prop) (l : List α) :
    (∀ x ∈ l, ¬ p x) ∨ ∃ before e after, l = before ++ e :: after ∧ (∀ x ∈ before, ¬ p x) ∧ p e := by
  classical
  induction l with
  | nil => exact .inl (by simp)
  | cons a l ih =>
    by_cases ha : p a
    · exact .inr ⟨[], a, l, rfl, by simp, ha⟩
    · rcases ih with h | ⟨before, e, after, rfl, hb, he⟩
      · exact .inl (List.forall_mem_cons.2 ⟨ha, h⟩)
      · exact .inr ⟨a :: before, e, after, rfl, List.forall_mem_cons.2 ⟨ha, hb⟩, he⟩

/-- An event raised leaves no two records of a kind and source. -/
theorem raiseInto_nodup (src : Source) (d : Detail) (t : Tick) {es : List Event} (h : (es.map Event.key).Nodup) :
    ((raiseInto src d t es).map Event.key).Nodup := by
  rcases first_or_none (fun x : Event => x.source = src ∧ x.detail.code = d.code) es with hn | ⟨before, e, after, rfl, hb, he⟩
  · rw [raiseInto_new t hn, List.map_append, List.nodup_append]
    refine ⟨h, List.nodup_singleton _, ?_⟩
    rintro a ha b hb rfl
    obtain ⟨x, hx, hxa⟩ := List.mem_map.1 ha
    rw [List.map_singleton, List.mem_singleton] at hb
    exact hn x hx (Prod.ext_iff.1 (hxa.trans hb))
  · have key : Event.key { e with count := bump 255 e.count, last := t, detail := d } = e.key := Prod.ext rfl he.2.symm
    rw [raiseInto_found t after he hb]
    simpa [key] using h

/-! ## Ticks that rise (R25, R74) -/

/-- Of two ticks not after now the signed difference is that of their ages. -/
theorem tickDiff_of_ages {now a b : Tick} (ha : 0 ≤ tickDiff now a) (hb : 0 ≤ tickDiff now b) :
    tickDiff b a = tickDiff now a - tickDiff now b := by
  simp only [tickDiff, BitVec.toInt_eq_toNat_cond] at *
  bv_omega

theorem tickDiff_self (a : Tick) : tickDiff a a = 0 := by simp [tickDiff]

theorem eq_of_tickDiff_eq_zero {a b : Tick} (h : tickDiff a b = 0) : a = b := by
  have : (a - b).toInt = (0 : Tick).toInt := h
  exact sub_eq_zero.1 (BitVec.eq_of_toInt_eq this)

/-- Ticks rise exactly when none lies after now and each is younger than those before it. -/
theorem rising_iff (ticks : List Tick) (now : Tick) : Rising ticks now ↔
    ticks.Pairwise (fun a b => tickDiff now b < tickDiff now a) ∧ ∀ x ∈ ticks, 0 ≤ tickDiff now x := by
  unfold Rising
  refine and_congr_left fun hpos => ?_
  have : IsTrans Tick (fun a b => tickDiff now b < tickDiff now a) := ⟨fun _ _ _ h k => k.trans h⟩
  rw [← List.isChain_iff_pairwise, List.isChain_iff_getElem]
  constructor
  · intro h i hi
    have := h i _ _ (List.getElem?_eq_getElem (by omega)) (List.getElem?_eq_getElem hi)
    rw [tickDiff_of_ages (hpos _ (List.getElem_mem _)) (hpos _ (List.getElem_mem _))] at this
    omega
  · intro h i a b ha hb
    obtain ⟨hi, rfl⟩ := List.getElem?_eq_some_iff.1 ha
    obtain ⟨hj, rfl⟩ := List.getElem?_eq_some_iff.1 hb
    have := h i hj
    rw [tickDiff_of_ages (hpos _ (List.getElem_mem _)) (hpos _ (List.getElem_mem _))]
    omega

theorem Rising.sublist {l l' : List Tick} {now : Tick} (h : Rising l now) (hs : l'.Sublist l) : Rising l' now := by
  rw [rising_iff] at *
  exact ⟨h.1.sublist hs, fun x hx => h.2 x (hs.subset hx)⟩

/-- Rising ticks, none of them that of now, rise with now appended. -/
theorem Rising.snoc_now {l : List Tick} {now : Tick} (h : Rising l now) (hn : now ∉ l) : Rising (l ++ [now]) now := by
  rw [rising_iff] at *
  obtain ⟨hl, hpos⟩ := h
  refine ⟨List.pairwise_append.2 ⟨hl, List.pairwise_singleton _ _, fun a ha b hb => ?_⟩, fun x hx => ?_⟩
  · obtain rfl := List.mem_singleton.1 hb
    rw [tickDiff_self]
    exact lt_of_le_of_ne (hpos a ha) fun h0 => hn (eq_of_tickDiff_eq_zero h0.symm ▸ ha)
  · rcases List.mem_append.1 hx with hx | hx
    · exact hpos x hx
    · rw [List.mem_singleton.1 hx, tickDiff_self]

/-- A tick later a tick in the past is one tick older, while R25 still tells it from the future. -/
theorem tickDiff_next {now x : Tick} (h : tickDiff now x < 140737488355327) :
    tickDiff (now + 1) x = tickDiff now x + 1 := by
  simp only [tickDiff, BitVec.toInt_eq_toNat_cond] at *
  bv_omega

/-- A tick later recent ticks still rise, and none of them is that of now. -/
theorem Rising.next {l : List Tick} {now : Tick} (h : Rising l now) (hr : Recent l now) :
    Rising l (now + 1) ∧ now + 1 ∉ l := by
  rw [rising_iff] at *
  obtain ⟨hl, hpos⟩ := h
  refine ⟨⟨hl.imp_of_mem fun ha hb hab => ?_, fun x hx => ?_⟩, fun hn => ?_⟩
  · rw [tickDiff_next (hr _ ha), tickDiff_next (hr _ hb)]; omega
  · rw [tickDiff_next (hr x hx)]; have := hpos x hx; omega
  · have := tickDiff_next (hr _ hn)
    rw [tickDiff_self] at this
    have := hpos _ hn
    omega

end Sys2Proof.Machine
end

section
namespace Sys2Proof.Machine
open Sys2Proof

/-! ## The request table and the reply queue (R164 to R167) -/

/-- The table is sound with `n` places of the reply queue to spare. -/
def TableRoom (n : Nat) (r : Requests) : Prop :=
  r.table.length ≤ 16 ∧ r.table.Pairwise (fun a b => ¬ (a.client = b.client ∧ a.tag = b.tag)) ∧
    (∀ e ∈ r.table, ∀ x ∈ r.replies, ¬ (x.client = e.client ∧ x.tag = e.tag)) ∧
    r.replies.length + r.reserved + n ≤ 32

theorem tableSound_iff (s : State) : TableSound s ↔ TableRoom 0 s.req := Iff.rfl

theorem holds_iff (e : Entry) (c : BitVec 2) (g : BitVec 4) : e.holds c g = true ↔ e.client = c ∧ e.tag = g := by
  simp [Entry.holds]

theorem waits_eq_false_iff (r : Requests) (c : BitVec 2) (g : BitVec 4) :
    r.waits c g = false ↔ ∀ e ∈ r.table, ¬ (e.client = c ∧ e.tag = g) := by
  simp only [Requests.waits, List.any_eq_false, holds_iff]

theorem replied_eq_false_iff (r : Requests) (c : BitVec 2) (g : BitVec 4) :
    r.replied c g = false ↔ ∀ x ∈ r.replies, ¬ (x.client = c ∧ x.tag = g) := by
  simp [Requests.replied]

/-- A table with fewer entries and a reply queue with fewer replies keep their room. -/
theorem TableRoom.mono {n : Nat} {r r' : Requests} (h : TableRoom n r) (ht : r'.table.Sublist r.table)
    (hr : r'.replies.Sublist r.replies) : TableRoom n r' := by
  obtain ⟨h1, h2, h3, h4⟩ := h
  have hres : r'.reserved ≤ r.reserved := (ht.map Entry.places).sum_le_sum (by simp)
  have := hr.length_le
  exact ⟨ht.length_le.trans h1, h2.sublist ht, fun e he x hx => h3 e (ht.subset he) x (hr.subset hx), by omega⟩

/-- Replies of one client and tag that no entry has take as many places as they are. -/
theorem TableRoom.push {n : Nat} {r r' : Requests} {new : List Reply} (h : TableRoom (new.length + n) r)
    (c : BitVec 2) (g : BitVec 4) (hn : ∀ x ∈ new, x.client = c ∧ x.tag = g) (hw : r.waits c g = false)
    (ht : r'.table = r.table) (hr : r'.replies = r.replies ++ new) : TableRoom n r' := by
  obtain ⟨h1, h2, h3, h4⟩ := h
  rw [waits_eq_false_iff] at hw
  have hres : r'.reserved = r.reserved := by simp only [Requests.reserved, ht]
  refine ⟨ht ▸ h1, ht ▸ h2, fun e he x hx => ?_, by rw [hres, hr, List.length_append]; omega⟩
  rw [ht] at he
  rw [hr] at hx
  rcases List.mem_append.1 hx with hx | hx
  · exact h3 e he x hx
  · rw [(hn x hx).1, (hn x hx).2]
    exact fun k => hw e he ⟨k.1.symm, k.2.symm⟩

/-- The places that an entry reserved are free when it has left the table. -/
theorem reserved_filter {e : Entry} : ∀ {l : List Entry}, e ∈ l →
    ((l.filter fun x => !x.holds e.client e.tag).map Entry.places).sum + e.places ≤ (l.map Entry.places).sum
  | a :: l, he => by
    rcases List.mem_cons.1 he with rfl | he
    · have := (List.Sublist.map Entry.places (List.filter_sublist (l := l) (p := fun x => !x.holds e.client e.tag))).sum_le_sum (by simp)
      rw [List.filter_cons_of_neg (by simp [Entry.holds])]
      simp only [List.map_cons, List.sum_cons]
      omega
    · have := reserved_filter he
      by_cases ha : a.holds e.client e.tag = true
      · rw [List.filter_cons_of_neg (by simp [ha])]
        simp only [List.map_cons, List.sum_cons]
        omega
      · rw [List.filter_cons_of_pos (by simpa using ha)]
        simp only [List.map_cons, List.sum_cons]
        omega

/-- An entry that leaves frees the places its replies take (R164, R166). -/
theorem tableRoom_finishEntry {n : Nat} {r : Requests} (e : Entry) (st : Status) (b : ReplyBody) (he : e ∈ r.table)
    (h : TableRoom n r) : TableRoom n (finishEntry e st b r) := by
  obtain ⟨own, new, heq, hc, hg, -, -, -, -, hnew⟩ := finishEntry_ended e st b r
  have hdrop : TableRoom (new.length + n) (dropEntry e r) := by
    obtain ⟨h1, h2, h3, h4⟩ := h.mono (r' := dropEntry e r) List.filter_sublist (.refl _)
    have hplaces : new.length = e.places := by
      rcases hnew with ⟨hd, rfl⟩ | ⟨hd, dup, -, rfl⟩
      · simp [Entry.places, hd]
      · simp [Entry.places, Nat.ne_of_gt hd]
    have hfree := reserved_filter he
    have hlen : r.replies.length + (r.table.map Entry.places).sum + n ≤ 32 := h.2.2.2
    refine ⟨h1, h2, h3, ?_⟩
    simp only [dropEntry, Requests.reserved] at *
    omega
  refine hdrop.push e.client e.tag ?_ ?_ (by rw [heq]; rfl) (by rw [heq]; rfl)
  · rcases hnew with ⟨-, rfl⟩ | ⟨-, dup, ⟨kc, kg, -⟩, rfl⟩
    · simp [hc, hg]
    · simp [hc, hg, kc, kg]
  · rw [waits_eq_false_iff]
    intro x hx
    have := (List.mem_filter.1 hx).2
    rw [← holds_iff]
    simpa using this

theorem finishEntry_table (e : Entry) (st : Status) (b : ReplyBody) (r : Requests) :
    (finishEntry e st b r).table = r.table.filter fun x => !x.holds e.client e.tag := by
  obtain ⟨own, new, heq, -⟩ := finishEntry_ended e st b r
  rw [heq]

/-- Entries of the table that end one after another keep its room (R164, R166). -/
theorem tableRoom_finishAll {n : Nat} (st : Status) (b : Entry → ReplyBody) : ∀ (es : List Entry) (r : Requests),
    (∀ e ∈ es, e ∈ r.table) → es.Pairwise (fun a b => ¬ (a.client = b.client ∧ a.tag = b.tag)) → TableRoom n r →
      TableRoom n (finishAll es st b r)
  | [], _, _, _, h => h
  | e :: es, r, hm, hd, h => by
    obtain ⟨he, hes⟩ := List.forall_mem_cons.1 hm
    obtain ⟨hfirst, hrest⟩ := List.pairwise_cons.1 hd
    refine tableRoom_finishAll st b es _ (fun x hx => ?_) hrest (tableRoom_finishEntry e st (b e) he h)
    rw [finishEntry_table, List.mem_filter]
    have := hfirst x hx
    refine ⟨hes x hx, ?_⟩
    simp only [Bool.not_eq_true', Bool.eq_false_iff, ne_eq, holds_iff]
    exact fun k => this ⟨k.1.symm, k.2.symm⟩

/-- A duplicate recorded takes at most one place more (R166). -/
theorem reserved_duplicate (k : Byte) (c : BitVec 2) (g : BitVec 4) : ∀ {l : List Entry},
    l.Pairwise (fun a b => ¬ (a.client = b.client ∧ a.tag = b.tag)) →
      ((l.map fun e => if e.holds c g then e.duplicate k else e).map Entry.places).sum ≤ (l.map Entry.places).sum + 1
  | [], _ => Nat.zero_le _
  | a :: l, h => by
    obtain ⟨ha, hl⟩ := List.pairwise_cons.1 h
    have hone : ∀ e : Entry, 1 ≤ e.places ∧ e.places ≤ 2 := fun e => by unfold Entry.places; split <;> omega
    simp only [List.map_cons, List.sum_cons]
    by_cases hh : a.holds c g = true
    · obtain ⟨rfl, rfl⟩ := (holds_iff a c g).1 hh
      have hid : (l.map fun e => if e.holds a.client a.tag then e.duplicate k else e) = l := by
        refine (List.map_congr_left fun e he => ?_).trans (List.map_id l)
        exact if_neg fun hx => ha e he (by obtain ⟨h1, h2⟩ := (holds_iff _ _ _).1 hx; exact ⟨h1.symm, h2.symm⟩)
      rw [hid, if_pos hh]
      have := hone (a.duplicate k)
      have := hone a
      omega
    · rw [if_neg hh]
      have := reserved_duplicate k c g hl
      omega

theorem duplicate_key (k : Byte) (c : BitVec 2) (g : BitVec 4) (e : Entry) :
    (if e.holds c g then e.duplicate k else e).client = e.client ∧ (if e.holds c g then e.duplicate k else e).tag = e.tag := by
  split <;> exact ⟨rfl, rfl⟩

/-- A duplicate of a waiting request takes at most one place of the reply queue (R162, R166). -/
theorem tableRoom_recordDuplicate {n : Nat} (q : Request) (s : State) (h : TableRoom (n + 1) s.req) :
    TableRoom n (recordDuplicate q s).req := by
  obtain ⟨h1, h2, h3, h4⟩ := h
  have hres := reserved_duplicate q.kind q.client q.tag h2
  refine ⟨(List.length_map _).trans_le h1, ?_, ?_, ?_⟩
  · refine List.pairwise_map.2 (h2.imp fun {a b} hab => ?_)
    rwa [(duplicate_key _ _ _ a).1, (duplicate_key _ _ _ a).2, (duplicate_key _ _ _ b).1, (duplicate_key _ _ _ b).2]
  · intro e he x hx
    obtain ⟨a, ha, rfl⟩ := List.mem_map.1 he
    rw [(duplicate_key _ _ _ a).1, (duplicate_key _ _ _ a).2]
    exact h3 a ha x hx
  · simp only [recordDuplicate, mapReq_req, Requests.reserved] at *
    omega

/-- The TAG_IN_USE replies of discarded entries take no more places than the entries had (R166, R175). -/
theorem tableRoom_discardEntries {n : Nat} {r : Requests} (h : TableRoom n r) : TableRoom n (discardEntries r) := by
  obtain ⟨dups, heq, hlen, -⟩ := discardEntries_ended r
  obtain ⟨-, -, -, h4⟩ := h
  have hsum : (r.table.filter fun e => decide (0 < e.dups)).length ≤ r.reserved := by
    refine (List.length_filter_le _ _).trans ?_
    have : ∀ x ∈ r.table.map Entry.places, 1 ≤ x := by
      simp only [List.mem_map]
      rintro _ ⟨e, -, rfl⟩
      unfold Entry.places
      split <;> omega
    simpa [Requests.reserved] using List.card_nsmul_le_sum _ 1 this
  rw [heq]
  refine ⟨Nat.zero_le _, .nil, by simp, ?_⟩
  simp only [Requests.reserved, List.length_append, List.map_nil, List.sum_nil] at *
  omega

/-- A request answered at once takes one place (R167). -/
theorem tableRoom_answer {n : Nat} (q : Request) (st : Status) (b : ReplyBody) {s : State} (h : TableRoom (n + 1) s.req)
    (hw : s.req.waits q.client q.tag = false) : TableRoom n (answer q st b s).req := by
  have heq : (answer q st b s).req.table = s.req.table ∧ (answer q st b s).req.replies =
      s.req.replies ++ [⟨q.client, q.tag, q.kind, st, b, q.taken, bodyLength s.req.serial q.kind st b, s.req.serial⟩] := by
    rw [answer_req]
    unfold countRefusal pushReply
    split <;> exact ⟨rfl, rfl⟩
  refine TableRoom.push (new := [_]) (by rwa [List.length_singleton, Nat.add_comm]) q.client q.tag ?_ hw heq.1 heq.2
  simp

/-- A request that can wait and passes the checks takes the place of its entry (R163, R164). -/
theorem tableRoom_addEntry {n : Nat} (q : Request) (w : Wait) {s : State} (h : TableRoom (n + 1) s.req)
    (hw : s.req.waits q.client q.tag = false) (hr : s.req.replied q.client q.tag = false) (hl : s.req.table.length < 16) :
    TableRoom n (addEntry q w s).req := by
  obtain ⟨h1, h2, h3, h4⟩ := h
  rw [waits_eq_false_iff] at hw
  rw [replied_eq_false_iff] at hr
  refine ⟨?_, ?_, ?_, ?_⟩
  · simp only [addEntry, mapReq_req, List.length_append, List.length_singleton]
    omega
  · refine List.pairwise_append.2 ⟨h2, List.pairwise_singleton _ _, fun a ha b hb => ?_⟩
    obtain rfl := List.mem_singleton.1 hb
    exact hw a ha
  · intro e he
    rcases List.mem_append.1 he with he | he
    · exact h3 e he
    · obtain rfl := List.mem_singleton.1 he
      exact hr
  · have : (addEntry q w s).req.reserved = s.req.reserved + 1 := by
      simp [addEntry, Requests.reserved, entryOf, Entry.places]
    rw [this]
    simp only [addEntry, mapReq_req]
    omega

end Sys2Proof.Machine
end

section
namespace Sys2Proof.Machine
open Sys2Proof

/-! ## Steps that keep the queues -/

/-- From `s` to `t` the capacities, the events, the sensor ring and the capture FIFO stay sound. -/
structure QueueSafe (s t : State) : Prop where
  bounded : QueuesBounded s → QueuesBounded t
  events : EventsDistinct s → EventsDistinct t
  samples : SamplesRise s → SamplesRise t
  capture : CaptureRises s → CaptureRises t

/-- From `s` to `t` the queues stay sound, the table keeps its room, and no client and tag is new in it. -/
structure QueueStep (s t : State) : Prop extends QueueSafe s t where
  room : ∀ n, TableRoom n s.req → TableRoom n t.req
  fresh : ∀ c g, s.req.waits c g = false → t.req.waits c g = false

/-- From `s` to `t` every invariant of the queues is kept. -/
structure QueueKept (s t : State) : Prop extends QueueSafe s t where
  table : TableSound s → TableSound t

theorem QueueSafe.trans {s t u : State} (h : QueueSafe s t) (k : QueueSafe t u) : QueueSafe s u :=
  ⟨k.bounded ∘ h.bounded, k.events ∘ h.events, k.samples ∘ h.samples, k.capture ∘ h.capture⟩

theorem QueueStep.refl (s : State) : QueueStep s s := ⟨⟨id, id, id, id⟩, fun _ => id, fun _ _ => id⟩

theorem QueueStep.trans {s t u : State} (h : QueueStep s t) (k : QueueStep t u) : QueueStep s u :=
  ⟨h.toQueueSafe.trans k.toQueueSafe, fun n => k.room n ∘ h.room n, fun c g => k.fresh c g ∘ h.fresh c g⟩

/-- A second step, after a first. -/
theorem QueueStep.after {s t u : State} (k : QueueStep t u) (h : QueueStep s t) : QueueStep s u := h.trans k

theorem QueueStep.kept {s t : State} (h : QueueStep s t) : QueueKept s t :=
  ⟨h.toQueueSafe, fun hs => (tableSound_iff t).2 (h.room 0 ((tableSound_iff s).1 hs))⟩

/-- What the invariants of the queues read of a state, but for the event queue. -/
structure QueueView where
  reports : List Report
  intake : List (List Byte)
  table : List Entry
  replies : List Reply
  ring : List Sample
  read : Option ReadInFlight
  edge : Option Tick
  now : Tick
  edgeDone : Bool
  fifo : List Stereo
  captured : List CaptureFrame
  cycles : Nat
  divider : Nat

/-- The queues that a state holds. -/
def queueView (s : State) : QueueView where
  reports := s.link.reports
  intake := s.req.intake
  table := s.req.table
  replies := s.req.replies
  ring := s.motion.ring
  read := s.motion.read
  edge := s.motion.edge
  now := s.now
  edgeDone := s.clock.edgeDone
  fifo := s.audio.fifo
  captured := s.audio.captured
  cycles := s.audio.cycles
  divider := s.audio.divider

/-- From `s` to `t` no queue changes but the event queue, in which events may have been raised. -/
structure Quiet (s t : State) : Prop where
  view : queueView t = queueView s
  events : EventsDistinct s → EventsDistinct t

theorem Quiet.trans {s t u : State} (h : Quiet s t) (k : Quiet t u) : Quiet s u :=
  ⟨k.view.trans h.view, k.events ∘ h.events⟩

theorem Quiet.after {s t u : State} (k : Quiet t u) (h : Quiet s t) : Quiet s u := h.trans k

/-- Where the event queue stays too. -/
theorem Quiet.of_eq {s t : State} (h : queueView t = queueView s) (he : t.req.events = s.req.events) : Quiet s t :=
  ⟨h, fun hs => by rw [EventsDistinct, he]; exact hs⟩

theorem Quiet.refl (s : State) : Quiet s s := .of_eq rfl rfl

/-- One of two outcomes, each of which is quiet. -/
theorem Quiet.ite {s t u : State} {c : Prop} [Decidable c] (h : Quiet s t) (k : Quiet s u) :
    Quiet s (if c then t else u) := by
  split
  · exact h
  · exact k

theorem Quiet.step {s t : State} (h : Quiet s t) : QueueStep s t := by
  obtain ⟨hv, he⟩ := h
  simp only [queueView, QueueView.mk.injEq] at hv
  obtain ⟨h1, h2, h3, h4, h5, h6, h7, h8, h9, h10, h11, h12, h13⟩ := hv
  refine ⟨⟨?_, he, ?_, ?_⟩, fun n => ?_, fun c g => ?_⟩
  · rw [QueuesBounded, QueuesBounded, h1, h2, h5, h10, h11]; exact id
  · rw [SamplesRise, SamplesRise, edgeTicks, edgeTicks, h5, h6, h7, h8, h9]; exact id
  · rw [CaptureRises, CaptureRises, h8, h11, h12, h13]; exact id
  · rw [TableRoom, TableRoom, Requests.reserved, Requests.reserved, h3, h4]; exact id
  · rw [Requests.waits, Requests.waits, h3]; exact id

/-! ## Operations that change no queue but the event queue -/

section
variable (s : State)

theorem quiet_raise (x : Source) (d : Detail) : Quiet s (raise x d s) := by
  refine ⟨rfl, fun h => ?_⟩
  rw [eventsDistinct_iff] at *
  exact raiseInto_nodup x d s.now h

theorem quiet_raiseIf (c : Bool) (x : Source) (d : Detail) : Quiet s (raiseIf c x d s) := by
  cases c
  · exact .refl s
  · exact quiet_raise s x d

/-- An event raised after a change of what no queue reads. -/
theorem Quiet.raiseIf {s t : State} (h : Quiet s t) (c : Bool) (x : Source) (d : Detail) : Quiet s (raiseIf c x d t) :=
  h.trans (quiet_raiseIf t c x d)

theorem quiet_mapPins (f : Pins → Pins) : Quiet s (s.mapPins f) := .of_eq rfl rfl
theorem quiet_mapTime (f : Timebase → Timebase) : Quiet s (s.mapTime f) := .of_eq rfl rfl
theorem quiet_mapTl (f : Timeline → Timeline) : Quiet s (s.mapTl f) := .of_eq rfl rfl
theorem quiet_mapDisp (f : Display → Display) : Quiet s (s.mapDisp f) := .of_eq rfl rfl
theorem quiet_mapEye (e : Eye) (f : EyeDisplay → EyeDisplay) : Quiet s (s.mapEye e f) := .of_eq rfl rfl
theorem quiet_mapShift (f : ShiftUnit → ShiftUnit) : Quiet s (s.mapShift f) := .of_eq rfl rfl
theorem quiet_mapCam (c : Camera) (f : Cam → Cam) : Quiet s (s.mapCam c f) := .of_eq rfl rfl
theorem quiet_mapPower (f : Power → Power) : Quiet s (s.mapPower f) := .of_eq rfl rfl
theorem quiet_mapFree (f : Nat → Nat) : Quiet s (s.mapFree f) := .of_eq rfl rfl

theorem quiet_withPending (q : List Instr) : Quiet s (s.withPending q) := .of_eq rfl rfl

/-- A change of the Link Controller that spares the report queue. -/
theorem quiet_mapLink {f : Link → Link} (h : (f s.link).reports = s.link.reports) : Quiet s (s.mapLink f) :=
  .of_eq (by simp only [queueView, mapLink_link, h]; rfl) rfl

/-- A change of the Request Controller that spares its queues and its table. -/
theorem quiet_mapReq {f : Requests → Requests} (h : ∀ r, (f r).intake = r.intake ∧ (f r).table = r.table ∧
    (f r).replies = r.replies ∧ (f r).events = r.events) : Quiet s (s.mapReq f) := by
  obtain ⟨h1, h2, h3, h4⟩ := h s.req
  exact .of_eq (by simp only [queueView, mapReq_req, h1, h2, h3]; rfl) h4

/-- A change of the Motion Hub that spares ring, read and pending edge. -/
theorem quiet_mapMotion {f : Motion → Motion} (h : (f s.motion).ring = s.motion.ring ∧
    (f s.motion).read = s.motion.read ∧ (f s.motion).edge = s.motion.edge) : Quiet s (s.mapMotion f) := by
  obtain ⟨h1, h2, h3⟩ := h
  exact .of_eq (by simp only [queueView, mapMotion_motion, h1, h2, h3]; rfl) rfl

/-- A change of the Audio Engine that spares both FIFOs and the rate follower. -/
theorem quiet_mapAudio {f : Audio → Audio} (h : (f s.audio).fifo = s.audio.fifo ∧
    (f s.audio).captured = s.audio.captured ∧ (f s.audio).cycles = s.audio.cycles ∧
    (f s.audio).divider = s.audio.divider) : Quiet s (s.mapAudio f) := by
  obtain ⟨h1, h2, h3, h4⟩ := h
  exact .of_eq (by simp only [queueView, mapAudio_audio, h1, h2, h3, h4]; rfl) rfl

theorem quiet_lights : Quiet s (lights s) := .of_eq rfl rfl

theorem quiet_blank (c : Cause) : Quiet s (blank c s) := by
  unfold blank
  split
  · exact .refl s
  · exact .after (quiet_lights _) ((quiet_mapDisp s _).raiseIf _ _ _)

theorem quiet_unblank (c : Cause) : Quiet s (unblank c s) := quiet_mapDisp s _

theorem quiet_setBlank (c : Cause) (p : Bool) : Quiet s (setBlank c p s) := by
  cases p
  · exact quiet_unblank s c
  · exact quiet_blank s c

theorem quiet_setMute (c : MuteCause) (p : Bool) : Quiet s (setMute c p s) := by
  refine quiet_mapAudio s ?_
  cases p
  · simp only [Bool.false_eq_true, if_false, muteOff_eq, unsilenced]; split <;> exact ⟨rfl, rfl, rfl, rfl⟩
  · simp only [if_true, muteOn_eq, silenced]; split <;> exact ⟨rfl, rfl, rfl, rfl⟩

theorem quiet_computePower : Quiet s (computePower s) := by
  unfold computePower
  split <;> exact .of_eq rfl rfl

theorem quiet_handGrants : Quiet s (handGrants s) :=
  .after (quiet_lights _) (.after (quiet_setMute _ _ _) (.after (quiet_mapAudio _ ⟨rfl, rfl, rfl, rfl⟩)
    (quiet_setBlank s _ _)))

theorem quiet_computeGrants : Quiet s (computeGrants s) :=
  .after (quiet_handGrants _) ((quiet_computePower s).raiseIf _ _ _)

theorem quiet_computeIf (b : Bool) : Quiet s (computeIf b s) := by
  cases b
  · exact .refl s
  · exact quiet_computeGrants s

/-! ## Timebase and phase lock -/

theorem quiet_changeSync (a : Sync) (c : SyncCause) (e : Option Int) : Quiet s (changeSync a c e s) :=
  (quiet_mapTime s _).raiseIf _ _ _

theorem quiet_changePhase (m : PhaseMode) (told : Bool) : Quiet s (changePhase m told s) :=
  (quiet_mapTl s _).raiseIf _ _ _

theorem quiet_lockUpdate (e : Int) : Quiet s (lockUpdate e s) := by
  unfold lockUpdate
  dsimp only
  split
  · split
    · exact .after (quiet_changeSync _ _ _ _) (quiet_mapTime s _)
    · exact quiet_mapTime s _
  · split
    · exact .after (quiet_changeSync _ _ _ _) (quiet_mapTime s _)
    · exact quiet_mapTime s _

theorem quiet_processMark (d : Tick) (h : HostTime) : Quiet s (processMark d h s) := by
  unfold processMark
  split
  · exact .after (quiet_changeSync _ _ _ _) (quiet_mapTime s _)
  · exact quiet_mapTime s _
  · exact .after (quiet_changeSync _ _ _ _) (quiet_mapTime s _)
  · exact .after (quiet_raise _ _ _) (quiet_mapTime s _)
  · exact .after (quiet_mapTime _ _) (.after (quiet_changeSync _ _ _ _) (quiet_mapTime s _))
  · exact .after (quiet_lockUpdate _ _) (quiet_mapTime s _)

theorem quiet_receiveMark (d : Tick) (p : List Byte) : Quiet s (receiveMark d p s) := by
  unfold receiveMark
  split
  · exact quiet_processMark s d _
  · exact .refl s

theorem quiet_loosenPhase : Quiet s (loosenPhase s) := by
  unfold loosenPhase
  split
  · exact .after (quiet_changePhase _ _ _) (quiet_mapTl s _)
  · exact .refl s

theorem quiet_becomeCoarse : Quiet s (becomeCoarse s) := .after (quiet_changeSync _ _ _ _) (quiet_mapTime s _)

theorem quiet_becomeUnsynced : Quiet s (becomeUnsynced s) :=
  .after (quiet_loosenPhase _) (.after (quiet_changeSync _ _ _ _) (quiet_mapTime s _))

theorem quiet_timebaseSessionStart : Quiet s (timebaseSessionStart s) :=
  .after (quiet_changeSync _ _ _ _) (quiet_mapTime s _)

theorem quiet_phaseSessionStart : Quiet s (phaseSessionStart s) := .after (quiet_changePhase _ _ _) (quiet_mapTl s _)

theorem quiet_lockPhase (e : Int) : Quiet s (lockPhase e s) := by
  unfold lockPhase
  dsimp only
  split
  · split
    · exact .after (quiet_changePhase _ _ _) (quiet_mapTl s _)
    · exact quiet_mapTl s _
  · split
    · exact .after (quiet_changePhase _ _ _) (quiet_mapTl s _)
    · exact quiet_mapTl s _

theorem quiet_adjustPhase : Quiet s (adjustPhase s) := by
  unfold adjustPhase
  split
  · split
    · exact .after (quiet_lockPhase _ _) (quiet_mapTl s _)
    · exact quiet_mapTl s _
  · exact quiet_mapTl s _

/-! ## Display Output and Late Shift Unit -/

theorem quiet_mapNamed (named : PerEye Bool) (f : EyeDisplay → EyeDisplay) : Quiet s (mapNamed named f s) :=
  quiet_mapDisp s _

theorem quiet_storeLate (e : Eye) (o : Option LateOutcome) : Quiet s (storeLate e o s) := by
  unfold storeLate
  split
  · exact quiet_mapEye s e _
  · exact .refl s

theorem quiet_lateShift (q : Request) : Quiet s (lateShift q s).state := by
  unfold lateShift
  split
  · exact .refl s
  · dsimp only
    split
    · exact .refl s
    · exact .after (quiet_storeLate _ _ _) (quiet_storeLate _ _ _)

theorem quiet_panelOn (q : Request) : Quiet s (panelOn q s).state := by
  unfold panelOn
  split
  · exact .refl s
  · split
    · exact .refl s
    · split
      · exact .refl s
      · split
        · exact .refl s
        · exact .after (quiet_computeGrants _) (quiet_mapNamed s _ _)

theorem quiet_displayConfig (q : Request) : Quiet s (displayConfig q s).state := by
  unfold displayConfig
  dsimp only
  split
  · exact .refl s
  · split
    · exact .refl s
    · exact .after (quiet_lights _) (.after (quiet_setBlank _ _ _) (quiet_mapDisp s _))

theorem quiet_takeHead (e : Eye) (h : Head) : Quiet s (takeHead e h s) := by
  unfold takeHead
  dsimp only
  split
  · exact .of_eq rfl rfl
  · exact .after (quiet_raise _ _ _) (.of_eq rfl rfl)

theorem quiet_receiveHead (p : List Byte) : Quiet s (receiveHead p s) := by
  unfold receiveHead
  split
  · exact quiet_takeHead s _ _
  · exact quiet_mapDisp s _

theorem quiet_receiveRow (p : List Byte) : Quiet s (receiveRow p s) := by
  unfold receiveRow takeRow
  split
  · split <;> exact .of_eq rfl rfl
  · exact quiet_mapDisp s _

theorem quiet_stall (e : Eye) : Quiet s (stall e s) := .after (quiet_raise _ _ _) (quiet_blank s _)

theorem quiet_missFrame (e : Eye) : Quiet s (missFrame e s) := by
  have missed : Quiet s (lights ((s.mapEye e fun d => { d with bound := none, shift := .zero, missed := bump 65535 d.missed }).mapShift
      fun u => { u with record := u.record.set e .zero })) :=
    .after (quiet_lights _) (.after (quiet_mapShift _ _) (quiet_mapEye s e _))
  unfold missFrame
  dsimp only
  split
  · exact .after (quiet_stall _ e) missed
  · exact missed

theorem quiet_latchEye (e : Eye) : Quiet s (latchEye e s) := by
  unfold latchEye
  dsimp only
  split
  · exact .after (quiet_lights _) (.of_eq rfl rfl)
  · exact .after (quiet_missFrame _ e) (quiet_mapTl s _)

theorem quiet_openScan (e : Eye) : Quiet s (openScan e s) := by
  unfold openScan
  dsimp only
  split <;> exact .of_eq rfl rfl

theorem quiet_scanEye (e : Eye) : Quiet s (scanEye e s) := by
  unfold scanEye
  split
  · exact quiet_mapEye s e _
  · exact .refl s

/-! ## Power Manager -/

theorem quiet_powerContract (q : Request) : Quiet s (powerContract q s).state := by
  unfold powerContract
  dsimp only
  split
  · exact .refl s
  · exact .after (quiet_computeGrants _) (quiet_mapPower s _)

theorem quiet_derateUp : Quiet s (derateUp s) := .after (quiet_raise _ _ _) (quiet_mapPower s _)

theorem quiet_judgeAverage : Quiet s (judgeAverage s) := by
  unfold judgeAverage
  dsimp only
  split
  · exact .after (quiet_derateUp _) (quiet_mapPower s _)
  · split <;> exact .of_eq rfl rfl

theorem quiet_closeAverage : Quiet s (closeAverage s) := by
  unfold closeAverage
  split
  · exact .after (quiet_judgeAverage _) (quiet_mapPower s _)
  · exact .refl s

theorem quiet_beginBrownout : Quiet s (beginBrownout s) :=
  .after (quiet_raise _ _ _) (.after (quiet_setMute _ _ _) (.after (quiet_blank _ _) (.of_eq rfl rfl)))

theorem quiet_endBrownout : Quiet s (endBrownout s) :=
  .after (quiet_lights _) (.after (quiet_setMute _ _ _) (.after (quiet_setBlank _ _ _) (.of_eq rfl rfl)))

theorem quiet_countHigh (mv : Nat) : Quiet s (countHigh mv s) :=
  .ite (.after (quiet_endBrownout _) (quiet_mapPower s _)) (quiet_mapPower s _)

theorem quiet_countLow (mv : Nat) : Quiet s (countLow mv s) :=
  .ite (.after (quiet_beginBrownout _) (quiet_mapPower s _)) (quiet_mapPower s _)

theorem quiet_takeSample (mv ma : Nat) : Quiet s (takeSample mv ma s) := by
  unfold takeSample
  dsimp only
  split
  · exact .after (quiet_countHigh _ mv) (.of_eq rfl rfl)
  · exact .after (quiet_countLow _ mv) (.of_eq rfl rfl)

theorem quiet_wakePart (cause : SleepCause) : Quiet s (wakePart cause s) :=
  .after (quiet_computeIf _ _) (.after (quiet_raise _ _ _) (.of_eq rfl rfl))

theorem quiet_wearToPower (w : Wear) : Quiet s (wearToPower w s) := by
  cases w with
  | unknown => exact .of_eq rfl rfl
  | worn =>
    unfold wearToPower
    dsimp only
    split
    · exact quiet_wakePart s _
    · exact quiet_mapPower s _
  | removed =>
    unfold wearToPower
    dsimp only
    split
    · exact .refl s
    · exact quiet_mapPower s _

/-! ## Motion Hub -/

theorem quiet_changeWear (w : Wear) : Quiet s (changeWear w s) :=
  .after (quiet_wearToPower _ w) (.after (quiet_setBlank _ _ _) (.after (quiet_raise _ _ _) (.of_eq rfl rfl)))

theorem quiet_proximityLevel (active : Bool) : Quiet s (proximityLevel active s) := by
  have debounced : ∀ t : State, Quiet t ((t.mapMotion (Motion.debounce active)).mapClock fun c => { c with proximityDone := true }) :=
    fun t => .trans (quiet_mapMotion t (f := Motion.debounce active) (by unfold Motion.debounce; split <;> exact ⟨rfl, rfl, rfl⟩))
      (.of_eq rfl rfl)
  unfold proximityLevel
  dsimp only
  split
  · unfold sampleProximity
    dsimp only
    split
    · exact .after (quiet_changeWear _ _) (.after (debounced _) (quiet_mapPins s _))
    · exact .after (debounced _) (quiet_mapPins s _)
  · exact quiet_mapPins s _

theorem quiet_openChannel (c : Camera) : Quiet s (openChannel c s) := quiet_mapCam s c _

theorem quiet_closeExposure (c : Camera) : Quiet s (closeExposure c s) := .of_eq rfl rfl

theorem quiet_validRise (c : Camera) : Quiet s (validRise c s) := by
  unfold validRise
  split
  · split <;> exact .of_eq rfl rfl
  · exact .of_eq rfl rfl

/-! ## Audio Engine -/

theorem quiet_audioConfig (q : Request) : Quiet s (audioConfig q s).state := by
  unfold audioConfig
  split
  · exact .refl s
  · split
    · exact .refl s
    · exact .of_eq rfl rfl

theorem quiet_audioStart (q : Request) : Quiet s (audioStart q s).state := by
  unfold audioStart
  dsimp only [Done.ok]
  split
  · exact .after (quiet_computeGrants _) (.of_eq rfl rfl)
  · exact .refl s

theorem quiet_captureStart (q : Request) : Quiet s (captureStart q s).state := by
  unfold captureStart
  dsimp only [Done.ok]
  split
  · exact .refl s
  · exact quiet_mapAudio s ⟨rfl, rfl, rfl, rfl⟩

theorem quiet_stepGain : Quiet s (stepGain s) := by
  refine .trans (quiet_mapAudio s (f := Audio.stepGain) ?_) (.of_eq rfl rfl)
  unfold Audio.stepGain
  split
  · exact ⟨rfl, rfl, rfl, rfl⟩
  · split <;> exact ⟨rfl, rfl, rfl, rfl⟩

theorem quiet_faultLevel (b : Bool) : Quiet s (faultLevel b s) := by
  unfold faultLevel
  dsimp only
  split
  · exact .after (quiet_raise _ _ _) (.after (quiet_setMute _ _ _) (quiet_mapPins s _))
  · split
    · exact .after (quiet_setMute _ _ _) (quiet_mapPins s _)
    · exact quiet_mapPins s _

/-! ## Tether Link and requests of the device -/

theorem quiet_startSession : Quiet s (startSession s) :=
  .after (quiet_raise _ _ _) (.after (quiet_setMute _ _ _) (.after (quiet_lights _) (.after (quiet_unblank _ _)
    (.after (quiet_phaseSessionStart _) (.after (quiet_timebaseSessionStart _) (quiet_mapLink s rfl))))))

theorem quiet_resumeLink : Quiet s (resumeLink s) := .after (quiet_raise _ _ _) (quiet_mapLink s rfl)

theorem quiet_enterHold : Quiet s (enterHold s) := .after (quiet_raise _ _ _) (quiet_mapLink s rfl)

theorem quiet_endWindow : Quiet s (endWindow s) := (quiet_mapLink s rfl).raiseIf _ _ _

theorem quiet_startSuperframe : Quiet s (startSuperframe s) := by
  unfold startSuperframe
  dsimp only
  split
  · exact .after (quiet_endWindow _) (.of_eq rfl rfl)
  · exact .of_eq rfl rfl

theorem quiet_linkSlots (q : Request) : Quiet s (linkSlots q s).state := by
  unfold linkSlots
  split
  · exact .refl s
  · dsimp only
    split
    · exact .of_eq rfl rfl
    · exact .refl s

theorem quiet_grantSet (q : Request) : Quiet s (grantSet q s).state := by
  unfold grantSet
  dsimp only
  split
  · exact .refl s
  · split
    · exact .refl s
    · exact .of_eq rfl rfl

theorem quiet_recordFault (q : Request) (g : Group) : Quiet s (recordFault q g s) := by
  unfold recordFault
  split
  · exact .after (quiet_raise _ _ _) (.of_eq rfl rfl)
  · exact .of_eq rfl rfl

end

end Sys2Proof.Machine
end

section
namespace Sys2Proof.Machine
open Sys2Proof

/-- A quiet change after a step. -/
theorem QueueStep.via {s t u : State} (k : Quiet t u) (h : QueueStep s t) : QueueStep s u := h.trans k.step

/-- Where no queue changes. -/
theorem QueueStep.of_eq {s t : State} (h : queueView t = queueView s) (he : t.req.events = s.req.events) :
    QueueStep s t := (Quiet.of_eq h he).step

/-- One of two outcomes, each of which keeps the queues. -/
theorem QueueStep.ite {s t u : State} {c : Prop} [Decidable c] (h : QueueStep s t) (k : QueueStep s u) :
    QueueStep s (if c then t else u) := by
  split
  · exact h
  · exact k

/-! ## Updates of one queue -/

section
variable (s : State)

/-- A change of the Link Controller that keeps the report queue within its capacity (R156). -/
theorem queueStep_mapLink {f : Link → Link} (h : s.link.reports.length ≤ 32 → (f s.link).reports.length ≤ 32) :
    QueueStep s (s.mapLink f) :=
  ⟨⟨fun ⟨h1, h2⟩ => ⟨h h1, h2⟩, id, id, id⟩, fun _ => id, fun _ _ => id⟩

/-- A change of the Request Controller: what it must keep of intake, events and table. -/
theorem queueStep_mapReq {f : Requests → Requests} (hi : s.req.intake.length ≤ 2 → (f s.req).intake.length ≤ 2)
    (he : (f s.req).events.Sublist s.req.events) (hr : ∀ n, TableRoom n s.req → TableRoom n (f s.req))
    (hf : (f s.req).table.Sublist s.req.table) : QueueStep s (s.mapReq f) := by
  refine ⟨⟨fun ⟨h1, h2, h3⟩ => ⟨h1, hi h2, h3⟩, fun h => h.sublist he, id, id⟩, hr, fun c g h => ?_⟩
  rw [waits_eq_false_iff] at *
  exact fun e hm => h e (hf.subset hm)

/-- The edges of one state, some of them gone, with a pending edge only behind a read (R70, R74). -/
theorem samplesRise_of_sublist {s t : State} (h : SamplesRise s) (hn : t.now = s.now)
    (hd : t.clock.edgeDone = s.clock.edgeDone) (he : (edgeTicks t.motion).Sublist (edgeTicks s.motion))
    (hp : t.motion.read = none → t.motion.edge = none) : SamplesRise t := by
  obtain ⟨h1, h2, -⟩ := h
  exact ⟨hn ▸ h1.sublist he, fun hm => hd ▸ h2 (he.subset (hn ▸ hm)), hp⟩

/-- A change of the Motion Hub that may drop edges (R70, R74). -/
theorem queueStep_mapMotion {f : Motion → Motion} (hl : s.motion.ring.length ≤ 64 → (f s.motion).ring.length ≤ 64)
    (he : (edgeTicks (f s.motion)).Sublist (edgeTicks s.motion))
    (hp : (s.motion.read = none → s.motion.edge = none) → (f s.motion).read = none → (f s.motion).edge = none) :
    QueueStep s (s.mapMotion f) :=
  ⟨⟨fun ⟨h1, h2, h3, h4⟩ => ⟨h1, h2, hl h3, h4⟩, id, fun h => samplesRise_of_sublist h rfl rfl he (hp h.2.2), id⟩,
    fun _ => id, fun _ _ => id⟩

/-- A change of the Audio Engine: what it must keep of the FIFOs and of the capture frames' ticks. -/
theorem queueStep_mapAudio {f : Audio → Audio} (hf : s.audio.fifo.length ≤ 256 → (f s.audio).fifo.length ≤ 256)
    (hc : s.audio.captured.length ≤ 128 → (f s.audio).captured.length ≤ 128)
    (hr : CaptureRises s → CaptureRises (s.mapAudio f)) : QueueStep s (s.mapAudio f) :=
  ⟨⟨fun ⟨h1, h2, h3, h4, h5⟩ => ⟨h1, h2, h3, hf h4, hc h5⟩, id, id, hr⟩, fun _ => id, fun _ _ => id⟩

/-- Capture frames of one state, some of them gone, with the frame to run and the divider as they were. -/
theorem captureRises_of_sublist {s t : State} (h : CaptureRises s) (hn : t.now = s.now)
    (hs : t.audio.captured.Sublist s.audio.captured) (hc : t.audio.cycles = s.audio.cycles)
    (hd : 65516339 ≤ t.audio.divider) : CaptureRises t := by
  obtain ⟨h1, h2, -⟩ := h
  have ticks := hs.map CaptureFrame.tick
  exact ⟨hn ▸ h1.sublist ticks, fun hm => hc ▸ h2 (ticks.subset (hn ▸ hm)), hd⟩

/-- A change of the Audio Engine that may drop capture frames. -/
theorem queueStep_mapAudio_sublist {f : Audio → Audio} (hf : s.audio.fifo.length ≤ 256 → (f s.audio).fifo.length ≤ 256)
    (hs : (f s.audio).captured.Sublist s.audio.captured) (hc : (f s.audio).cycles = s.audio.cycles)
    (hd : 65516339 ≤ s.audio.divider → 65516339 ≤ (f s.audio).divider) : QueueStep s (s.mapAudio f) :=
  queueStep_mapAudio s hf hs.length_le.trans fun h => captureRises_of_sublist h rfl hs hc (hd h.2.2)

/-! ## The report queue (R156) -/

theorem offer_length (r : Report) {l : Link} (h : l.reports.length ≤ 32) : (l.offer r).reports.length ≤ 32 := by
  unfold Link.offer
  split
  · rw [List.length_append, List.length_singleton]; omega
  · cases r <;> exact h

theorem queueStep_offer (r : Report) : QueueStep s (offer r s) := .ite (queueStep_mapLink s (offer_length r)) (.refl s)

/-! ## Waiting requests that end (R164) -/

theorem queueStep_finishWaiting (p : Wait → Bool) (st : Status) (b : Entry → ReplyBody) :
    QueueStep s (finishWaiting p st b s) := by
  obtain ⟨table, new, h, -, ht, -⟩ := finishAll_ended st b (s.req.table.filter fun e => p e.wait) s.req
  refine queueStep_mapReq s (fun hi => ?_) ?_ (fun n hn => ?_) ?_
  · rwa [h]
  · rw [h]
  · exact tableRoom_finishAll st b _ _ (fun e he => (List.mem_filter.1 he).1) (hn.2.1.sublist List.filter_sublist) hn
  · rw [h]; exact ht

theorem queueStep_switchBank (b : Bool) : QueueStep s (switchBank b s) := by
  unfold switchBank
  split
  · exact .after (queueStep_finishWaiting _ _ _ _) (quiet_mapTl s _).step
  · exact .refl s

/-! ## Display Output and Power Manager -/

theorem queueStep_panelOff (q : Request) : QueueStep s (panelOff q s).state := by
  unfold panelOff
  split
  · exact .refl s
  · exact .after (queueStep_finishWaiting _ _ _ _) (.via (quiet_computeIf _ _) (.of_eq rfl rfl))

theorem queueStep_wakeExpiry (e : Eye) : QueueStep s (wakeExpiry e s) :=
  .after (queueStep_finishWaiting _ _ _ _) (.of_eq rfl rfl)

theorem queueStep_goToSleep : QueueStep s (goToSleep s) :=
  .via (quiet_computeIf _ _) (.via (quiet_raise _ _ _) (.via (quiet_lights _)
    (.after (queueStep_finishWaiting _ _ _ _) (.of_eq rfl rfl))))

theorem queueStep_powerPolicy (q : Request) : QueueStep s (powerPolicy q s).state := by
  have policy : ∀ t : State, QueueStep t (applyPolicy t) := fun t =>
    .ite (.ite (quiet_wakePart t _).step (.refl t)) (.ite (queueStep_goToSleep t) (.refl t))
  unfold powerPolicy
  dsimp only
  split
  · exact .refl s
  · exact .after (policy _) (quiet_mapPower s _).step

/-! ## The sensor ring and the reads (R70 to R74) -/

theorem queueStep_motionRestart (c : MotionConfig) : QueueStep s (s.mapMotion (Motion.restart c)) :=
  queueStep_mapMotion s (fun _ => Nat.zero_le _) (List.nil_sublist _) fun _ _ => rfl

theorem queueStep_motionConfig (q : Request) : QueueStep s (motionConfig q s).state := by
  unfold motionConfig
  dsimp only
  split
  · exact .refl s
  · split
    · exact .refl s
    · exact .via (quiet_computeIf _ _) (queueStep_motionRestart s _)

theorem queueStep_startExpiry : QueueStep s (startExpiry s) :=
  .after (queueStep_finishWaiting _ _ _ _) (quiet_mapMotion s ⟨rfl, rfl, rfl⟩).step

/-- A data-ready edge marks its tick, so that a second at the same tick is none (R70; log 41). -/
theorem queueStep_dataReady : QueueStep s (dataReady s) := by
  refine .ite ?_ (.refl s)
  by_cases hd : s.clock.edgeDone = true
  · rw [captureEdge_again hd]
    exact .refl s
  · rw [captureEdge_first (by simpa using hd)]
    have late : SamplesRise s → s.now ∉ edgeTicks s.motion := fun h hm => hd (h.2.1 hm)
    have newest : ∀ m : Motion, edgeTicks m = edgeTicks s.motion ++ [s.now] → (m.read = none → m.edge = none) →
        SamplesRise s → SamplesRise { s with motion := m, clock := { s.clock with edgeDone := true } } :=
      fun m hm hp h => ⟨by rw [hm]; exact h.1.snoc_now (late h), fun _ => rfl, hp⟩
    unfold handleEdge
    dsimp only [mapClock_motion]
    split
    next hr =>
      refine ⟨⟨id, id, fun h => ?_, id⟩, fun _ => id, fun _ _ => id⟩
      refine newest { s.motion with read := some ⟨s.now, s.now⟩ } ?_ (fun hn => by cases hn) h
      simp [edgeTicks, hr, h.2.2 hr]
    next r hr he =>
      refine ⟨⟨id, id, newest { s.motion with edge := some s.now } ?_ ?_, id⟩, fun _ => id, fun _ _ => id⟩
      · simp [edgeTicks, hr, he]
      · simp [hr]
    next => exact ⟨⟨id, id, fun h => ⟨h.1, fun _ => rfl, h.2.2⟩, id⟩, fun _ => id, fun _ _ => id⟩

/-- With no read in flight a RUNNING port reads the pending edge, if there is one (R72). -/
theorem nextRead_eq {s : State} (hp : s.motion.port = .running) (hr : s.motion.read = none) : nextRead s =
    s.mapMotion fun m => { m with read := m.edge.map fun t => ⟨t, s.now⟩, edge := none } := by
  unfold nextRead
  split
  next t ht => rw [if_pos hp]; simp only [beginRead, State.mapMotion, ht]; rfl
  next hn => simp only [State.mapMotion, hn, ← hr, Option.map_none]; rw [← hn]

theorem queueStep_failPort : QueueStep s (failPort s) :=
  .via (quiet_computeGrants _) (queueStep_mapMotion s id (by simp [edgeTicks]) fun _ _ => rfl)

theorem queueStep_failRead (cause : ReadCause) (hp : s.motion.port = .running) : QueueStep s (failRead cause s) := by
  unfold failRead
  dsimp only
  split
  · refine .via (quiet_computeGrants _) (.via (quiet_raise (s.mapMotion fun m => { m with
      read := none, readFailures := m.readFailures + 1, failures := bump 8 m.failures, port := .failed, edge := none }) _ _)
      (queueStep_mapMotion s id ?_ fun _ _ => rfl))
    simp [edgeTicks]
  · rw [nextRead_eq (by exact hp) rfl]
    refine .via (quiet_raise (s.mapMotion fun m => { m with
      readFailures := m.readFailures + 1, failures := bump 8 m.failures, read := m.edge.map fun t => ⟨t, s.now⟩
      edge := none }) _ _) (queueStep_mapMotion s id ?_ fun _ _ => rfl)
    cases he : s.motion.edge <;> simp [edgeTicks, he]

theorem sensorIsDue_changes : ∃ link decimation missed,
    sensorIsDue s = { s with link := link, motion := { s.motion with decimation := decimation, missed := missed } } ∧
    (s.link.reports.length ≤ 32 → link.reports.length ≤ 32) := by
  unfold sensorIsDue
  dsimp only
  split
  · split
    · rename_i x _ h
      have hs : s.session = true := (Bool.and_eq_true_iff.1 h).2
      refine ⟨s.link.offer (.sensor ⟨x, s.motion.missed⟩), 0, 0, ?_, offer_length _⟩
      unfold offer
      rw [if_pos (by exact hs)]
      rfl
    · exact ⟨s.link, 0, s.motion.missed, rfl, id⟩
  · exact ⟨s.link, 0, s.motion.missed, rfl, id⟩

theorem queueStep_sensorIsDue : QueueStep s (sensorIsDue s) := by
  obtain ⟨link, decimation, missed, h, hl⟩ := sensorIsDue_changes s
  rw [h]
  exact ⟨⟨fun ⟨h1, h2⟩ => ⟨hl h1, h2⟩, id, id, id⟩, fun _ => id, fun _ _ => id⟩

theorem storeSample_changes (x : Sample) : ∃ link decimation missed,
    storeSample x s = { s with
      link := link
      motion := { s.motion with
        ring := pushRing x s.motion.ring, stored := s.motion.stored + 1, decimation := decimation, missed := missed } } ∧
    (s.link.reports.length ≤ 32 → link.reports.length ≤ 32) := by
  unfold storeSample
  dsimp only
  split
  · exact sensorIsDue_changes (s.mapMotion fun m =>
      { m with ring := pushRing x m.ring, stored := m.stored + 1, decimation := m.decimation + 1 })
  · exact ⟨s.link, s.motion.decimation + 1, s.motion.missed, rfl, id⟩

theorem pushRing_length (x : Sample) {ring : List Sample} (h : ring.length ≤ 64) : (pushRing x ring).length ≤ 64 := by
  unfold pushRing
  split <;> simp only [List.length_append, List.length_drop, List.length_singleton] <;> omega

/-- The ring's ticks after a sample: those before it, perhaps but for the oldest, and the sample's (R74). -/
theorem pushRing_ticks (x : Sample) (ring : List Sample) : ((pushRing x ring).map Sample.tick).Sublist
    (ring.map Sample.tick ++ [x.tick]) := by
  unfold pushRing
  rw [List.map_append]
  refine List.Sublist.append (List.Sublist.map _ ?_) (.refl _)
  split
  · exact .refl _
  · exact List.drop_sublist _ _

theorem queueStep_succeedRead (r : ReadInFlight) (values : List (BitVec 16)) (hp : s.motion.port = .running)
    (hr : s.motion.read = some r) : QueueStep s (succeedRead r values s) := by
  obtain ⟨link, decimation, missed, h, hl⟩ := storeSample_changes
    (s.mapMotion fun m => { m with read := none, failures := 0 }) (convert s.motion.config r.edge values)
  have hpush := pushRing_ticks (convert s.motion.config r.edge values) s.motion.ring
  unfold succeedRead
  dsimp only [mapMotion_motion]
  rw [h, nextRead_eq (by exact hp) rfl]
  refine .after (queueStep_mapMotion _ (f := fun m => { m with
    read := m.edge.map fun t => ⟨t, s.now⟩, edge := none, failures := 0, stored := m.stored + 1, decimation := decimation
    missed := missed, ring := pushRing (convert s.motion.config r.edge values) m.ring }) (pushRing_length _) ?_
    fun _ _ => rfl) (queueStep_mapLink s (f := fun _ => link) hl)
  have := hpush.append (.refl s.motion.edge.toList)
  cases he : s.motion.edge <;> simpa [edgeTicks, hr, he, convert] using this

theorem queueStep_readAnswer (began : Tick) (a : ImuAnswer) (hp : s.motion.port = .running) :
    QueueStep s (readAnswer began a s) := by
  unfold readAnswer
  split
  next r hr => exact .ite (.ite (queueStep_succeedRead s r _ hp hr) (queueStep_failRead s _ hp)) (.refl s)
  next => exact .refl s

/-! ## Cameras (R78 to R83) -/

theorem queueStep_makeRecord (c : Camera) (x : Exposure) (a b d : Bool) : QueueStep s (makeRecord c x a b d s) :=
  queueStep_offer s _

theorem queueStep_closeByDeadline (c : Camera) : QueueStep s (closeByDeadline c s) := by
  unfold closeByDeadline
  split
  · refine .via (quiet_mapCam _ _ _) ?_
    split
    · exact .via (quiet_raise _ _ _) (queueStep_makeRecord s _ _ _ _ _)
    · exact queueStep_makeRecord s _ _ _ _ _
    · exact .refl s
  · exact (quiet_mapCam s _ _).step

theorem queueStep_recordEarly (c : Camera) : QueueStep s (recordEarly c s) := by
  unfold recordEarly
  split
  · exact .ite (queueStep_makeRecord s _ _ _ _ _) (.refl s)
  · exact .refl s

theorem queueStep_closeEarly (c : Camera) (x : Channel) : QueueStep s (closeEarly c x s) := by
  unfold closeEarly
  split
  · exact .via (quiet_mapCam _ _ _) (queueStep_recordEarly s c)
  · exact .via (quiet_mapCam _ _ _) (queueStep_recordEarly s c)
  · exact (quiet_mapCam s _ _).step
  · exact .refl s

theorem queueStep_stopExposures : QueueStep s (stopExposures s) :=
  .after (queueStep_closeEarly _ _ _) (.after (queueStep_closeEarly _ _ _) (.after (queueStep_closeEarly _ _ _)
    (queueStep_closeEarly s _ _)))

theorem queueStep_openExposure (c : Camera) : QueueStep s (openExposure c s) := by
  unfold openExposure
  dsimp only
  refine .via (quiet_lights _) ?_
  split
  · exact .of_eq rfl rfl
  · exact .via (quiet_openChannel _ c) (.after (queueStep_closeByDeadline _ c) (quiet_mapTl s _).step)
  · exact (quiet_mapTl s _).step
  · exact (quiet_mapTl s _).step

theorem queueStep_validFall (c : Camera) : QueueStep s (validFall c s) := by
  unfold validFall
  split
  · exact .ite (.via (quiet_mapCam _ _ _) (queueStep_makeRecord s _ _ _ _ _)) (.of_eq rfl rfl)
  · exact .of_eq rfl rfl

theorem queueStep_enableCamera (c : Camera) (on : Bool) : QueueStep s (enableCamera c on s) :=
  .ite (.refl s) (.via (quiet_computeGrants _) (.via (quiet_lights _)
    (.ite (quiet_mapCam s _ _).step (queueStep_closeEarly s c _))))

theorem queueStep_cameraConfig (q : Request) : QueueStep s (cameraConfig q s).state := by
  unfold cameraConfig
  dsimp only
  split
  · exact .refl s
  · exact .after (queueStep_enableCamera _ _ _) (quiet_mapCam s _ _).step

/-! ## Frame Timeline -/

theorem queueStep_recordDue : QueueStep s (recordDue s) := by
  unfold recordDue
  dsimp only
  split
  · exact .after (queueStep_offer _ _) (quiet_mapTl s _).step
  · exact (quiet_mapTl s _).step

theorem queueStep_countFrame : QueueStep s (countFrame s) :=
  .ite (.after (queueStep_recordDue _) (quiet_mapTl s _).step) (.of_eq rfl rfl)

theorem quiet_beginFrame : Quiet s (beginFrame s) := .of_eq rfl rfl

theorem quiet_handOver (cut : Bool) : Quiet s (handOver cut s) := .of_eq rfl rfl

theorem queueStep_startFrame : QueueStep s (startFrame s) :=
  .via (quiet_computeGrants _) (.via (quiet_closeAverage _) (.after (queueStep_countFrame _) (.via (quiet_mapTl _ _)
    (.via (quiet_adjustPhase _) (.after (queueStep_switchBank _ _)
      ((quiet_handOver s false).trans (quiet_beginFrame _)).step)))))

theorem quiet_beginRun : Quiet s (beginRun s) :=
  .after (quiet_computeGrants _) (.after (quiet_mapPower _ _) (.after (quiet_adjustPhase _) (.of_eq rfl rfl)))

theorem quiet_timelineRun (q : Request) : Quiet s (timelineRun q s).state := by
  unfold timelineRun
  split
  · exact .refl s
  · split
    · exact .refl s
    · exact quiet_beginRun s

theorem quiet_stopDisplay : Quiet s (stopDisplay s) := .of_eq rfl rfl

theorem queueStep_commitAtStop : QueueStep s (commitAtStop s) :=
  .ite (.via (quiet_computeGrants _) (queueStep_switchBank s _)) (.refl s)

theorem quiet_latchesAtStart : Quiet s (latchesAtStart s) :=
  .trans (.ite (quiet_latchEye s _) (.refl s)) (.ite (quiet_latchEye _ _) (.refl _))

theorem queueStep_stopTimeline : QueueStep s (stopTimeline s) := by
  have ended : QueueStep s (handOver (!atFrameEnd (latchesAtStart s)) (stopExposures (latchesAtStart s))) :=
    .via (quiet_handOver _ _) (.after (queueStep_stopExposures _) (quiet_latchesAtStart s).step)
  exact .after (queueStep_commitAtStop _) (.via (quiet_loosenPhase _) (.via (quiet_closeAverage _)
    (.via (quiet_lights _) (.via (quiet_stopDisplay _) (.after (queueStep_countFrame _) (.via (quiet_mapTl _ _) ended))))))

theorem quiet_timelineCommit (q : Request) : Quiet s (timelineCommit q s).state := by
  unfold timelineCommit
  dsimp only
  split
  · exact .refl s
  · split
    · exact .refl s
    · split
      · exact .of_eq rfl rfl
      · exact .after (quiet_computeGrants _) (quiet_mapTl s _)

theorem quiet_timelineSet (q : Request) : Quiet s (timelineSet q s).state := by
  unfold timelineSet
  split
  · exact .refl s
  · exact .of_eq rfl rfl

theorem quiet_frameAnchor (q : Request) : Quiet s (frameAnchor q s).state := by
  unfold frameAnchor
  split
  · exact .after (quiet_changePhase _ _ _) (quiet_mapTl s _)
  · exact .refl s

end

end Sys2Proof.Machine
end

section
namespace Sys2Proof.Machine
open Sys2Proof

/-! ## Audio Engine (R107 to R120) -/

section
variable (s : State)

theorem startPlaying_queues (a : Audio) : a.startPlaying.fifo = a.fifo ∧ a.startPlaying.captured = a.captured ∧
    a.startPlaying.cycles = a.cycles ∧ a.startPlaying.divider = a.divider := by
  unfold Audio.startPlaying
  split <;> exact ⟨rfl, rfl, rfl, rfl⟩

theorem queueStep_appendFrames (seq : BitVec 16) (frames : List Stereo) : QueueStep s (appendFrames seq frames s) := by
  unfold appendFrames
  dsimp only
  refine .via (quiet_raiseIf _ _ _ _) (.via (quiet_mapAudio _ (f := Audio.startPlaying) (startPlaying_queues _))
    (queueStep_mapAudio_sublist s (f := fun a => { a with
      fifo := a.fifo ++ frames.take (256 - s.audio.fifo.length)
      overflowed := a.overflowed + BitVec.ofNat 32 (frames.length - (256 - s.audio.fifo.length)) })
      (fun h => ?_) (.refl _) rfl id))
  simp only [List.length_append, List.length_take]
  omega

theorem queueStep_receiveBlock (p : List Byte) : QueueStep s (receiveBlock p s) := by
  unfold receiveBlock
  split
  · have checked : ∀ seq, QueueStep s (s.mapAudio (Audio.checkSequence seq)) := fun seq => .of_eq rfl rfl
    unfold takeBlock
    dsimp only
    split
    · exact .of_eq rfl rfl
    · exact .of_eq rfl rfl
    all_goals exact .after (queueStep_appendFrames _ _ _) (checked _)
  · exact .of_eq rfl rfl

/-- The playback FIFO emptied. -/
theorem queueStep_endRamp : QueueStep s (endRamp s) :=
  queueStep_mapAudio_sublist s (fun _ => Nat.zero_le _) (.refl _) rfl id

theorem rampFrame_queues (a : Audio) : a.rampFrame.fifo.Sublist a.fifo ∧ a.rampFrame.captured = a.captured ∧
    a.rampFrame.cycles = a.cycles ∧ a.rampFrame.divider = a.divider := by
  unfold Audio.rampFrame
  split
  next h => rw [h]; exact ⟨List.sublist_cons_self _ _, rfl, rfl, rfl⟩
  next => exact ⟨.refl _, rfl, rfl, rfl⟩

/-- The playback frame of a boundary takes at most one frame from the FIFO, and the rate follower and the capture FIFO
stay (R110). -/
theorem queueStep_sendFrame : QueueStep s (sendFrame s) ∧ (sendFrame s).audio.cycles = s.audio.cycles := by
  unfold sendFrame
  split
  · exact ⟨.of_eq rfl rfl, rfl⟩
  · exact ⟨.of_eq rfl rfl, rfl⟩
  · exact ⟨.of_eq rfl rfl, rfl⟩
  · split
    next x rest hx =>
      refine ⟨queueStep_mapAudio_sublist s (fun h => ?_) (.refl _) rfl id, rfl⟩
      rw [hx, List.length_cons] at h
      exact (Nat.le_succ _).trans h
    next => exact ⟨.via (quiet_raise _ _ _) (.of_eq rfl rfl), rfl⟩
  · obtain ⟨hf, hc, hy, hd⟩ := rampFrame_queues s.audio
    have ramp : QueueStep s (s.mapAudio Audio.rampFrame) :=
      queueStep_mapAudio_sublist s hf.length_le.trans (by rw [hc]) hy (hd ▸ id)
    dsimp only
    split
    · exact ⟨.after (queueStep_endRamp _) ramp, hy⟩
    · exact ⟨ramp, hy⟩

/-- What the capture frame of a boundary does: some frames of the FIFO stay, and one with the tick of now may be new
(R120). -/
theorem gatherCapture_changes (width : Nat) (slots : List (BitVec 32)) : ∃ c d kept new skip discard lost,
    gatherCapture width slots s = raiseIf c .audioEngine d (s.mapAudio fun a =>
      { a with captured := kept ++ new, skip := skip, discard := discard, captureLost := lost }) ∧
    kept.Sublist s.audio.captured ∧ (new = [] ∨ ∃ f : CaptureFrame, new = [f] ∧ f.tick = s.now) ∧
    (s.audio.captured.length ≤ 128 → (kept ++ new).length ≤ 128) := by
  unfold gatherCapture
  dsimp only
  split
  · unfold storeCapture
    split
    next h =>
      have h : s.audio.captured.length < 128 := h
      exact ⟨false, .captureDiscard 0, s.audio.captured, [captureFrame width s.audio.config s.now slots], false,
        s.audio.discard, s.audio.captureLost, rfl, .refl _, .inr ⟨_, rfl, rfl⟩, fun _ => by
          rw [List.length_append, List.length_singleton]; omega⟩
    next =>
      exact ⟨_, _, s.audio.captured.drop 1, [captureFrame width s.audio.config s.now slots], false, _, _, rfl,
        List.drop_sublist _ _, .inr ⟨_, rfl, rfl⟩, fun _ => by
          rw [List.length_append, List.length_singleton, List.length_drop]; omega⟩
  · exact ⟨false, .captureDiscard 0, s.audio.captured, [], false, s.audio.discard, s.audio.captureLost,
      by rw [List.append_nil]; rfl, .refl _, .inl rfl, by rw [List.append_nil]; exact id⟩

theorem dividerOf_ge (r fill : Int) : 65516339 ≤ dividerOf r fill := by
  have := (clampInt_bounds (show (65516339 : Int) ≤ 65555661 by decide)
    (65536000 - roundDiv (65536000 * r) 1000000000 - 4 * (fill - 96))).1
  unfold dividerOf
  omega

theorem queueStep_recomputeDivider : QueueStep s (recomputeDivider s) :=
  queueStep_mapAudio_sublist s id (.refl _) rfl fun _ => dividerOf_ge _ _

/-- The rate follower gives the frame now beginning more cycles than a tick has (R107). -/
theorem advanceDivider_changes : ∃ remainder recompute divider, advanceDivider s = s.mapAudio (fun a => { a with
      cycles := a.cycles + (a.divider + a.remainder) / 65536
      remainder := remainder, recompute := recompute, divider := divider }) ∧
    (65516339 ≤ s.audio.divider → 65516339 ≤ divider) := by
  unfold advanceDivider
  dsimp only
  split
  · exact ⟨_, 0, _, rfl, fun _ => dividerOf_ge _ _⟩
  · exact ⟨_, _, s.audio.divider, rfl, id⟩

/-- A boundary comes when less than a tick of the audio frame is still to run, so no capture frame has the tick of now
yet, and a whole frame is to run after it (R107, R120). -/
theorem queueStep_frameBoundary (slots : List (BitVec 32)) (h : s.audio.cycles < 48) :
    QueueStep s (frameBoundary slots s) := by
  obtain ⟨sent, hcycles⟩ := queueStep_sendFrame s
  refine .after ?_ sent
  rw [← hcycles] at h
  change QueueStep (sendFrame s) (advanceDivider (gatherCapture s.audio.line.width slots (sendFrame s)))
  generalize sendFrame s = x at h ⊢
  obtain ⟨c, d, kept, new, skip, discard, lost, hg, hkept, hnew, hlen⟩ := gatherCapture_changes x s.audio.line.width slots
  rw [hg]
  generalize hy : x.mapAudio (fun a =>
    { a with captured := kept ++ new, skip := skip, discard := discard, captureLost := lost }) = y
  obtain ⟨remainder, recompute, divider, ha, hdiv⟩ := advanceDivider_changes (raiseIf c .audioEngine d y)
  rw [ha]
  rw [raiseIf_audio] at hdiv
  have swap : (raiseIf c .audioEngine d y).mapAudio (fun a => { a with
      cycles := a.cycles + (a.divider + a.remainder) / 65536
      remainder := remainder, recompute := recompute, divider := divider }) =
      raiseIf c .audioEngine d (y.mapAudio fun a => { a with
        cycles := a.cycles + (a.divider + a.remainder) / 65536
        remainder := remainder, recompute := recompute, divider := divider }) := by cases c <;> rfl
  rw [swap]
  subst hy
  refine .via (quiet_raiseIf _ _ _ _) (queueStep_mapAudio x (f := fun a => { a with
    captured := kept ++ new, skip := skip, discard := discard, captureLost := lost
    cycles := a.cycles + (a.divider + a.remainder) / 65536
    remainder := remainder, recompute := recompute, divider := divider }) id hlen fun hr => ?_)
  obtain ⟨rise, full, hd⟩ := hr
  have ticks := hkept.map CaptureFrame.tick
  have late : x.now ∉ kept.map CaptureFrame.tick := fun hm => by
    have := full (ticks.subset hm)
    omega
  refine ⟨?_, fun _ => ?_, hdiv hd⟩
  · have risen := rise.sublist ticks
    rcases hnew with rfl | ⟨f, rfl, hf⟩
    · simpa using risen
    · simpa [hf] using risen.snoc_now late
  · simp only [mapAudio_audio]
    omega

theorem queueStep_captureLevel (slots : List (BitVec 32)) : QueueStep s (captureLevel slots s) := by
  unfold captureLevel
  dsimp only
  split
  next h =>
    have due := (boundaryDue_iff _).1 (Bool.and_eq_true_iff.1 h).2
    exact .after (queueStep_frameBoundary _ slots due) (quiet_mapPins s _).step
  next => exact (quiet_mapPins s _).step

theorem queueStep_audioStop (q : Request) : QueueStep s (audioStop q s).state := by
  unfold audioStop
  split
  · exact .refl s
  · exact .via (quiet_computeGrants _) (queueStep_mapAudio_sublist s
      (f := fun a => { a with playback := .stopped, fifo := [] }) (fun _ => Nat.zero_le _) (.refl _) rfl id)

theorem queueStep_captureStop (q : Request) : QueueStep s (captureStop q s).state := by
  unfold captureStop
  split
  · exact queueStep_mapAudio_sublist s (f := fun a => { a with
      capturing := false, skip := false, captured := [], discard := 0 }) id (List.nil_sublist _) rfl id
  · exact .refl s

/-! ## Tether Link (R143 to R177) -/

theorem queueStep_endSession : QueueStep s (endSession s) :=
  .via (quiet_raise _ _ _) (.via (quiet_setMute _ _ _) (.after
    (queueStep_mapAudio_sublist _ id (List.nil_sublist _) rfl id)
    (.via (quiet_blank _ _) (.via (quiet_mapTl _ _) (.after
      (queueStep_mapReq _ (fun _ => Nat.zero_le _) (.refl _)
        (fun _ h => h.mono (List.nil_sublist _) (List.nil_sublist _)) (List.nil_sublist _))
      (queueStep_mapLink s fun _ => Nat.zero_le _))))))

/-- A valid packet keeps the queues sound where its owner does. -/
theorem queueStep_completeValid {hand : State → State} (h : ∀ t, QueueStep t (hand t)) :
    QueueStep s (completeValid hand s) := by
  unfold completeValid
  dsimp only
  split
  · exact .of_eq rfl rfl
  · exact .of_eq rfl rfl
  · split
    · exact .after (h _) (.via (quiet_startSession _) (.of_eq rfl rfl))
    · exact .of_eq rfl rfl
  · exact .after (h _) (.of_eq rfl rfl)
  · exact .after (h _) (.via (quiet_resumeLink _) (.of_eq rfl rfl))

/-- A valid packet that the Link Controller has counted. -/
theorem queueStep_counted {hand : State → State} {f : Link → Link} (hf : (f s.link).reports = s.link.reports)
    (h : ∀ t, QueueStep t (hand t)) : QueueStep s (completeValid hand (s.mapLink f)) :=
  .after (queueStep_completeValid _ h) (quiet_mapLink s hf).step

theorem queueStep_admitCtrl (p : List Byte) : QueueStep s (admitCtrl p s) := by
  unfold admitCtrl
  split
  next h =>
    refine queueStep_mapReq s (fun _ => ?_) (.refl _) (fun _ => id) (.refl _)
    rw [List.length_append, List.length_singleton]
    omega
  next => exact .via (quiet_raise _ _ _) (.of_eq rfl rfl)

theorem queueStep_placeReports : ∀ (rs : List Report) (s : State), QueueStep s (placeReports rs s).2
  | [], _ => .refl _
  | _ :: rs, _ => .after (queueStep_placeReports rs _) (.of_eq rfl rfl)

theorem queueStep_fillSlot (c : SlotClass) : QueueStep s (fillSlot c s).2 := by
  unfold fillSlot
  split
  · exact queueStep_mapReq s (f := fun r => { r with replies := r.replies.drop _ }) id (.refl _)
      (fun _ h => h.mono (.refl _) (List.drop_sublist _ _)) (.refl _)
  · exact queueStep_mapReq s (f := fun r => { r with events := r.events.drop _ }) id (List.drop_sublist _ _)
      (fun _ => id) (.refl _)
  · exact .after (queueStep_placeReports _ _) (queueStep_mapLink s (List.drop_sublist _ _).length_le.trans)
  · exact .after (queueStep_mapAudio_sublist _ id (List.drop_sublist _ _) rfl id) (quiet_mapTime s _).step
  · exact .refl s
  · exact .refl s

theorem queueStep_beginSlot : QueueStep s (beginSlot s) :=
  .via (quiet_mapLink _ (f := fun l => { l with
    slots := l.slots ++ [⟨s.link.nextSlot, nextClass s.link, (fillSlot (nextClass s.link) s).1⟩]
    nextSlot := l.nextSlot + 1 }) rfl) (queueStep_fillSlot s (nextClass s.link))

/-! ## Reset and start -/

theorem rising_nil (now : Tick) : Rising [] now := (rising_iff _ _).2 ⟨.nil, fun _ h => absurd h List.not_mem_nil⟩

/-- In the part held in reset every queue is empty. -/
theorem queueStep_holdReset : QueueStep s (holdReset s) where
  bounded _ := ⟨Nat.zero_le _, Nat.zero_le _, Nat.zero_le _, Nat.zero_le _, Nat.zero_le _⟩
  events _ := .nil
  samples _ := ⟨rising_nil _, fun hm => absurd hm List.not_mem_nil, fun _ => rfl⟩
  capture _ := ⟨rising_nil _, fun hm => absurd hm List.not_mem_nil, (by decide : 65516339 ≤ 65536000)⟩
  room _ h := h.mono (List.nil_sublist _) (List.nil_sublist _)
  fresh _ _ _ := rfl

theorem queueStep_startPart : QueueStep s (startPart s) :=
  .via (quiet_computeGrants _) (.via (t := holdReset s) (.of_eq rfl rfl) (queueStep_holdReset s))

theorem queueStep_inputLevel (mv ma : Nat) : QueueStep s (inputLevel mv ma s) := by
  have level : QueueStep s (s.mapPins fun p => { p with mv := mv, ma := ma }) := (quiet_mapPins s _).step
  exact .ite (.after (queueStep_holdReset _) level) (.ite (.via (quiet_takeSample _ mv ma) level) level)

theorem queueStep_discardEntries : QueueStep s (s.mapReq discardEntries) := by
  obtain ⟨dups, h, -⟩ := discardEntries_ended s.req
  refine queueStep_mapReq s ?_ ?_ (fun _ => tableRoom_discardEntries) ?_
  · rw [h]; exact id
  · rw [h]
  · rw [h]; exact List.nil_sublist _

/-- SYSTEM_RESET at the blocks: the sensor ring, the reads and both FIFOs are empty (R87, R123). -/
theorem queueStep_resetBlocks : QueueStep s (resetBlocks s) where
  bounded := fun ⟨h1, h2, _⟩ => ⟨h1, h2, Nat.zero_le _, Nat.zero_le _, Nat.zero_le _⟩
  events := id
  samples _ := ⟨rising_nil _, fun hm => absurd hm List.not_mem_nil, fun _ => rfl⟩
  capture _ := ⟨rising_nil _, fun hm => absurd hm List.not_mem_nil, (by decide : 65516339 ≤ 65536000)⟩
  room _ := id
  fresh _ _ := id

theorem queueStep_systemReset (q : Request) : QueueStep s (systemReset q s).state :=
  .via (quiet_mapReq _ (f := fun r => { r with grants := .none, fault := none }) fun _ => ⟨rfl, rfl, rfl, rfl⟩) (.via (quiet_computeGrants _)
    (.after (queueStep_resetBlocks _) (queueStep_discardEntries s)))

end

end Sys2Proof.Machine
end

section
namespace Sys2Proof.Machine
open Sys2Proof

/-! ## The taking of a request (R162 to R167) -/

section
variable (s : State)

theorem QueueKept.of_step {s t u : State} (h : QueueStep s t) (k : QueueKept t u) : QueueKept s u :=
  ⟨h.toQueueSafe.trans k.toQueueSafe, k.table ∘ h.room 0⟩

theorem queueStep_popIntake : QueueStep s (popIntake s) :=
  queueStep_mapReq s (List.drop_sublist _ _).length_le.trans (.refl _) (fun _ => id) (.refl _)

/-- A change of the Request Controller that leaves intake and events alone. -/
theorem queueSafe_mapReq {f : Requests → Requests} (hi : (f s.req).intake = s.req.intake)
    (he : (f s.req).events = s.req.events) : QueueSafe s (s.mapReq f) :=
  ⟨fun ⟨h1, h2, h3⟩ => ⟨h1, hi ▸ h2, h3⟩, fun h => by rw [EventsDistinct, mapReq_req, he]; exact h, id, id⟩

theorem queueSafe_answer (q : Request) (st : Status) (b : ReplyBody) : QueueSafe s (answer q st b s) := by
  refine queueSafe_mapReq s ?_ ?_ <;> (unfold countRefusal pushReply; split <;> rfl)

theorem queueSafe_finishEntry (e : Entry) (st : Status) (b : ReplyBody) : QueueSafe s (s.mapReq (finishEntry e st b)) := by
  obtain ⟨own, new, h, -⟩ := finishEntry_ended e st b s.req
  refine queueSafe_mapReq s ?_ ?_ <;> rw [h]

/-- A request can be taken only with a place of the reply queue free (R162). -/
theorem tableRoom_of_takeDue (h : takeDue s = true) (hs : TableRoom 0 s.req) : TableRoom 1 s.req := by
  have free : s.req.replies.length + s.req.reserved < 32 := ((takeDue_iff s).1 h).2
  obtain ⟨h1, h2, h3, -⟩ := hs
  exact ⟨h1, h2, h3, free⟩

/-- A request that the checks of R163 do not find to be a duplicate waits in no entry. -/
theorem judge_fresh {q : Request} {row : KindRow} {r : Requests} (h : judge q row r ≠ .duplicate) :
    r.waits q.client q.tag = false := by
  by_contra hw
  exact h (if_pos (by simpa using hw))

/-- A request that can wait and passes the checks has no queued reply, and the table has room for it (R163). -/
theorem judge_pass {q : Request} {row : KindRow} {r : Requests} (h : judge q row r = .pass)
    (hc : canWait row.kind q.body = true) : r.replied q.client q.tag = false ∧ r.table.length < 16 := by
  unfold judge at h
  split at h
  · cases h
  · split at h
    · cases h
    next hr =>
      split at h
      · cases h
      · split at h
        · cases h
        · split at h
          · cases h
          next hl => exact ⟨by simpa [hc] using hr, by simpa [hc] using hl⟩

/-- An answer of a request that no entry holds takes the place that was free. -/
theorem queueKept_answer (q : Request) (st : Status) (b : ReplyBody) (hw : s.req.waits q.client q.tag = false)
    (hr : TableRoom 0 s.req → TableRoom 1 s.req) : QueueKept s (answer q st b s) :=
  ⟨queueSafe_answer s q st b, fun h => tableRoom_answer q st b (hr h) hw⟩

/-- A request found to be a duplicate. -/
theorem queueKept_recordDuplicate (q : Request) (hr : TableRoom 0 s.req → TableRoom 1 s.req) :
    QueueKept s (recordDuplicate q s) :=
  ⟨queueSafe_mapReq s rfl rfl, fun h => tableRoom_recordDuplicate q s (hr h)⟩

/-- With a place of the reply queue free the checks keep the queues sound where what follows a pass does. -/
theorem queueKept_checked (q : Request) (row : KindRow) {pass : State → State}
    (hr : TableRoom 0 s.req → TableRoom 1 s.req)
    (hp : judge q row s.req = .pass → s.req.waits q.client q.tag = false → QueueKept s (pass s)) :
    QueueKept s (checked q row pass s) := by
  unfold checked
  split
  next => exact queueKept_recordDuplicate s q hr
  next st b hj =>
    have fresh := judge_fresh (q := q) (row := row) (r := s.req) (by rw [hj]; simp)
    have fault : QueueStep s (if st = .noAccess then recordFault q row.group s else s) :=
      .ite (quiet_recordFault s q _).step (.refl s)
    exact ⟨fault.toQueueSafe.trans (queueSafe_answer _ q st b), fun h =>
      tableRoom_answer q st b (fault.room 1 (hr h)) (fault.fresh _ _ fresh)⟩
  next hj => exact hp hj (judge_fresh (by rw [hj]; simp))

/-- A request answered at once: its owner's step, and the answer in the free place (R163, R167). -/
theorem queueKept_serve {owner : Request → State → Done} (hd : takeDue s = true)
    (h : ∀ q t, QueueStep t (owner q t).state) : QueueKept s (serve owner s) := by
  unfold serve
  split
  next p row _ _ =>
    have room : TableRoom 0 (popIntake s).req → TableRoom 1 (popIntake s).req := tableRoom_of_takeDue s hd
    refine .of_step (queueStep_popIntake s) (queueKept_checked _ _ row room fun _ fresh => ?_)
    have own := h (parseRequest s.now p) (popIntake s)
    exact ⟨own.toQueueSafe.trans (queueSafe_answer _ _ _ _),
      fun hr => tableRoom_answer _ _ _ (own.room 1 (room hr)) (own.fresh _ _ fresh)⟩
  next => exact (QueueStep.refl s).kept

/-- A request that can wait: its entry takes the free place, and an answer of its owner the entry's (R163, R164). -/
theorem queueKept_serveHeld {wait : Request → Wait} {owner : Request → State → Held} (hd : takeDue s = true)
    (hc : ∀ p row, oldest s = some p → oldestRow s = some row → canWait row.kind (p.drop 4) = true)
    (h : ∀ q t, QueueStep t (owner q t).state ∧ (owner q t).state.req.table = t.req.table) :
    QueueKept s (serveHeld wait owner s) := by
  unfold serveHeld
  split
  next p row hp hrow =>
    have room : TableRoom 0 (popIntake s).req → TableRoom 1 (popIntake s).req := tableRoom_of_takeDue s hd
    refine .of_step (queueStep_popIntake s) (queueKept_checked _ _ row room fun hj fresh => ?_)
    obtain ⟨replied, short⟩ := judge_pass hj (hc p row hp hrow)
    generalize parseRequest s.now p = q at fresh replied ⊢
    obtain ⟨own, table⟩ := h q (addEntry q (wait q) (popIntake s))
    have safe : QueueSafe (popIntake s) (owner q (addEntry q (wait q) (popIntake s))).state :=
      (queueSafe_mapReq (popIntake s) rfl rfl : QueueSafe _ (addEntry q (wait q) (popIntake s))).trans own.toQueueSafe
    have held : TableSound (popIntake s) → TableRoom 0 (owner q (addEntry q (wait q) (popIntake s))).state.req :=
      fun hr => own.room 0 (tableRoom_addEntry q (wait q) (room hr) fresh replied short)
    have entry : entryOf q (wait q) ∈ (owner q (addEntry q (wait q) (popIntake s))).state.req.table := by
      rw [table]
      exact List.mem_append_right _ (List.mem_singleton_self _)
    unfold Held.reply
    split
    next st b _ =>
      exact ⟨safe.trans (queueSafe_finishEntry _ _ st b), fun hr => tableRoom_finishEntry _ st b entry (held hr)⟩
    next => exact ⟨safe, held⟩
  next => exact (QueueStep.refl s).kept

theorem queueKept_serveUnknown (hd : takeDue s = true) : QueueKept s (serveUnknown s) := by
  unfold serveUnknown
  split
  next p _ =>
    have room : TableRoom 0 (popIntake s).req → TableRoom 1 (popIntake s).req := tableRoom_of_takeDue s hd
    refine .of_step (queueStep_popIntake s) ?_
    dsimp only
    split
    next => exact queueKept_recordDuplicate _ _ room
    next hw => exact queueKept_answer _ _ _ _ (by simpa using hw) room
  next => exact (QueueStep.refl s).kept

/-! ## Every command -/

/-- An outcome whose next state keeps every invariant of the queues. -/
def QueuesKeptBy (s : State) (o : Host.Outcome State Fault Refusal) : Prop := ∀ t, o = .next t → QueueKept s t

theorem queuesKeptBy_next {t : State} (h : QueueStep s t) : QueuesKeptBy s (.next t) := fun _ ht => by cases ht; exact h.kept

theorem queuesKeptBy_act {due : Bool} {f : State → State} (h : due = true → QueueKept s (f s)) :
    QueuesKeptBy s (act due f s) := by
  intro t ht
  cases ht
  split
  next hd => exact h (Bool.and_eq_true_iff.1 hd).2
  next => exact (QueueStep.refl s).kept

theorem queuesKeptBy_step {due : Bool} {f : State → State} (h : QueueStep s (f s)) : QueuesKeptBy s (act due f s) :=
  queuesKeptBy_act s fun _ => h.kept

theorem queuesKeptBy_quiet {due : Bool} {f : State → State} (h : Quiet s (f s)) : QueuesKeptBy s (act due f s) :=
  queuesKeptBy_step s h.step

theorem takeDue_of_kindDue {k : Kind} (h : kindDue k s = true) : takeDue s = true := (Bool.and_eq_true_iff.1 h).1

theorem kind_of_kindDue {k : Kind} (h : kindDue k s = true) {row : KindRow} (hr : oldestRow s = some row) : row.kind = k := by
  have := (Bool.and_eq_true_iff.1 h).2
  simpa [hr] using this

theorem queuesKeptBy_serve {k : Kind} {owner : Request → State → Done} (h : ∀ q t, QueueStep t (owner q t).state) :
    QueuesKeptBy s (act (kindDue k s) (serve owner) s) :=
  queuesKeptBy_act s fun hd => queueKept_serve s (takeDue_of_kindDue s hd) h

/-- A request that changes no queue but by its answer. -/
theorem queuesKeptBy_serve_quiet {k : Kind} {owner : Request → State → Done} (h : ∀ q t, Quiet t (owner q t).state) :
    QueuesKeptBy s (act (kindDue k s) (serve owner) s) := queuesKeptBy_serve s fun q t => (h q t).step

/-- A request that only reads. -/
theorem queuesKeptBy_read {k : Kind} (body : State → ReplyBody) :
    QueuesKeptBy s (act (kindDue k s) (serve fun _ t => .ok t (body t)) s) := queuesKeptBy_serve_quiet s fun _ t => .refl t

theorem quiet_table {t : State} (h : Quiet s t) : t.req.table = s.req.table := congrArg QueueView.table h.view

/-- A request of a kind that can always wait. -/
theorem queuesKeptBy_serveHeld {k : Kind} {wait : Request → Wait} {owner : Request → State → Held}
    (hk : ∀ b, canWait k b = true)
    (h : ∀ q t, QueueStep t (owner q t).state ∧ (owner q t).state.req.table = t.req.table) :
    QueuesKeptBy s (act (kindDue k s) (serveHeld wait owner) s) :=
  queuesKeptBy_act s fun hd => queueKept_serveHeld s (takeDue_of_kindDue s hd)
    (fun p row _ hr => by rw [kind_of_kindDue s hd hr]; exact hk _) h

theorem motionConfig_table (q : Request) (t : State) : (motionConfig q t).state.req.table = t.req.table := by
  unfold motionConfig
  dsimp only
  split
  · rfl
  · split
    · rfl
    · exact (quiet_table _ (quiet_computeIf (t.mapMotion (Motion.restart _)) _)).trans rfl

/-- PANEL_POWER can wait with its power field on (R163). -/
theorem queuesKeptBy_panelPowerOn : QueuesKeptBy s (execPanelPowerOn s) := by
  refine queuesKeptBy_act s fun hd => ?_
  obtain ⟨hk, hon⟩ := Bool.and_eq_true_iff.1 hd
  refine queueKept_serveHeld s (takeDue_of_kindDue s hk) (fun p row hp hr => ?_) fun q t =>
    ⟨(quiet_panelOn t q).step, quiet_table _ (quiet_panelOn t q)⟩
  rw [kind_of_kindDue s hk hr]
  simpa [canWait, oldestBody, hp] using hon

/-- Every command keeps every invariant of the queues. -/
theorem queuesKeptBy_exec (i : Instr) : QueuesKeptBy s (exec i s) := by
  cases i with
  | startUp mv =>
    exact queuesKeptBy_next s (.ite (.refl s) (.ite (.after (queueStep_startPart _) (quiet_mapPins s _).step)
      (quiet_mapPins s _).step))
  | powerOnReset mv =>
    exact queuesKeptBy_next s (.ite (.after (queueStep_holdReset _) (quiet_mapPins s _).step) (.refl s))
  | frameHead p =>
    exact queuesKeptBy_step s (queueStep_counted s rfl fun t => (quiet_receiveHead t p).step)
  | row p => exact queuesKeptBy_step s (queueStep_counted s rfl fun t => (quiet_receiveRow t p).step)
  | audioBlock p => exact queuesKeptBy_step s (queueStep_counted s rfl fun t => queueStep_receiveBlock t p)
  | timeMark age p => exact queuesKeptBy_step s (queueStep_counted s rfl fun t => (quiet_receiveMark t _ p).step)
  | syncLock e => exact queuesKeptBy_quiet s (quiet_changeSync s _ _ _)
  | ctrl p => exact queuesKeptBy_step s (queueStep_counted s rfl fun t => queueStep_admitCtrl t p)
  | fill _ => exact queuesKeptBy_step s (queueStep_counted s rfl .refl)
  | unknownClassPacket => exact queuesKeptBy_step s (queueStep_counted s rfl .refl)
  | badPacket => exact queuesKeptBy_quiet s (quiet_mapLink s rfl)
  | sessionStart => exact queuesKeptBy_quiet s (quiet_startSession s)
  | silenceTimerExpiry => exact queuesKeptBy_quiet s (quiet_enterHold s)
  | holdTimerExpiry => exact queuesKeptBy_step s (queueStep_endSession s)
  | superframeStart => exact queuesKeptBy_quiet s (quiet_startSuperframe s)
  | badPacketWindowEnd => exact queuesKeptBy_quiet s (quiet_endWindow s)
  | upstreamSlot => exact queuesKeptBy_step s (queueStep_beginSlot s)
  | unknownKind =>
    exact queuesKeptBy_act s fun hd => queueKept_serveUnknown s (Bool.and_eq_true_iff.1 hd).1
  | deviceIdentify => exact queuesKeptBy_read s fun _ => _
  | deviceStatus => exact queuesKeptBy_read s fun t => .deviceStatus (deviceStatusOf t)
  | systemReset => exact queuesKeptBy_serve s fun q t => queueStep_systemReset t q
  | grantSet => exact queuesKeptBy_serve_quiet s fun q t => quiet_grantSet t q
  | faultRead => exact queuesKeptBy_read s fun t => .fault t.req.fault
  | faultClear => exact queuesKeptBy_serve_quiet s fun _ t => .of_eq rfl rfl
  | linkSlots => exact queuesKeptBy_serve_quiet s fun q t => quiet_linkSlots t q
  | linkStatus => exact queuesKeptBy_read s fun t => .linkStatus (linkStatusOf t)
  | timeStatus => exact queuesKeptBy_read s fun t => .timeStatus (timeStatusOf t)
  | timelineSet => exact queuesKeptBy_serve_quiet s fun q t => quiet_timelineSet t q
  | timelineCommit =>
    exact queuesKeptBy_serveHeld s (fun _ => rfl) fun q t =>
      ⟨(quiet_timelineCommit t q).step, quiet_table _ (quiet_timelineCommit t q)⟩
  | timelineRun => exact queuesKeptBy_serve_quiet s fun q t => quiet_timelineRun t q
  | timelineStop => exact queuesKeptBy_serve s fun _ t => .ite (queueStep_stopTimeline t) (.refl t)
  | frameAnchor => exact queuesKeptBy_serve_quiet s fun q t => quiet_frameAnchor t q
  | timelineStatus => exact queuesKeptBy_read s fun t => .timelineStatus (timelineStatusOf t)
  | displayConfig => exact queuesKeptBy_serve_quiet s fun q t => quiet_displayConfig t q
  | displayDrive => exact queuesKeptBy_serve_quiet s fun _ t => .of_eq rfl rfl
  | panelPowerOn => exact queuesKeptBy_panelPowerOn s
  | panelPowerOff =>
    exact queuesKeptBy_act s fun hd =>
      queueKept_serve s (takeDue_of_kindDue s (Bool.and_eq_true_iff.1 hd).1) fun q t => queueStep_panelOff t q
  | displayBlank => exact queuesKeptBy_serve_quiet s fun _ t => quiet_blank t _
  | displayResume => exact queuesKeptBy_serve_quiet s fun _ t => .of_eq rfl rfl
  | displayStatus => exact queuesKeptBy_read s fun t => .displayStatus (displayStatusOf t)
  | lateShift => exact queuesKeptBy_serve_quiet s fun q t => quiet_lateShift t q
  | motionConfig =>
    exact queuesKeptBy_serveHeld s (fun _ => rfl) fun q t => ⟨queueStep_motionConfig t q, motionConfig_table q t⟩
  | cameraConfig => exact queuesKeptBy_serve s fun q t => queueStep_cameraConfig t q
  | motionStatus => exact queuesKeptBy_read s fun t => .motionStatus (motionStatusOf t)
  | audioConfig => exact queuesKeptBy_serve_quiet s fun q t => quiet_audioConfig t q
  | audioStart => exact queuesKeptBy_serve_quiet s fun q t => quiet_audioStart t q
  | audioStop => exact queuesKeptBy_serve s fun q t => queueStep_audioStop t q
  | audioVolume => exact queuesKeptBy_serve_quiet s fun _ t => .of_eq rfl rfl
  | audioMuteOn =>
    exact queuesKeptBy_act s fun hd =>
      queueKept_serve s (takeDue_of_kindDue s (Bool.and_eq_true_iff.1 hd).1) fun _ t => (quiet_setMute t _ _).step
  | audioMuteOff =>
    exact queuesKeptBy_act s fun hd =>
      queueKept_serve s (takeDue_of_kindDue s (Bool.and_eq_true_iff.1 hd).1) fun _ t => (quiet_setMute t _ _).step
  | captureStart => exact queuesKeptBy_serve_quiet s fun q t => quiet_captureStart t q
  | captureStop => exact queuesKeptBy_serve s fun q t => queueStep_captureStop t q
  | audioStatus => exact queuesKeptBy_read s fun t => .audioStatus (audioStatusOf t)
  | powerContract => exact queuesKeptBy_serve_quiet s fun q t => quiet_powerContract t q
  | powerPolicy => exact queuesKeptBy_serve s fun q t => queueStep_powerPolicy t q
  | powerStatus => exact queuesKeptBy_read s fun t => .powerStatus (powerStatusOf t)
  | frameStart => exact queuesKeptBy_step s (queueStep_startFrame s)
  | phaseLocked => exact queuesKeptBy_quiet s (quiet_changePhase s _ _)
  | frameRecordDue => exact queuesKeptBy_step s (queueStep_recordDue s)
  | derateUp => exact queuesKeptBy_quiet s (quiet_derateUp s)
  | derateDown => exact queuesKeptBy_quiet s (quiet_mapPower s _)
  | latch e => exact queuesKeptBy_quiet s (quiet_latchEye s e)
  | videoStall e => exact queuesKeptBy_quiet s (quiet_stall s e)
  | scanWindowOpen e => exact queuesKeptBy_quiet s (quiet_openScan s e)
  | scanRow e => exact queuesKeptBy_quiet s (quiet_scanEye s e)
  | strobeWindowOpen e => exact queuesKeptBy_quiet s (.of_eq rfl rfl)
  | strobeWindowClose e => exact queuesKeptBy_quiet s (.of_eq rfl rfl)
  | exposureWindowOpen c => exact queuesKeptBy_step s (queueStep_openExposure s c)
  | exposureWindowClose c => exact queuesKeptBy_quiet s (quiet_closeExposure s c)
  | exposureDeadline c => exact queuesKeptBy_step s (queueStep_closeByDeadline s c)
  | frameValidRise c => exact queuesKeptBy_quiet s (quiet_validRise s c)
  | frameValidFall c => exact queuesKeptBy_step s (queueStep_validFall s c)
  | wakeTimerExpiry e => exact queuesKeptBy_step s (queueStep_wakeExpiry s e)
  | startTimerExpiry => exact queuesKeptBy_step s (queueStep_startExpiry s)
  | dataReadyEdge => exact queuesKeptBy_step s (queueStep_dataReady s)
  | imuReadAnswer began a =>
    exact queuesKeptBy_act s fun hd => (queueStep_readAnswer s began a (by simpa using hd)).kept
  | imuReadTimeout =>
    exact queuesKeptBy_act s fun hd => (queueStep_failRead s _ ((readTimeoutDue_iff s).1 hd).1).kept
  | imuPortFailed => exact queuesKeptBy_step s (queueStep_failPort s)
  | sensorDue => exact queuesKeptBy_step s (queueStep_sensorIsDue s)
  | proximitySample a => exact queuesKeptBy_next s (quiet_proximityLevel s a).step
  | wearChanged => exact queuesKeptBy_quiet s (quiet_changeWear s _)
  | sleepTimerExpiry => exact queuesKeptBy_step s (queueStep_goToSleep s)
  | holdoverCoarse => exact queuesKeptBy_quiet s (quiet_becomeCoarse s)
  | holdoverUnsynced => exact queuesKeptBy_quiet s (quiet_becomeUnsynced s)
  | audioFrameBoundary slots => exact queuesKeptBy_next s (queueStep_captureLevel s slots)
  | dividerRecompute => exact queuesKeptBy_step s (queueStep_recomputeDivider s)
  | muteRampEnd => exact queuesKeptBy_step s (queueStep_endRamp s)
  | gainStep => exact queuesKeptBy_quiet s (quiet_stepGain s)
  | codecFaultAssert => exact queuesKeptBy_next s (quiet_faultLevel s _).step
  | codecFaultDeassert => exact queuesKeptBy_next s (quiet_faultLevel s _).step
  | inputMonitorSample mv ma => exact queuesKeptBy_next s (queueStep_inputLevel s mv ma)
  | brownoutBegin => exact queuesKeptBy_quiet s (quiet_beginBrownout s)
  | brownoutEnd => exact queuesKeptBy_quiet s (quiet_endBrownout s)
  | malformedVideoPacket => exact queuesKeptBy_step s (queueStep_counted s rfl fun t => (quiet_mapDisp t _).step)

/-! ## One device tick (R25, R107) -/

theorem edgeTicks_advance (m : Motion) : edgeTicks m.advance = edgeTicks m ∧ m.advance.read = m.read ∧
    m.advance.edge = m.edge := by
  unfold Motion.advance
  split <;> exact ⟨rfl, rfl, rfl⟩

theorem queuesBounded_advance (h : QueuesBounded s) : QueuesBounded (advance s) := by
  have ring : s.motion.advance.ring = s.motion.ring := by unfold Motion.advance; split <;> rfl
  have reports : s.link.advance.reports = s.link.reports := by unfold Link.advance; split <;> rfl
  obtain ⟨h1, h2, h3, h4⟩ := h
  exact ⟨reports ▸ h1, h2, ring ▸ h3, h4⟩

/-- No edge has the tick that comes: each was at one before it (R74; log 41). -/
theorem samplesRise_advance (h : SamplesRise s) (hr : Recent (edgeTicks s.motion) s.now) : SamplesRise (advance s) := by
  obtain ⟨rise, -, pending⟩ := h
  obtain ⟨next, late⟩ := rise.next hr
  obtain ⟨ticks, read, edge⟩ := edgeTicks_advance s.motion
  have now : (advance s).now = s.now + 1 := rfl
  have motion : (advance s).motion = s.motion.advance := rfl
  rw [SamplesRise, now, motion, ticks, read, edge]
  exact ⟨next, fun hm => absurd hm late, pending⟩

theorem captureRises_advance (h : CaptureRises s) (hr : Recent (s.audio.captured.map CaptureFrame.tick) s.now) :
    CaptureRises (advance s) := by
  obtain ⟨rise, -, divider⟩ := h
  obtain ⟨next, late⟩ := rise.next hr
  exact ⟨next, fun hm => absurd hm late, divider⟩

/-- A step keeps every invariant of the queues, or it is the passing of a tick. -/
theorem queues_step {t : State} (h : step s = .next t) : QueueKept s t ∨ t = advance s := by
  unfold step at h
  split at h
  · exact .inl (.of_step (quiet_withPending s _).step (queuesKeptBy_exec _ _ t h))
  · unfold idle at h
    split at h
    · unfold runPart at h
      split at h
      · cases h; exact .inr rfl
      · exact .inl (queuesKeptBy_exec s _ t h)
      · exact .inl (.of_step (quiet_mapFree s _).step (queuesKeptBy_exec _ _ t h))
    · split at h
      · exact .inl (queuesKeptBy_exec s _ t h)
      · cases h; exact .inl (QueueStep.refl s).kept

end

/-! ## Events and reports queued (R156, R172) -/

theorem withEvent_true (src : Source) (d : Detail) (t : Tick) (r : Requests) :
    withEvent true src d t r = { r with events := raiseInto src d t r.events } := rfl

/-- A record offered at a full report queue is tallied by its kind (R156). -/
theorem offer_full (r : Report) {l : Link} (h : 32 ≤ l.reports.length) : l.offer r = { l with tallies := match r with
    | .sensor _ => { l.tallies with sensor := min 4294967295 (l.tallies.sensor + 1) }
    | .exposure _ => { l.tallies with exposure := min 4294967295 (l.tallies.exposure + 1) }
    | .frame _ => { l.tallies with frame := min 4294967295 (l.tallies.frame + 1) } } := by
  unfold Link.offer
  rw [if_neg (by omega)]
  cases r <;> simp only [bump_eq_min]

/-- Settles O58, by what every command does to the queues, and the passing of a tick apart. -/
theorem queuesKept : Obligations.QueuesKept := by
  unfold Obligations.QueuesKept
  refine ⟨fun src d t r => ⟨rfl, fun hn => ?_, fun before e after hr hb he => ?_⟩,
    fun l r => ⟨fun h => if_pos h, offer_full r⟩, fun s t h => ?_⟩
  · rw [withEvent_true, raiseInto_new t hn]
  · rw [withEvent_true, hr, raiseInto_found t after he hb, bump_eq_min]
  · rcases queues_step s h with ⟨safe, table⟩ | rfl
    · exact ⟨safe.bounded, safe.events, table, fun hs _ => safe.samples hs, fun hs _ => safe.capture hs⟩
    · exact ⟨queuesBounded_advance s, id, id, samplesRise_advance s, captureRises_advance s⟩

end Sys2Proof.Machine
end

section
/-! PROOFS. The Timebase: marks, maps and stamps. -/
namespace Sys2Proof.Machine
open Sys2Proof

/-! ## Fields of several bytes (00, Byte order) -/

theorem toNat_append_low {m n : Nat} (hi : BitVec m) (lo : BitVec n) :
    (hi ++ lo).toNat = lo.toNat + 2 ^ n * hi.toNat := by
  rw [BitVec.toNat_append, Nat.shiftLeft_eq, Nat.mul_comm, ← Nat.two_pow_add_eq_or_of_lt lo.isLt, Nat.add_comm]

/-- A field is its lower bytes and its upper ones. -/
theorem field_add (l : List Byte) : ∀ (n i m : Nat), field l i (n + m) = field l i n + 256 ^ n * field l (i + n) m
  | 0, i, m => by simp [field]
  | n + 1, i, m => by
    rw [Nat.add_right_comm, field, field, field_add l n (i + 1) m, show i + 1 + n = i + (n + 1) by omega, pow_succ]
    ring

theorem u16_toNat (l : List Byte) (i : Nat) : (u16 l i).toNat = field l i 2 := toNat_append_low _ _

theorem u32_toNat (l : List Byte) (i : Nat) : (u32 l i).toNat = field l i 4 := by
  rw [u32, toNat_append_low, u16_toNat, u16_toNat, field_add l 2 i 2]
  norm_num

theorem u64_toNat (l : List Byte) (i : Nat) : (u64 l i).toNat = field l i 8 := by
  rw [u64, toNat_append_low, u32_toNat, u32_toNat, field_add l 4 i 4]
  norm_num

/-! ## Marks handed over (R26, R149, R179) -/

theorem parseMark_eq_none_iff (p : List Byte) : parseMark p = none ↔ p.length ≠ 8 := by
  unfold parseMark
  split <;> simp_all

theorem parseMark_toNat {p : List Byte} {h : HostTime} (hm : parseMark p = some h) : h.toNat = field p 0 8 := by
  unfold parseMark at hm
  split at hm
  · cases hm; exact u64_toNat p 0
  · cases hm

/-- A payload of 8 bytes carries the host time of its bytes (R179). -/
theorem parseMark_of_field {p : List Byte} {h : HostTime} (hl : p.length = 8) (hf : h.toNat = field p 0 8) :
    parseMark p = some h := by
  rw [parseMark, if_pos hl, BitVec.eq_of_toNat_eq (hf.trans (u64_toNat p 0).symm)]

/-- In UP a mark's packet reaches the Timebase with its captured tick. -/
theorem exec_timeMark {s : State} (hp : s.powered = true) (hl : s.link.state = .up) (age : Nat) (p : List Byte) :
    exec (.timeMark age p) s = .next (receiveMark (s.capturedTick age) p { s with link := heardMark s }) :=
  act_eq hp rfl (markPacket_up age p s hl)

/-- In UP a mark is processed by the Timebase. -/
theorem exec_timeMark_some {s : State} (hp : s.powered = true) (hl : s.link.state = .up) (age : Nat) {p : List Byte}
    {h : HostTime} (hm : parseMark p = some h) :
    exec (.timeMark age p) s = .next (processMark (s.capturedTick age) h { s with link := heardMark s }) := by
  rw [exec_timeMark hp hl, receiveMark, hm]

/-- A payload that is no mark is discarded (R179). -/
theorem exec_timeMark_none {s : State} (hp : s.powered = true) (hl : s.link.state = .up) (age : Nat) {p : List Byte}
    (hm : parseMark p = none) : exec (.timeMark age p) s = .next { s with link := heardMark s } := by
  rw [exec_timeMark hp hl, receiveMark, hm]

/-! ## What a mark does, by its spacing, its rate and its error (R27 to R32) -/

section
variable {s : State} {d : Tick} {h : HostTime}

theorem processMark_first (hs : s.time.sync = .unsynced) : processMark d h s = { s with
    time := { s.time with
      sync := .coarse, dRef := d, hRef := h, dLast := d, hLast := h, lockCount := 0, accepted := s.time.accepted + 1 }
    req := withEvent true .timebase (.syncChanged .unsynced .coarse .firstMark none) s.now s.req } := by
  have judged : s.time.judge d h = .first := if_pos hs
  rw [processMark, judged]
  dsimp only
  rw [firstMark, changeSync_eq, mapTime_time, Timebase.accept, Timebase.setReference, hs]
  rfl

theorem processMark_tooClose (hs : s.time.sync ≠ .unsynced) (hd : tickDiff d s.time.dLast < 5000) :
    processMark d h s = { s with time := { s.time with tooClose := s.time.tooClose + 1 } } := by
  have judged : s.time.judge d h = .tooClose := by rw [Timebase.judge, if_neg hs, if_pos hd]
  rw [processMark, judged]
  rfl

/-- A change to COARSE, from LOCKED or from COARSE itself, is told only in the first case (R34). -/
theorem changeSync_coarse (hs : s.time.sync ≠ .unsynced) (cause : SyncCause) (error : Option Int) :
    changeSync .coarse cause error s = { s with
      time := { s.time with sync := .coarse }
      req := withEvent (s.time.sync == .locked) .timebase (.syncChanged .locked .coarse cause error) s.now s.req } := by
  rw [changeSync_eq]
  cases hc : s.time.sync with
  | unsynced => exact absurd hc hs
  | coarse => rfl
  | locked => rfl

theorem processMark_restart (hs : s.time.sync ≠ .unsynced) (hd : 1000000 < tickDiff d s.time.dLast) :
    processMark d h s = { s with
      time := { s.time with
        sync := .coarse, dRef := d, hRef := h, dLast := d, hLast := h, lockCount := 0
        accepted := s.time.accepted + 1, restarts := s.time.restarts + 1 }
      req := withEvent (s.time.sync == .locked) .timebase (.syncChanged .locked .coarse .restart none) s.now s.req } := by
  have judged : s.time.judge d h = .restart := by
    rw [Timebase.judge, if_neg hs, if_neg (by omega), if_pos hd]
  rw [processMark, judged]
  dsimp only
  rw [restartMark, changeSync_coarse (by exact hs)]
  rfl

/-- A mark 5 ms to a second after the last accepted one is judged by its rate and its error (R29, R30). -/
theorem judge_spaced (hs : s.time.sync ≠ .unsynced) (h1 : 5000 ≤ tickDiff d s.time.dLast)
    (h2 : tickDiff d s.time.dLast ≤ 1000000) {spacing gain m e : Int} (hsp : spacing = tickDiff d s.time.dLast)
    (hg : gain = hostDiff h s.time.hLast - spacing) (hm : m = Int.tdiv (gain * 1000000000) spacing)
    (he : e = hostDiff h (s.time.hostOf d)) :
    s.time.judge d h = if 200000 < m.natAbs then .rejected spacing gain else if 2000 < e.natAbs then .step m e
      else .update m e (s.time.hostOf d) := by
  subst hsp hg hm he
  rw [Timebase.judge, if_neg hs, if_neg (by omega), if_neg (by omega)]
  rfl

theorem processMark_rejected (hs : s.time.sync ≠ .unsynced) (h1 : 5000 ≤ tickDiff d s.time.dLast)
    (h2 : tickDiff d s.time.dLast ≤ 1000000) {spacing gain : Int} (hsp : spacing = tickDiff d s.time.dLast)
    (hg : gain = hostDiff h s.time.hLast - spacing) (hm : 200000 < (Int.tdiv (gain * 1000000000) spacing).natAbs) :
    processMark d h s = { s with
      time := { s.time with rejected := s.time.rejected + 1 }
      req := withEvent true .timebase (.markRejected spacing (clampInt (-2147483648) 2147483647 gain)) s.now s.req } := by
  rw [processMark, judge_spaced hs h1 h2 hsp hg rfl rfl, if_pos hm]
  rfl

theorem processMark_step (hs : s.time.sync ≠ .unsynced) (h1 : 5000 ≤ tickDiff d s.time.dLast)
    (h2 : tickDiff d s.time.dLast ≤ 1000000) {spacing gain m e : Int} (hsp : spacing = tickDiff d s.time.dLast)
    (hg : gain = hostDiff h s.time.hLast - spacing) (hm : m = Int.tdiv (gain * 1000000000) spacing)
    (he : e = hostDiff h (s.time.hostOf d)) (hr : m.natAbs ≤ 200000) (hf : 2000 < e.natAbs) :
    processMark d h s = { s with
      time := { s.time with
        sync := .coarse, dRef := d, hRef := h, rate := clampInt (-200000) 200000 (s.time.rate + Int.tdiv (m - s.time.rate) 8)
        dLast := d, hLast := h, lockCount := 0
        accepted := s.time.accepted + 1, steps := s.time.steps + 1 }
      req := withEvent (s.time.sync == .locked) .timebase (.syncChanged .locked .coarse .step (some e)) s.now s.req } := by
  rw [processMark, judge_spaced hs h1 h2 hsp hg hm he, if_neg (by omega), if_pos hf]
  dsimp only
  rw [stepMark, changeSync_coarse (by exact hs)]
  rfl

/-- The lock count after an update with prediction error `e` (R32). -/
def lockCountAfter (e : Int) (n : Nat) : Nat := if e.natAbs ≤ 50 then min 4 (n + 1) else 0

/-- The discipline state after an update with prediction error `e` that left the lock count at `count` (R32). -/
def syncAfter (e : Int) (count : Nat) (x : Sync) : Sync :=
  if x = .coarse ∧ count = 4 then .locked else if x = .locked ∧ 200 < e.natAbs then .coarse else x

/-- An update moves the lock count and the discipline state; a change of it is told (R32, R34). -/
theorem lockUpdate_eq (e : Int) (s : State) : lockUpdate e s = { s with
    time := { s.time with
      sync := syncAfter e (lockCountAfter e s.time.lockCount) s.time.sync, lockCount := lockCountAfter e s.time.lockCount }
    req := withEvent (s.time.sync != syncAfter e (lockCountAfter e s.time.lockCount) s.time.sync) .timebase
      (.syncChanged s.time.sync (syncAfter e (lockCountAfter e s.time.lockCount) s.time.sync)
        (if syncAfter e (lockCountAfter e s.time.lockCount) s.time.sync = .locked then .lock else .error) (some e))
      s.now s.req } := by
  have stays : ∀ f : Timebase → Timebase, (f s.time).sync = s.time.sync →
      ∀ x, s.time.sync = x → s.mapTime f = { s with
        time := { f s.time with sync := x }
        req := withEvent (s.time.sync != x) .timebase
          (.syncChanged s.time.sync x (if x = .locked then .lock else .error) (some e)) s.now s.req } := by
    rintro f hf x rfl
    rw [bne_self_eq_false, ← hf]
    rfl
  by_cases small : e.natAbs ≤ 50
  · have count : lockCountAfter e s.time.lockCount = bump 4 s.time.lockCount := by
      rw [lockCountAfter, if_pos small, bump_eq_min]
    rw [count]
    refine (if_pos small).trans ?_
    by_cases lock : s.time.sync = .coarse ∧ bump 4 s.time.lockCount = 4
    · have reached : lockReached (s.mapTime fun t => { t with lockCount := bump 4 t.lockCount }) = true := by
        simp [lockReached, lock.1, lock.2]
      rw [syncAfter, if_pos lock]
      exact (if_pos reached).trans (changeSync_eq _ _ _ _)
    · have short : ¬ lockReached (s.mapTime fun t => { t with lockCount := bump 4 t.lockCount }) = true := by
        intro reached
        obtain ⟨coarse, full⟩ := Bool.and_eq_true_iff.1 reached
        exact lock ⟨eq_of_beq coarse, le_antisymm bump_le (of_decide_eq_true full)⟩
      exact (if_neg short).trans (stays _ rfl _ (by rw [syncAfter, if_neg lock, if_neg (by omega)]))
  · have count : lockCountAfter e s.time.lockCount = 0 := if_neg small
    have zero : ¬ (s.time.sync = .coarse ∧ 0 = 4) := by simp
    rw [count]
    refine (if_neg small).trans ?_
    by_cases loose : s.time.sync = .locked ∧ 200 < e.natAbs
    · rw [syncAfter, if_neg zero, if_pos loose]
      exact (if_pos loose).trans (changeSync_eq _ _ _ _)
    · exact (if_neg loose).trans (stays _ rfl _ (by rw [syncAfter, if_neg zero, if_neg loose]))

theorem processMark_update (hs : s.time.sync ≠ .unsynced) (h1 : 5000 ≤ tickDiff d s.time.dLast)
    (h2 : tickDiff d s.time.dLast ≤ 1000000) {spacing gain m e : Int} (hsp : spacing = tickDiff d s.time.dLast)
    (hg : gain = hostDiff h s.time.hLast - spacing) (hm : m = Int.tdiv (gain * 1000000000) spacing)
    (he : e = hostDiff h (s.time.hostOf d)) (hr : m.natAbs ≤ 200000) (hf : e.natAbs ≤ 2000) :
    processMark d h s = lockUpdate e { s with time := { s.time with
      dRef := d, hRef := s.time.hostOf d + BitVec.ofInt 64 (roundDiv e 4)
      rate := clampInt (-200000) 200000 (s.time.rate + Int.tdiv (m - s.time.rate) 8)
      dLast := d, hLast := h, accepted := s.time.accepted + 1 } } := by
  rw [processMark, judge_spaced hs h1 h2 hsp hg hm he, if_neg (by omega), if_neg (by omega)]
  rfl

end

/-- Settles O12: a first mark by `processMark_first`, its payload by `parseMark`. -/
theorem Timebase.firstMark : Obligations.FirstMark := by
  unfold Obligations.FirstMark
  refine ⟨fun p => ⟨parseMark_eq_none_iff p, fun h => parseMark_toNat⟩, fun s age p hp hl => ⟨fun hs h hm => ?_,
    exec_timeMark_none hp hl age⟩⟩
  have first := processMark_first (s := { s with link := heardMark s }) (d := s.capturedTick age) (h := h) hs
  exact ⟨_, (exec_timeMark_some hp hl age hm).trans (congrArg Host.Outcome.next first), rfl, rfl⟩

/-- Settles O13: by the spacing and the rate of the mark. -/
theorem markSpacingAndRate : Obligations.MarkSpacingAndRate := by
  unfold Obligations.MarkSpacingAndRate
  intro s age h p hp hl hs h8 hf
  have processed := exec_timeMark_some hp hl age (parseMark_of_field h8 hf)
  refine ⟨fun close => ?_, fun far => ?_, fun h1 h2 rate => ?_⟩ <;> refine processed.trans (congrArg Host.Outcome.next ?_)
  · exact processMark_tooClose (s := { s with link := heardMark s }) hs close
  · exact processMark_restart (s := { s with link := heardMark s }) hs far
  · exact processMark_rejected (s := { s with link := heardMark s }) hs h1 h2 rfl rfl rate

/-- Settles O14: a step by `processMark_step`, an update by `lockUpdate_eq`. -/
theorem markStepsAndUpdates : Obligations.MarkStepsAndUpdates := by
  unfold Obligations.MarkStepsAndUpdates
  intro s age h p hp hl hs h8 hf d spacing m h1 h2 rate
  have processed := exec_timeMark_some hp hl age (parseMark_of_field h8 hf)
  refine ⟨fun far => ?_, fun near => ?_⟩ <;> refine processed.trans (congrArg Host.Outcome.next ?_)
  · exact processMark_step (s := { s with link := heardMark s }) hs h1 h2 rfl rfl rfl rfl rate far
  · exact (processMark_update (s := { s with link := heardMark s }) hs h1 h2 rfl rfl rfl rfl rate near).trans
      (lockUpdate_eq _ _)

end Sys2Proof.Machine
end

section
namespace Sys2Proof.Machine
open Sys2Proof

/-! ## The maps (R35, R36) -/

/-- A rounded quotient lies within a half of the exact one. -/
theorem roundDiv_near (n : Int) {d : Int} (hd : 0 < d) :
    -d ≤ 2 * (d * roundDiv n d) - 2 * n ∧ 2 * (d * roundDiv n d) - 2 * n ≤ d := by
  have near : ∀ m : Int, -d ≤ 2 * (d * ((2 * m + d) / (2 * d))) - 2 * m ∧
      2 * (d * ((2 * m + d) / (2 * d))) - 2 * m ≤ d := fun m => by
    have split := Int.mul_ediv_add_emod (2 * m + d) (2 * d)
    have low := Int.emod_nonneg (2 * m + d) (show 2 * d ≠ 0 by omega)
    have high := Int.emod_lt_of_pos (2 * m + d) (show 0 < 2 * d by omega)
    rw [mul_assoc] at split
    omega
  unfold roundDiv
  split
  · exact near n
  · have := near (-n)
    rw [mul_neg]
    omega

/-- A rate within R31's range moves a difference by at most a five-thousandth of it. -/
theorem rate_bound {r : Int} (h1 : -200000 ≤ r) (h2 : r ≤ 200000) {x m : Int} (hx : -m ≤ x ∧ x ≤ m) :
    -(200000 * m) ≤ x * r ∧ x * r ≤ 200000 * m := by
  obtain ⟨hx1, hx2⟩ := hx
  constructor <;> nlinarith

theorem toInt_ofInt_of_lt {w : Nat} {k : Int} (h1 : -2 ^ w ≤ 2 * k) (h2 : 2 * k < 2 ^ w) :
    (BitVec.ofInt w k).toInt = k := by
  rw [BitVec.toInt_ofInt]
  refine Int.bmod_eq_of_le ?_ ?_ <;> push_cast <;> omega

/-- The signed difference of two values moved from the same one. -/
theorem toInt_moved {w : Nat} (x : BitVec w) {a b : Int} (h1 : -2 ^ w ≤ 2 * (a - b)) (h2 : 2 * (a - b) < 2 ^ w) :
    ((x + BitVec.ofInt w a) - (x + BitVec.ofInt w b)).toInt = a - b := by
  rw [add_sub_add_left_eq_sub, ← toInt_ofInt_of_lt h1 h2]
  congr 1
  apply BitVec.eq_of_toInt_eq
  simp [BitVec.toInt_sub, BitVec.toInt_ofInt]

/-- What host_of adds to the reference's host time for a difference of `x` ticks (R35). -/
def mapped (r x : Int) : Int := x + roundDiv (x * r) 1000000000

theorem hostOf_eq (t : Timebase) (d : Tick) :
    t.hostOf d = t.hRef + BitVec.ofInt 64 (mapped t.rate (tickDiff d t.dRef)) := rfl

theorem devOf_eq (t : Timebase) (h : HostTime) : t.devOf h =
    t.dRef + BitVec.ofInt 48 (roundDiv (hostDiff h t.hRef * 1000000000) (1000000000 + t.rate)) := rfl

section
variable {r : Int} (h1 : -200000 ≤ r) (h2 : r ≤ 200000)
include h1 h2

/-- host_of stays near its reference (R35). -/
theorem mapped_bound {x m : Int} (hx : -m ≤ x ∧ x ≤ m) : -(2 * m + 1) ≤ mapped r x ∧ mapped r x ≤ 2 * m + 1 := by
  have product := rate_bound h1 h2 hx
  have near := roundDiv_near (x * r) (show (0 : Int) < 1000000000 by decide)
  unfold mapped
  omega

/-- A slope within 200,000 ppb of 1 never makes a rounded map fall (R35). -/
theorem mapped_mono {x y : Int} (h : x ≤ y) : mapped r x ≤ mapped r y := by
  rcases h.eq_or_lt with rfl | h
  · exact le_refl _
  · have nearX := roundDiv_near (x * r) (show (0 : Int) < 1000000000 by decide)
    have nearY := roundDiv_near (y * r) (show (0 : Int) < 1000000000 by decide)
    have product := (rate_bound h1 h2 (x := y - x) (m := y - x) (by omega)).1
    rw [sub_mul] at product
    unfold mapped
    omega

/-- dev_of's quotient misses the difference that was mapped by at most one tick (R36). -/
theorem mapped_inverse (x : Int) :
    (roundDiv (mapped r x * 1000000000) (1000000000 + r) - x).natAbs ≤ 1 := by
  have near := roundDiv_near (x * r) (show (0 : Int) < 1000000000 by decide)
  have back := roundDiv_near (mapped r x * 1000000000) (show (0 : Int) < 1000000000 + r by omega)
  generalize roundDiv (mapped r x * 1000000000) (1000000000 + r) = w at back ⊢
  unfold mapped at back
  generalize roundDiv (x * r) 1000000000 = q at near back
  have scaled : (1000000000 + r) * w - (x + q) * 1000000000 =
      (1000000000 + r) * (w - x) + (x * r - 1000000000 * q) := by ring
  have width : -(2000000000 + r) ≤ 2 * ((1000000000 + r) * (w - x)) ∧ 2 * ((1000000000 + r) * (w - x)) ≤ 2000000000 + r := by
    omega
  by_contra far
  rcases (show 2 ≤ w - x ∨ w - x ≤ -2 by omega) with k | k
  · nlinarith
  · nlinarith

end

theorem tickDiff_bound (a b : Tick) : -140737488355328 ≤ tickDiff a b ∧ tickDiff a b ≤ 140737488355328 :=
  ⟨le_trans (by norm_num) (BitVec.le_toInt (a - b)), (BitVec.toInt_lt (x := a - b)).le.trans (by norm_num)⟩

/-- host_of does not decrease (R35). -/
theorem hostOf_mono {t : Timebase} (h1 : -200000 ≤ t.rate) (h2 : t.rate ≤ 200000) {a b : Tick}
    (h : tickDiff a t.dRef ≤ tickDiff b t.dRef) : 0 ≤ hostDiff (t.hostOf b) (t.hostOf a) := by
  have boundA := mapped_bound h1 h2 (tickDiff_bound a t.dRef)
  have boundB := mapped_bound h1 h2 (tickDiff_bound b t.dRef)
  have mono := mapped_mono h1 h2 h
  rw [hostDiff, hostOf_eq, hostOf_eq, toInt_moved _ (by norm_num; omega) (by norm_num; omega)]
  omega

/-- Within 60,000,000 ticks of the reference dev_of undoes host_of but for a tick (R36). -/
theorem devOf_hostOf {t : Timebase} (h1 : -200000 ≤ t.rate) (h2 : t.rate ≤ 200000) {d : Tick}
    (h : (tickDiff d t.dRef).natAbs ≤ 60000000) : (tickDiff (t.devOf (t.hostOf d)) d).natAbs ≤ 1 := by
  have bound := mapped_bound h1 h2 (x := tickDiff d t.dRef) (m := 60000000) (by omega)
  have inverse := mapped_inverse h1 h2 (tickDiff d t.dRef)
  have host : hostDiff (t.hostOf d) t.hRef = mapped t.rate (tickDiff d t.dRef) := by
    have := toInt_moved t.hRef (a := mapped t.rate (tickDiff d t.dRef)) (b := 0) (by norm_num; omega) (by norm_num; omega)
    rw [hostDiff, hostOf_eq]
    simpa using this
  have tick : d = t.dRef + BitVec.ofInt 48 (tickDiff d t.dRef) := by
    rw [tickDiff, BitVec.ofInt_toInt, add_sub_cancel]
  rw [devOf_eq, host]
  generalize roundDiv (mapped t.rate (tickDiff d t.dRef) * 1000000000) (1000000000 + t.rate) = w at inverse ⊢
  generalize tickDiff d t.dRef = x at inverse tick
  rw [tick, tickDiff, toInt_moved _ (by norm_num; omega) (by norm_num; omega)]
  exact inverse

/-! ## Stamping (R38) -/

@[simp] theorem Reported_get_set_same (x : Reported) (k : Stamped) (h : HostTime) : (x.set k h).get k = h := by
  cases k <;> rfl

theorem Reported_get_set_other (x : Reported) {j k : Stamped} (hj : j ≠ k) (h : HostTime) :
    (x.set k h).get j = x.get j := by
  cases j <;> cases k <;> simp_all [Reported.get, Reported.set]

section
variable {t : Timebase} {k : Stamped} {d : Tick}

/-- In COARSE and LOCKED a mapped time above the last-reported one is reported as it is. -/
theorem stampOf_mapped (hs : t.sync ≠ .unsynced) (h : ((t.reported.get k).toNat : Int) < (t.hostOf d).toInt) :
    t.stampOf k d = (t.hostOf d, false) := by
  rw [Timebase.stampOf, if_neg hs]
  exact if_pos ⟨by omega, .inr h⟩

/-- A mapped time not above the last-reported one is adjusted to one more than that. -/
theorem stampOf_adjusted (hs : t.sync ≠ .unsynced) (h : (t.hostOf d).toInt ≤ ((t.reported.get k).toNat : Int)) :
    t.stampOf k d = (t.reported.get k + 1, true) := by
  rw [Timebase.stampOf, if_neg hs]
  dsimp only
  have low : ¬ (0 < (t.hostOf d).toInt ∧ (t.reported.get k = 0 ∨ ((t.reported.get k).toNat : Int) < (t.hostOf d).toInt)) := by
    rintro ⟨positive, zero | above⟩
    · rw [zero] at h
      exact absurd positive (not_lt.2 h)
    · omega
  rw [if_neg low]
  split
  next zero => rw [zero]; rfl
  next => rfl

/-- The host times of a kind rise (R38). -/
theorem stampOf_rises (hs : t.sync ≠ .unsynced) (hl : (t.reported.get k).toNat < 18446744073709551615) :
    (t.reported.get k).toNat < (t.stampOf k d).1.toNat := by
  rcases lt_or_ge ((t.reported.get k).toNat : Int) (t.hostOf d).toInt with h | h
  · rw [stampOf_mapped hs h]
    rw [BitVec.toInt_eq_toNat_cond] at h
    dsimp only
    split at h <;> omega
  · rw [stampOf_adjusted hs h]
    dsimp only
    bv_omega

theorem stamped_synced (hs : t.sync ≠ .unsynced) :
    t.stamped k d = { t with reported := t.reported.set k (t.stampOf k d).1 } := if_neg hs

end

/-- Settles O11: the maps by `mapped`, the stamps by the mapped time against the last-reported one. -/
theorem mapsAndStamps : Obligations.MapsAndStamps := by
  unfold Obligations.MapsAndStamps
  refine ⟨fun t h1 h2 => ⟨fun a b => hostOf_mono h1 h2, fun d => rfl, fun h => rfl, fun d => devOf_hostOf h1 h2⟩,
    fun t k d => ⟨fun hs => ⟨if_pos hs, if_pos hs⟩, fun hs hl => ?_⟩⟩
  refine ⟨fun plain => ?_, stampOf_mapped hs, stampOf_adjusted hs, fun low zero => ?_, stampOf_rises hs hl, ?_,
    fun j hj => ?_, ?_⟩
  · rcases lt_or_ge ((t.reported.get k).toNat : Int) (t.hostOf d).toInt with h | h
    · rw [stampOf_mapped hs h]
    · rw [stampOf_adjusted hs h] at plain
      cases plain
  · rw [stampOf_adjusted hs (low.trans (Int.natCast_nonneg _)), zero]
    rfl
  · rw [stamped_synced hs, Reported_get_set_same]
  · rw [stamped_synced hs, Reported_get_set_other _ hj]
  · rw [stamped_synced hs]

end Sys2Proof.Machine
end

section
/-! PROOFS. The bytes of downstream packets. -/
namespace Sys2Proof.Machine
open Sys2Proof

/-! ## The tick captured for a packet (R25, R26; log 46) -/

/-- An age within the counter's value lies before now without a wrap. -/
theorem capturedTick_recent {s : State} {age : Nat} (h : age ≤ s.now.toNat) :
    (s.capturedTick age).toNat = s.now.toNat - age := by
  have same : (if s.clock.wrapped then age else min age s.now.toNat) = age := by
    rw [min_eq_left h, ite_self]
  rw [State.capturedTick, same]
  bv_omega

/-- An age beyond the counter's value lies before its wrap. -/
theorem capturedTick_wrapped {s : State} {age : Nat} (ha : age < 281474976710656) (h : s.now.toNat < age)
    (hw : s.clock.wrapped = true) : (s.capturedTick age).toNat = s.now.toNat + 281474976710656 - age := by
  rw [State.capturedTick, if_pos hw]
  bv_omega

/-- Before the first wrap no packet is older than the counter. -/
theorem capturedTick_oldest {s : State} {age : Nat} (h : s.now.toNat < age) (hw : s.clock.wrapped = false) :
    s.capturedTick age = 0 := by
  rw [State.capturedTick, if_neg (by simp [hw]), min_eq_right h.le, BitVec.ofNat_toNat, BitVec.setWidth_eq, sub_self]

/-! ## Bytes and fields (00, Byte order) -/

theorem leBytes_length : ∀ n v : Nat, (leBytes n v).length = n
  | 0, _ => rfl
  | n + 1, v => by rw [leBytes, List.length_cons, leBytes_length n]

theorem byteAt_append_length (l : List Byte) (x : Byte) (r : List Byte) : byteAt (l ++ x :: r) l.length = x := by
  simp [byteAt]

/-- A value written as `n` bytes is read back, as far as `n` bytes hold it. -/
theorem field_leBytes : ∀ (n v : Nat) (l r : List Byte), field (l ++ (leBytes n v ++ r)) l.length n = v % 256 ^ n
  | 0, v, l, r => by simp [field, Nat.mod_one]
  | n + 1, v, l, r => by
    have rest := field_leBytes n (v / 256) (l ++ [BitVec.ofNat 8 v]) r
    rw [List.length_append, List.length_singleton, List.append_assoc, List.singleton_append] at rest
    rw [leBytes, List.cons_append, field, byteAt_append_length, rest, BitVec.toNat_ofNat,
      pow_succ' 256 n, Nat.mod_mul]

end Sys2Proof.Machine

namespace Sys2Proof.Packet
open Sys2Proof.Machine

/-! ## A packet judged (R149, R178, R179) -/

/-- The delimited size agrees with the header's payload length, and the last four bytes are the CRC-32 of the others. -/
def Good (b : List Byte) : Prop :=
  b.length = 8 + field b 2 2 ∧ field b (4 + field b 2 2) 4 = (crc32 (b.take (4 + field b 2 2))).toNat

theorem sizeGood_iff (b : List Byte) : sizeGood b = true ↔ b.length = 8 + field b 2 2 := by
  rw [sizeGood, u16_toNat, Bool.and_eq_true, decide_eq_true_eq, beq_iff_eq]
  omega

theorem crcGood_iff (b : List Byte) :
    crcGood b = true ↔ field b (b.length - 4) 4 = (crc32 (b.take (b.length - 4))).toNat := by
  rw [crcGood, beq_iff_eq, ← BitVec.toNat_inj, u32_toNat, covered]

theorem good_iff (b : List Byte) : (sizeGood b && crcGood b) = true ↔ Good b := by
  rw [Bool.and_eq_true, sizeGood_iff, crcGood_iff, Good]
  refine and_congr_right fun h => ?_
  rw [h, show 8 + field b 2 2 - 4 = 4 + field b 2 2 by omega]

theorem decode_bad {b : List Byte} (age : Nat) (h : ¬ Good b) : decode age b = .badPacket :=
  if_neg (mt (good_iff b).1 h)

/-- A packet of the right size and CRC-32 is its class's command. -/
theorem decode_good {b : List Byte} (age : Nat) (h : Good b) :
    decode age b = classCommand age (byteAt b 0) (byteAt b 1) ((b.drop 4).take (field b 2 2)) := by
  rw [decode, if_pos ((good_iff b).2 h), payload, h.1, Nat.add_sub_cancel_left]

/-- The command of a class outside the table (R149). -/
theorem classCommand_unknown (age : Nat) {cls : Byte} (subtype : Byte) (p : List Byte)
    (h : cls.toNat = 0 ∨ 5 < cls.toNat) : classCommand age cls subtype p = .unknownClassPacket := by
  have other : ∀ k : Byte, 1 ≤ k.toNat → k.toNat ≤ 5 → cls ≠ k := fun k h1 h5 e => by rw [e] at h; omega
  rw [classCommand, if_neg (other 1 (by decide) (by decide)), if_neg (other 2 (by decide) (by decide)),
    if_neg (other 3 (by decide) (by decide)), if_neg (other 4 (by decide) (by decide)),
    if_neg (other 5 (by decide) (by decide))]

/-- A VIDEO packet of a subtype outside the table (R179). -/
theorem videoCommand_other {subtype : Byte} (p : List Byte) (h1 : subtype.toNat ≠ 1) (h2 : subtype.toNat ≠ 2) :
    videoCommand subtype p = .malformedVideoPacket := by
  rw [videoCommand, if_neg fun e => h1 (by rw [e]; rfl), if_neg fun e => h2 (by rw [e]; rfl)]

theorem byte_of_field {b : List Byte} {i : Nat} (c : Byte) (h : field b i 1 = c.toNat) : byteAt b i = c :=
  BitVec.eq_of_toNat_eq h

/-! ## A packet made (R178) -/

section
variable (cls subtype : Byte) (p : List Byte)

/-- What the CRC-32 of a packet around a payload covers. -/
def checkedBytes : List Byte := [cls, subtype] ++ leBytes 2 p.length ++ p

theorem frame_eq : frame cls subtype p = checkedBytes cls subtype p ++ leBytes 4 (crc32 (checkedBytes cls subtype p)).toNat := rfl

theorem checkedBytes_length : (checkedBytes cls subtype p).length = 4 + p.length := by
  simp [checkedBytes, leBytes_length]
  omega

theorem frame_length : (frame cls subtype p).length = 8 + p.length := by
  rw [frame_eq, List.length_append, checkedBytes_length, leBytes_length]
  omega

theorem frame_take : (frame cls subtype p).take (4 + p.length) = checkedBytes cls subtype p := by
  rw [frame_eq, ← checkedBytes_length cls subtype p, List.take_left]

theorem frame_payload : ((frame cls subtype p).drop 4).take p.length = p := by
  have : frame cls subtype p = ([cls, subtype] ++ leBytes 2 p.length) ++ (p ++ leBytes 4 (crc32 (checkedBytes cls subtype p)).toNat) := by
    rw [frame_eq, checkedBytes, List.append_assoc]
  rw [this]
  exact List.take_left

/-- A value of 32 bits after some bytes is read back. -/
theorem field_word (l : List Byte) (v : BitVec 32) : field (l ++ leBytes 4 v.toNat) l.length 4 = v.toNat := by
  have := field_leBytes 4 v.toNat l []
  rw [List.append_nil] at this
  rw [this]
  exact Nat.mod_eq_of_lt v.isLt

theorem frame_crc : field (frame cls subtype p) (4 + p.length) 4 = (crc32 ((frame cls subtype p).take (4 + p.length))).toNat := by
  rw [frame_take, ← checkedBytes_length cls subtype p, frame_eq, field_word]

theorem frame_size (h : p.length ≤ 65535) : field (frame cls subtype p) 2 2 = p.length := by
  have := field_leBytes 2 p.length [cls, subtype] (p ++ leBytes 4 (crc32 (checkedBytes cls subtype p)).toNat)
  rw [← List.append_assoc, ← List.append_assoc] at this
  exact this.trans (Nat.mod_eq_of_lt (by omega))

theorem frame_good (h : p.length ≤ 65535) : Good (frame cls subtype p) := by
  rw [Good, frame_size cls subtype p h]
  exact ⟨frame_length cls subtype p, frame_crc cls subtype p⟩

/-- A packet around a payload that fits its length field is its class's command (R149). -/
theorem decode_frame (age : Nat) (h : p.length ≤ 65535) :
    decode age (frame cls subtype p) = classCommand age cls subtype p := by
  rw [decode_good age (frame_good cls subtype p h), frame_size cls subtype p h, frame_payload]
  rfl

/-- The layout of a packet around a payload that fits its length field. -/
theorem frame_layout (h : p.length ≤ 65535) (b : List Byte) (hb : frame cls subtype p = b) :
    b.length = 8 + p.length ∧ field b 0 1 = cls.toNat ∧ field b 1 1 = subtype.toNat ∧ field b 2 2 = p.length ∧
      (b.drop 4).take p.length = p ∧ field b (4 + p.length) 4 = (crc32 (b.take (4 + p.length))).toNat := by
  subst hb
  exact ⟨frame_length cls subtype p, rfl, rfl, frame_size cls subtype p h, frame_payload cls subtype p,
    frame_crc cls subtype p⟩

end

/-- A packet whose CRC-32 is wrong (R178). -/
theorem not_good_of_crc {covered : List Byte} {crc : BitVec 32} (h : crc ≠ crc32 covered) :
    ¬ Good (covered ++ leBytes 4 crc.toNat) := by
  rintro ⟨size, check⟩
  rw [List.length_append, leBytes_length] at size
  rw [show 4 + field (covered ++ leBytes 4 crc.toNat) 2 2 = covered.length by omega, field_word, List.take_left] at check
  exact h (BitVec.eq_of_toNat_eq check)

/-- Decoding a packet that carries a command gives the command back. -/
theorem decode_encode {i : Instr} {bytes : List Byte} (age : Nat) (hi : WellFormed.check i = true)
    (he : encode i = some bytes) (ha : ∀ a p, i = .timeMark a p → a = age) : decode age bytes = i := by
  have fits : ∀ p, WellFormed.payloadFits p = true → p.length ≤ 65535 := fun p => of_decide_eq_true
  cases i with
  | frameHead p => cases he; exact decode_frame 1 1 p age (fits p hi)
  | row p => cases he; exact decode_frame 1 2 p age (fits p hi)
  | malformedVideoPacket => cases he; exact decode_frame 1 0 [] age (by simp)
  | audioBlock p => cases he; exact decode_frame 2 0 p age (fits p hi)
  | ctrl p => cases he; exact decode_frame 3 0 p age (fits p hi)
  | timeMark a p =>
    cases he
    rw [ha a p rfl]
    exact decode_frame 4 0 p age (fits p (Bool.and_eq_true_iff.1 hi).2)
  | fill p => cases he; exact decode_frame 5 0 p age (fits p hi)
  | unknownClassPacket => cases he; exact decode_frame 0 0 [] age (by simp)
  | badPacket => cases he; rfl
  | _ => cases he

end Sys2Proof.Packet

namespace Sys2Proof.Machine
open Sys2Proof Packet

/-- Settles O60: the layout by `frame_layout`, the judgement by `decode_good` and `decode_bad`. -/
theorem packetsDecode : Obligations.PacketsDecode := by
  unfold Obligations.PacketsDecode
  refine ⟨fun s age ha => ⟨capturedTick_recent, capturedTick_wrapped ha, capturedTick_oldest⟩, fun p hp => ?_,
    fun age b => ⟨decode_bad age, fun good => ?_⟩, fun i bytes age hi he ha => decode_encode age hi he ha,
    fun age covered crc h => decode_bad age (not_good_of_crc h)⟩
  · have made : ∀ (cls subtype : Byte) (told : Option Nat), (∀ n, told = some n → subtype.toNat = n) → ∃ b,
        some (frame cls subtype p) = some b ∧ b.length = 8 + p.length ∧ field b 0 1 = cls.toNat ∧
        (∀ n, told = some n → field b 1 1 = n) ∧ field b 2 2 = p.length ∧ (b.drop 4).take p.length = p ∧
        field b (4 + p.length) 4 = (crc32 (b.take (4 + p.length))).toNat := fun cls subtype told ht => by
      obtain ⟨h1, h2, h3, h4⟩ := frame_layout cls subtype p hp _ rfl
      exact ⟨_, rfl, h1, h2, fun n hn => h3.trans (ht n hn), h4⟩
    exact ⟨made 1 1 _ (by simp), made 1 2 _ (by simp), made 2 0 none (by simp), made 3 0 none (by simp),
      fun _ => made 4 0 none (by simp), made 5 0 none (by simp)⟩
  · have cls : ∀ c : Byte, field b 0 1 = c.toNat → decode age b =
        classCommand age c (byteAt b 1) ((b.drop 4).take (field b 2 2)) := fun c hc => by
      rw [decode_good age good, byte_of_field c hc]
    refine ⟨fun h1 hs => ?_, fun h1 hs => ?_, fun h1 n1 n2 => ?_, cls 2, cls 3, cls 4, cls 5, fun h => ?_⟩
    · rw [cls 1 h1, byte_of_field 1 hs]; rfl
    · rw [cls 1 h1, byte_of_field 2 hs]; rfl
    · exact (cls 1 h1).trans (videoCommand_other _ n1 n2)
    · rw [decode_good age good]
      exact classCommand_unknown age _ _ h

end Sys2Proof.Machine
end

section
/-! PROOFS. What every command does to the lights. -/
namespace Sys2Proof.Machine
open Sys2Proof

/-! ## What the lights depend on (R61, R62, R84) -/

/-- What lighting reads and writes of an eye. -/
structure EyeLight where
  on : Bool
  bound : Bool
  drive : Nat
  lit : Bool

/-- What lighting reads and writes of a camera channel. -/
structure CamLight where
  opened : Bool
  drive : Nat

def EyeDisplay.light (d : EyeDisplay) : EyeLight := ⟨d.panel == .on, d.bound.isSome, d.drive, d.lit⟩

def Cam.light (k : Cam) : CamLight := ⟨k.state == .opened, k.drive⟩

/-- What the strobes and illuminators and their lighting conditions hold of a state. -/
structure LightView where
  running : Bool
  strobe : PerEye WindowPhase
  expose : PerCam WindowPhase
  eyes : PerEye EyeLight
  latched : PerEye Bool
  blanked : Bool
  cams : PerCam CamLight
  darkened : Bool
  strobeGrant : PerEye Nat
  illumGrant : PerCam Nat
  brownout : Bool
  asleep : Bool

def lightView (s : State) : LightView where
  running := s.tl.running
  strobe := s.tl.strobe
  expose := s.tl.expose
  eyes := s.disp.eyes.map EyeDisplay.light
  latched := s.shift.latched
  blanked := s.disp.latches.any
  cams := s.motion.cams.map Cam.light
  darkened := s.motion.darkened
  strobeGrant := s.power.strobe.map Consumer.grant
  illumGrant := s.power.illum.map Consumer.grant
  brownout := s.power.brownout
  asleep := s.power.asleep

/-- `strobeLit` as it reads the view. -/
def LightView.strobeLit (v : LightView) (e : Eye) : Bool :=
  v.running && v.strobe.get e == .opened && (v.eyes.get e).on && (v.eyes.get e).bound && v.latched.get e && !v.blanked &&
    !v.brownout && decide (0 < v.strobeGrant.get e)

/-- `illumLit` as it reads the view. -/
def LightView.illumLit (v : LightView) (c : Camera) : Bool :=
  v.running && v.expose.get c == .opened && (v.cams.get c).opened && decide (0 < v.illumGrant.get c) && !v.brownout &&
    !v.darkened && !v.asleep

/-- `LightsSound` as it reads the view. -/
def LightView.Sound (v : LightView) : Prop :=
  (∀ e, (v.eyes.get e).drive = (if v.strobeLit e then v.strobeGrant.get e else 0) ∧
    (v.strobeLit e = true → (v.eyes.get e).lit = true)) ∧
  ∀ c, (v.cams.get c).drive = if v.illumLit c then v.illumGrant.get c else 0

theorem lightView_strobeLit (s : State) (e : Eye) : (lightView s).strobeLit e = strobeLit s e := by
  simp [LightView.strobeLit, strobeLit, lightView, EyeDisplay.light]

theorem lightView_illumLit (s : State) (c : Camera) : (lightView s).illumLit c = illumLit s c := by
  simp [LightView.illumLit, illumLit, lightView, Cam.light]

theorem lightsSound_iff (s : State) : LightsSound s ↔ (lightView s).Sound := by
  unfold LightsSound LightView.Sound
  simp only [lightView_strobeLit, lightView_illumLit]
  simp [lightView, EyeDisplay.light, Cam.light]

/-- From `s` to `t` lights that follow their conditions go on following them. -/
def KeepsLights (s t : State) : Prop := LightsSound s → LightsSound t

theorem KeepsLights.refl (s : State) : KeepsLights s s := id

/-- What keeps the lights after a step that keeps them. -/
theorem KeepsLights.after {s t u : State} (k : KeepsLights t u) (h : KeepsLights s t) : KeepsLights s u := k ∘ h

/-- A step whose end sets the lights keeps them, whatever came before. -/
theorem KeepsLights.of_sound {s t : State} (h : LightsSound t) : KeepsLights s t := fun _ => h

/-- A step that spares all that lighting depends on keeps the lights. -/
theorem KeepsLights.of_view {s t : State} (h : lightView t = lightView s) : KeepsLights s t := fun hs => by
  rw [lightsSound_iff] at hs ⊢
  rwa [h]

/-- A last part that spares all that lighting depends on. -/
theorem LightsSound.via {s t : State} (k : lightView t = lightView s) (h : LightsSound s) : LightsSound t :=
  KeepsLights.of_view k h

theorem KeepsLights.via {s t u : State} (k : lightView u = lightView t) (h : KeepsLights s t) : KeepsLights s u :=
  .after (.of_view k) h

theorem KeepsLights.ite {s t u : State} {c : Prop} [Decidable c] (h : KeepsLights s t) (k : KeepsLights s u) :
    KeepsLights s (if c then t else u) := by
  split
  · exact h
  · exact k

/-! ## Updates that spare what the lights depend on -/

section
variable (s : State)

theorem lightView_of_parts {s t : State} (tl : t.tl = s.tl) (disp : t.disp = s.disp) (shift : t.shift = s.shift)
    (motion : t.motion = s.motion) (power : t.power = s.power) : lightView t = lightView s := by
  simp only [lightView, tl, disp, shift, motion, power]

theorem lightView_mapEye (e : Eye) {f : EyeDisplay → EyeDisplay}
    (h : (f (s.disp.eyes.get e)).light = (s.disp.eyes.get e).light) : lightView (s.mapEye e f) = lightView s := by
  have eyes : (s.mapEye e f).disp.eyes.map EyeDisplay.light = s.disp.eyes.map EyeDisplay.light := by
    cases e <;> simp [PerEye.map, PerEye.set, PerEye.get] at h ⊢ <;> exact h
  simp only [lightView, eyes]
  rfl

theorem lightView_mapCam (c : Camera) {f : Cam → Cam} (h : (f (s.motion.cams.get c)).light = (s.motion.cams.get c).light) :
    lightView (s.mapCam c f) = lightView s := by
  have cams : (s.mapCam c f).motion.cams.map Cam.light = s.motion.cams.map Cam.light := by
    revert h
    match c with
    | 0 | 1 | 2 | 3 => simp [PerCam.map, PerCam.set, PerCam.get]
  simp only [lightView, cams]
  rfl

theorem lightView_mapMotion {f : Motion → Motion} (h : (f s.motion).cams = s.motion.cams ∧ (f s.motion).darkened = s.motion.darkened) :
    lightView (s.mapMotion f) = lightView s := by
  simp only [lightView, mapMotion_motion, h.1, h.2]
  rfl

theorem lightView_mapPower {f : Power → Power} (h : (f s.power).strobe = s.power.strobe ∧ (f s.power).illum = s.power.illum ∧
      (f s.power).brownout = s.power.brownout ∧ (f s.power).asleep = s.power.asleep) :
    lightView (s.mapPower f) = lightView s := by
  obtain ⟨strobe, illum, brownout, asleep⟩ := h
  simp only [lightView, mapPower_power, strobe, illum, brownout, asleep]
  rfl

theorem lightView_mapReq (f : Requests → Requests) : lightView (s.mapReq f) = lightView s := rfl

/-! ## Operations that spare it -/

theorem lightView_raiseIf (c : Bool) (x : Source) (d : Detail) : lightView (raiseIf c x d s) = lightView s := by
  cases c <;> rfl

theorem lightView_offer (r : Report) : lightView (offer r s) = lightView s :=
  lightView_of_parts (by simp) (by simp) (by simp) (by simp) (by simp)

theorem lightView_unblank (c : Cause) : lightView (unblank c s) = lightView s := rfl

theorem lightView_setMute (c : MuteCause) (p : Bool) : lightView (setMute c p s) = lightView s := rfl

theorem lightView_changeSync (a : Sync) (c : SyncCause) (e : Option Int) : lightView (changeSync a c e s) = lightView s := by
  rw [changeSync_eq]
  rfl

theorem lightView_changePhase (m : PhaseMode) (told : Bool) : lightView (changePhase m told s) = lightView s := by
  rw [changePhase_eq]
  rfl

/-! ## Operations that set the lights -/

theorem keepsLights_blank (c : Cause) : KeepsLights s (blank c s) := by
  unfold blank
  split
  · exact .refl s
  · exact .of_sound (lights_sound _)

theorem keepsLights_setBlank (c : Cause) (p : Bool) : KeepsLights s (setBlank c p s) := by
  cases p
  · exact .of_view (lightView_unblank s c)
  · exact keepsLights_blank s c

theorem computeGrants_sound : LightsSound (computeGrants s) := lights_sound _

theorem keepsLights_computeIf (b : Bool) : KeepsLights s (computeIf b s) := by
  cases b
  · exact .refl s
  · exact .of_sound (computeGrants_sound s)

/-! ## Requests taken (R162 to R167) -/

theorem lightView_recordFault (q : Request) (g : Group) : lightView (recordFault q g s) = lightView s := by
  unfold recordFault
  split <;> rfl

theorem lightView_refuse (q : Request) (g : Group) (st : Status) (b : ReplyBody) :
    lightView (refuse q g st b s) = lightView s := by
  unfold refuse
  split
  · exact lightView_recordFault s q g
  · rfl

theorem keepsLights_checked (q : Request) (row : KindRow) {pass : State → State} (h : KeepsLights s (pass s)) :
    KeepsLights s (checked q row pass s) := by
  unfold checked
  split
  · exact .of_view rfl
  · exact .of_view (lightView_refuse s _ _ _ _)
  · exact h

theorem keepsLights_serve {owner : Request → State → Done} (h : ∀ q t, KeepsLights t (owner q t).state) :
    KeepsLights s (serve owner s) := by
  unfold serve
  split
  · exact .after (keepsLights_checked _ _ _ (.via rfl (h _ _))) (.of_view rfl)
  · exact .refl s

theorem lightView_heldReply (q : Request) (w : Wait) (d : Held) : lightView (d.reply q w) = lightView d.state := by
  unfold Held.reply
  split <;> rfl

theorem keepsLights_serveHeld {wait : Request → Wait} {owner : Request → State → Held}
    (h : ∀ q t, KeepsLights t (owner q t).state) : KeepsLights s (serveHeld wait owner s) := by
  unfold serveHeld
  split
  · exact .after (keepsLights_checked _ _ _ (.via (lightView_heldReply _ _ _) (.after (h _ _) (.of_view rfl)))) (.of_view rfl)
  · exact .refl s

theorem lightView_serveUnknown : lightView (serveUnknown s) = lightView s := by
  unfold serveUnknown
  split
  · dsimp only
    split <;> rfl
  · rfl

end

end Sys2Proof.Machine
end

section
namespace Sys2Proof.Machine
open Sys2Proof

/-! ## Timebase and phase lock -/

section
variable (s : State)

theorem lightView_lockUpdate (e : Int) : lightView (lockUpdate e s) = lightView s := by
  rw [lockUpdate_eq]
  rfl

theorem lightView_processMark (d : Tick) (h : HostTime) : lightView (processMark d h s) = lightView s := by
  unfold processMark
  split
  · exact lightView_changeSync _ _ _ _
  · rfl
  · exact lightView_changeSync _ _ _ _
  · rfl
  · exact lightView_changeSync _ _ _ _
  · exact lightView_lockUpdate _ _

theorem lightView_receiveMark (d : Tick) (p : List Byte) : lightView (receiveMark d p s) = lightView s := by
  unfold receiveMark
  split
  · exact lightView_processMark s d _
  · rfl

theorem lightView_loosenPhase : lightView (loosenPhase s) = lightView s := by
  unfold loosenPhase
  split
  · exact lightView_changePhase _ _ _
  · rfl

/-! ## Display Output and Late Shift Unit -/

theorem lightView_storeLate (e : Eye) (o : Option LateOutcome) : lightView (storeLate e o s) = lightView s := by
  unfold storeLate
  split
  · exact lightView_mapEye s e rfl
  · rfl

theorem keepsLights_lateShift (q : Request) : KeepsLights s (lateShift q s).state := by
  unfold lateShift
  split
  · exact .refl s
  · dsimp only
    split
    · exact .refl s
    · exact .of_view ((lightView_storeLate _ _ _).trans (lightView_storeLate _ _ _))

theorem keepsLights_panelOn (q : Request) : KeepsLights s (panelOn q s).state := by
  unfold panelOn
  split
  · exact .refl s
  · split
    · exact .refl s
    · split
      · exact .refl s
      · split
        · exact .refl s
        · exact .of_sound (computeGrants_sound _)

theorem keepsLights_panelOff (q : Request) : KeepsLights s (panelOff q s).state := by
  unfold panelOff
  split
  · exact .refl s
  · exact .of_sound (keepsLights_computeIf _ _ (lights_sound _))

theorem wakeExpiry_sound (e : Eye) : LightsSound (wakeExpiry e s) := lights_sound (s.mapEye e fun d => { d with panel := .on })

theorem keepsLights_displayConfig (q : Request) : KeepsLights s (displayConfig q s).state := by
  unfold displayConfig
  dsimp only
  split
  · exact .refl s
  · split
    · exact .refl s
    · exact .of_sound (lights_sound _)

theorem lightView_takeHead (e : Eye) (h : Head) : lightView (takeHead e h s) = lightView s := by
  have pending : lightView ((s.mapDisp fun d => { d with headsReceived := d.headsReceived + 1 }).mapEye e fun d =>
      { d with pending := some h }) = lightView s := lightView_mapEye _ e rfl
  unfold takeHead
  dsimp only
  split <;> exact pending

theorem lightView_receiveHead (p : List Byte) : lightView (receiveHead p s) = lightView s := by
  unfold receiveHead
  split
  · exact lightView_takeHead s _ _
  · rfl

theorem lightView_receiveRow (p : List Byte) : lightView (receiveRow p s) = lightView s := by
  unfold receiveRow
  split
  · unfold takeRow
    split
    · exact lightView_mapEye s _ (f := fun d => { d with lines := d.lines.write _ _ }) rfl
    · rfl
  · rfl

theorem keepsLights_stall (e : Eye) : KeepsLights s (stall e s) := .via rfl (keepsLights_blank s _)

/-- A latch sets the lights, and a stall after it keeps them (R53, R54, R61). -/
theorem latchEye_sound (e : Eye) : LightsSound (latchEye e s) := by
  unfold latchEye
  dsimp only
  split
  · exact lights_sound _
  · unfold missFrame
    dsimp only
    split
    · exact keepsLights_stall _ e (lights_sound _)
    · exact lights_sound _

theorem lightView_openScan (e : Eye) : lightView (openScan e s) = lightView s := by
  unfold openScan
  dsimp only
  split
  · exact lightView_mapEye _ e rfl
  · rfl

theorem lightView_scanEye (e : Eye) : lightView (scanEye e s) = lightView s := by
  unfold scanEye
  split
  · refine lightView_mapEye s e ?_
    unfold EyeDisplay.scanRow
    split <;> rfl
  · rfl

/-! ## Power Manager -/

theorem keepsLights_powerContract (q : Request) : KeepsLights s (powerContract q s).state := by
  unfold powerContract
  dsimp only
  split
  · exact .refl s
  · exact .of_sound (computeGrants_sound _)

theorem lightView_countAverage : lightView (s.mapPower Power.countAverage) = lightView s :=
  lightView_mapPower s (by
    unfold Power.countAverage
    split
    · exact ⟨rfl, rfl, rfl, rfl⟩
    · split <;> exact ⟨rfl, rfl, rfl, rfl⟩)

theorem lightView_closeAverage : lightView (closeAverage s) = lightView s := by
  unfold closeAverage
  split
  · unfold judgeAverage
    dsimp only
    have counted := lightView_countAverage (s.mapPower fun p => { p with average := p.sum / p.count, sum := 0, count := 0 })
    split
    · exact counted
    · split <;> exact counted
  · rfl

theorem beginBrownout_sound : LightsSound (beginBrownout s) :=
  .via rfl (keepsLights_blank _ .power (lights_sound (s.mapPower fun p => { p with brownout := true, highRun := 0 })))

theorem keepsLights_countLow (mv : Nat) : KeepsLights s (countLow mv s) :=
  .ite (.of_sound (beginBrownout_sound _)) (.of_view rfl)

theorem keepsLights_countHigh (mv : Nat) : KeepsLights s (countHigh mv s) :=
  .ite (.of_sound (lights_sound _)) (.of_view rfl)

theorem lightView_addSample (x : InputSample) : lightView (s.mapPower (Power.addSample s.tl.running x)) = lightView s :=
  lightView_mapPower s (by unfold Power.addSample; split <;> exact ⟨rfl, rfl, rfl, rfl⟩)

theorem keepsLights_takeSample (mv ma : Nat) : KeepsLights s (takeSample mv ma s) := by
  unfold takeSample
  dsimp only
  split
  · exact .after (keepsLights_countHigh _ mv) (.of_view (lightView_addSample s _))
  · exact .after (keepsLights_countLow _ mv) (.of_view (lightView_addSample s _))

/-- In a part held in reset every light is dark (R136). -/
theorem holdReset_sound : LightsSound (holdReset s) := by
  have dark : LightsSound State.reset := by
    refine ⟨fun e => ?_, fun c => ?_⟩
    · cases e <;> exact ⟨rfl, fun h => by cases h⟩
    · match c with
      | 0 | 1 | 2 | 3 => rfl
  exact .via rfl dark

theorem keepsLights_inputLevel (mv ma : Nat) : KeepsLights s (inputLevel mv ma s) := by
  unfold inputLevel
  dsimp only
  split
  · exact .of_sound (holdReset_sound _)
  · split
    · exact .after (keepsLights_takeSample _ mv ma) (.of_view rfl)
    · exact .of_view rfl

theorem goToSleep_sound : LightsSound (goToSleep s) := keepsLights_computeIf _ _ (.via rfl (lights_sound _))

theorem wakePart_sound (cause : SleepCause) : LightsSound (wakePart cause s) :=
  keepsLights_computeIf _ _ (.via rfl (lights_sound _))

theorem keepsLights_wearToPower (w : Wear) : KeepsLights s (wearToPower w s) := by
  cases w with
  | unknown => exact .of_view rfl
  | worn =>
    unfold wearToPower
    dsimp only
    split
    · exact .of_sound (wakePart_sound s _)
    · exact .of_view rfl
  | removed =>
    unfold wearToPower
    dsimp only
    split <;> exact .of_view rfl

theorem keepsLights_powerPolicy (q : Request) : KeepsLights s (powerPolicy q s).state := by
  have policy : ∀ t : State, KeepsLights t (applyPolicy t) := fun t => by
    unfold applyPolicy
    split
    · split
      · exact .of_sound (wakePart_sound t _)
      · exact .refl t
    · split
      · exact .of_sound (goToSleep_sound t)
      · exact .refl t
  unfold powerPolicy
  dsimp only
  split
  · exact .refl s
  · exact .after (policy _) (.of_view rfl)

/-! ## Motion Hub: reads and wear -/

theorem keepsLights_motionConfig (q : Request) : KeepsLights s (motionConfig q s).state := by
  unfold motionConfig
  dsimp only
  split
  · exact .refl s
  · split
    · exact .refl s
    · exact .after (keepsLights_computeIf _ _) (.of_view rfl)

theorem lightView_dataReady : lightView (dataReady s) = lightView s := by
  have handled : ∀ t, lightView (handleEdge t) = lightView t := fun t => by
    unfold handleEdge
    split <;> rfl
  unfold dataReady captureEdge
  split
  · split
    · rfl
    · exact handled _
  · rfl

theorem lightView_nextRead : lightView (nextRead s) = lightView s := by
  unfold nextRead
  split
  · split <;> rfl
  · rfl

theorem keepsLights_failRead (cause : ReadCause) : KeepsLights s (failRead cause s) := by
  unfold failRead
  dsimp only
  split
  · exact .of_sound (computeGrants_sound _)
  · exact .of_view (lightView_nextRead _)

theorem lightView_sensorIsDue : lightView (sensorIsDue s) = lightView s := by
  obtain ⟨_, _, _, eq, _⟩ := sensorIsDue_changes s
  rw [eq]
  rfl

theorem lightView_storeSample (x : Sample) : lightView (storeSample x s) = lightView s := by
  obtain ⟨_, _, _, eq, _⟩ := storeSample_changes s x
  rw [eq]
  rfl

theorem keepsLights_readAnswer (began : Tick) (a : ImuAnswer) : KeepsLights s (readAnswer began a s) := by
  unfold readAnswer
  split
  · split
    · split
      · exact .of_view ((lightView_nextRead _).trans (lightView_storeSample _ _))
      · exact keepsLights_failRead s _
    · exact .refl s
  · exact .refl s

theorem keepsLights_changeWear (w : Wear) : KeepsLights s (changeWear w s) :=
  .after (keepsLights_wearToPower _ w) (.after (keepsLights_setBlank _ _ _) (.of_view rfl))

theorem keepsLights_proximityLevel (active : Bool) : KeepsLights s (proximityLevel active s) := by
  have debounced : ∀ t : State, lightView ((t.mapMotion (Motion.debounce active)).mapClock fun c =>
      { c with proximityDone := true }) = lightView t := fun t =>
    lightView_mapMotion t (f := Motion.debounce active) (by unfold Motion.debounce; split <;> exact ⟨rfl, rfl⟩)
  unfold proximityLevel
  dsimp only
  split
  · unfold sampleProximity
    dsimp only
    exact .ite (.after (keepsLights_changeWear _ _) (.of_view (debounced _))) (.of_view (debounced _))
  · exact .of_view rfl

/-! ## Motion Hub: cameras -/

/-- A CLOSING channel is dark, and so is the IDLE one its deadline leaves (R81, R84). -/
theorem lightView_closeByDeadline (c : Camera) (h : (s.motion.cams.get c).state = .closing) :
    lightView (closeByDeadline c s) = lightView s := by
  have idle : ∀ t : State, t.motion = s.motion → lightView t = lightView s →
      lightView (setChannel c .idle t) = lightView s := fun t ht hv =>
    (lightView_mapCam t c (by rw [ht, Cam.light, Cam.light, h]; rfl)).trans hv
  unfold closeByDeadline
  split
  next x hx =>
    split
    · exact idle _ (offer_motion s _) (lightView_offer s _)
    · exact idle _ (offer_motion s _) (lightView_offer s _)
    · exact idle s rfl rfl
  next => exact idle s rfl rfl

theorem lightView_validRise (c : Camera) : lightView (validRise c s) = lightView s := by
  unfold validRise
  split
  · split
    · exact lightView_mapCam s c rfl
    · rfl
  · rfl

theorem ended_light (x : Exposure) (k : Cam) : (k.ended x).light = k.light := by
  unfold Cam.ended
  split
  next h => rw [Cam.light, Cam.light, h]; rfl
  next => rfl

theorem lightView_validFall (c : Camera) : lightView (validFall c s) = lightView s := by
  unfold validFall
  split
  · split
    · exact (lightView_mapCam _ c (ended_light _ _)).trans (lightView_offer s _)
    · rfl
  · rfl

theorem keepsLights_cameraConfig (q : Request) : KeepsLights s (cameraConfig q s).state := by
  have enabled : ∀ (c : Camera) (on : Bool) (t : State), KeepsLights t (enableCamera c on t) := fun c on t => by
    unfold enableCamera
    split
    · exact .refl t
    · exact .of_sound (computeGrants_sound _)
  unfold cameraConfig
  dsimp only
  split
  · exact .refl s
  · exact .after (enabled _ _ _) (.of_view (lightView_mapCam s _ rfl))

end

end Sys2Proof.Machine
end

section
namespace Sys2Proof.Machine
open Sys2Proof

section
variable (s : State)

/-! ## Frame Timeline -/

theorem keepsLights_timelineCommit (q : Request) : KeepsLights s (timelineCommit q s).state := by
  unfold timelineCommit
  dsimp only
  split
  · exact .refl s
  · split
    · exact .refl s
    · split
      · exact .of_view rfl
      · exact .of_sound (computeGrants_sound _)

theorem keepsLights_timelineSet (q : Request) : KeepsLights s (timelineSet q s).state := by
  unfold timelineSet
  split
  · exact .refl s
  · exact .of_view rfl

theorem keepsLights_frameAnchor (q : Request) : KeepsLights s (frameAnchor q s).state := by
  unfold frameAnchor
  split
  · exact .of_view (lightView_changePhase _ _ _)
  · exact .refl s

theorem lightView_recordDue : lightView (recordDue s) = lightView s := by
  unfold recordDue
  dsimp only
  split
  · exact lightView_offer _ _
  · rfl

theorem keepsLights_timelineRun (q : Request) : KeepsLights s (timelineRun q s).state := by
  unfold timelineRun
  split
  · exact .refl s
  · split
    · exact .refl s
    · exact .of_sound (computeGrants_sound _)

/-- A stop sets the lights once every window is closed, and a commit it applies computes the grants (R14, R61, R84). -/
theorem stopTimeline_sound : LightsSound (stopTimeline s) := by
  have commit : ∀ t : State, KeepsLights t (commitAtStop t) := fun t =>
    .ite (.of_sound (computeGrants_sound _)) (.refl t)
  exact commit _ (.via ((lightView_loosenPhase _).trans (lightView_closeAverage _)) (lights_sound _))

theorem keepsLights_timelineStop (q : Request) : KeepsLights s (timelineStop q s).state :=
  .ite (.of_sound (stopTimeline_sound s)) (.refl s)

/-! ## Audio Engine -/

theorem lightView_appendFrames (seq : BitVec 16) (frames : List Stereo) :
    lightView (appendFrames seq frames s) = lightView s := lightView_raiseIf _ _ _ _

theorem lightView_receiveBlock (p : List Byte) : lightView (receiveBlock p s) = lightView s := by
  unfold receiveBlock
  split
  · unfold takeBlock
    dsimp only
    split
    · rfl
    · rfl
    all_goals exact lightView_appendFrames _ _ _
  · rfl

theorem lightView_sendFrame : lightView (sendFrame s) = lightView s := by
  unfold sendFrame
  dsimp only
  split
  · rfl
  · rfl
  · rfl
  · split <;> rfl
  · split <;> rfl

theorem lightView_captureLevel (slots : List (BitVec 32)) : lightView (captureLevel slots s) = lightView s := by
  have gathered : ∀ (width : Nat) (t : State), lightView (gatherCapture width slots t) = lightView t := fun width t => by
    obtain ⟨_, _, _, _, _, _, _, eq, _⟩ := gatherCapture_changes t width slots
    rw [eq]
    exact lightView_raiseIf _ _ _ _
  have advanced : ∀ t : State, lightView (advanceDivider t) = lightView t := fun t => by
    obtain ⟨_, _, _, eq, _⟩ := advanceDivider_changes t
    rw [eq]
    rfl
  unfold captureLevel
  dsimp only
  split
  · exact (advanced _).trans ((gathered _ _).trans (lightView_sendFrame _))
  · rfl

theorem keepsLights_audioConfig (q : Request) : KeepsLights s (audioConfig q s).state := by
  unfold audioConfig
  split
  · exact .refl s
  · split
    · exact .refl s
    · exact .of_view rfl

theorem keepsLights_audioStart (q : Request) : KeepsLights s (audioStart q s).state :=
  .ite (.of_sound (computeGrants_sound _)) (.refl s)

theorem keepsLights_audioStop (q : Request) : KeepsLights s (audioStop q s).state := by
  unfold audioStop
  split
  · exact .refl s
  · exact .of_sound (computeGrants_sound _)

theorem keepsLights_captureStart (q : Request) : KeepsLights s (captureStart q s).state :=
  .ite (.refl s) (.of_view rfl)

theorem keepsLights_captureStop (q : Request) : KeepsLights s (captureStop q s).state := by
  unfold captureStop
  split
  · exact .of_view rfl
  · exact .refl s

theorem lightView_faultLevel (b : Bool) : lightView (faultLevel b s) = lightView s := by
  unfold faultLevel
  dsimp only
  split
  · rfl
  · split <;> rfl

/-! ## Tether Link -/

theorem startSession_sound : LightsSound (startSession s) := by
  unfold startSession
  exact .via (lightView_mapReq _ _) (.via (lightView_setMute _ _ _) (lights_sound _))

theorem keepsLights_endSession : KeepsLights s (endSession s) :=
  .via (lightView_mapReq _ _) (.via rfl (.after (keepsLights_blank _ .link) (.of_view rfl)))

/-- A valid packet keeps the lights where its owner's part does. -/
theorem keepsLights_completeValid {hand : State → State} (h : ∀ t, KeepsLights t (hand t)) :
    KeepsLights s (completeValid hand s) := by
  unfold completeValid
  dsimp only
  split
  · exact .of_view rfl
  · exact .of_view rfl
  · exact .ite (.after (h _) (.of_sound (startSession_sound _))) (.of_view rfl)
  · exact .after (h _) (.of_view rfl)
  · exact .after (h _) (.of_view rfl)

/-- A packet handed to an owner that spares what the lights depend on. -/
theorem keepsLights_packet {hand : State → State} (h : ∀ t, lightView (hand t) = lightView t) (f : Link → Link) :
    KeepsLights s (completeValid hand (s.mapLink f)) :=
  .after (keepsLights_completeValid _ fun t => .of_view (h t)) (.of_view rfl)

theorem lightView_admitCtrl (p : List Byte) : lightView (admitCtrl p s) = lightView s := by
  unfold admitCtrl
  split <;> rfl

theorem lightView_endWindow : lightView (endWindow s) = lightView s := lightView_raiseIf _ _ _ _

theorem lightView_startSuperframe : lightView (startSuperframe s) = lightView s := by
  unfold startSuperframe
  dsimp only
  split
  · exact lightView_endWindow _
  · rfl

theorem lightView_placeReports : ∀ (rs : List Report) (s : State), lightView (placeReports rs s).2 = lightView s
  | [], _ => rfl
  | _ :: rs, s => lightView_placeReports rs (afterPlacing _ s)

theorem lightView_beginSlot : lightView (beginSlot s) = lightView s := by
  have filled : ∀ c, lightView (fillSlot c s).2 = lightView s := fun c => by
    unfold fillSlot
    split
    · rfl
    · rfl
    · exact lightView_placeReports _ _
    · rfl
    · rfl
    · rfl
  exact filled _

theorem keepsLights_linkSlots (q : Request) : KeepsLights s (linkSlots q s).state := by
  unfold linkSlots
  split
  · exact .refl s
  · dsimp only
    split
    · exact .of_view rfl
    · exact .refl s

theorem keepsLights_grantSet (q : Request) : KeepsLights s (grantSet q s).state := by
  unfold grantSet
  dsimp only
  split
  · exact .refl s
  · split
    · exact .refl s
    · exact .of_view rfl

theorem systemReset_sound (q : Request) : LightsSound (systemReset q s).state :=
  .via (lightView_mapReq _ _) (computeGrants_sound _)

/-! ## Every command -/

/-- An outcome whose next state keeps the lights. -/
def LightsKeptBy (s : State) (o : Host.Outcome State Fault Refusal) : Prop := ∀ t, o = .next t → KeepsLights s t

theorem lightsKeptBy_next {t : State} (h : KeepsLights s t) : LightsKeptBy s (.next t) := fun _ ht => by cases ht; exact h

theorem lightsKeptBy_act_due {due : Bool} {f : State → State} (h : due = true → KeepsLights s (f s)) :
    LightsKeptBy s (act due f s) := by
  refine lightsKeptBy_next s ?_
  split
  next hd => exact h (Bool.and_eq_true_iff.1 hd).2
  next => exact .refl s

theorem lightsKeptBy_act {due : Bool} {f : State → State} (h : KeepsLights s (f s)) : LightsKeptBy s (act due f s) :=
  lightsKeptBy_act_due s fun _ => h

/-- A command whose end sets the lights. -/
theorem lightsKeptBy_sound {due : Bool} {f : State → State} (h : LightsSound (f s)) : LightsKeptBy s (act due f s) :=
  lightsKeptBy_act s (.of_sound h)

/-- A command that spares what the lights depend on. -/
theorem lightsKeptBy_view {due : Bool} {f : State → State} (h : lightView (f s) = lightView s) :
    LightsKeptBy s (act due f s) := lightsKeptBy_act s (.of_view h)

/-- The taking of a request whose owner keeps the lights. -/
theorem lightsKeptBy_serve {due : Bool} {owner : Request → State → Done} (h : ∀ q t, KeepsLights t (owner q t).state) :
    LightsKeptBy s (act due (serve owner) s) := lightsKeptBy_act s (keepsLights_serve s h)

theorem lightsKeptBy_serveHeld {due : Bool} {wait : Request → Wait} {owner : Request → State → Held}
    (h : ∀ q t, KeepsLights t (owner q t).state) : LightsKeptBy s (act due (serveHeld wait owner) s) :=
  lightsKeptBy_act s (keepsLights_serveHeld s h)

/-- A request that only reads. -/
theorem lightsKeptBy_read {due : Bool} (body : State → ReplyBody) :
    LightsKeptBy s (act due (serve fun _ t => .ok t (body t)) s) := lightsKeptBy_serve s fun _ t => .refl t

/-- A packet whose owner spares what the lights depend on. -/
theorem lightsKeptBy_packet {hand : State → State} (h : ∀ t, lightView (hand t) = lightView t) (f : Link → Link) :
    LightsKeptBy s (act true (fun s => completeValid hand (s.mapLink f)) s) := lightsKeptBy_act s (keepsLights_packet s h f)

/-- Every command keeps the lights. -/
theorem lightsKeptBy_exec (i : Instr) : LightsKeptBy s (exec i s) := by
  cases i with
  | startUp mv =>
    exact lightsKeptBy_next s (.ite (.refl s) (.ite (.of_sound (computeGrants_sound _)) (.of_view rfl)))
  | powerOnReset mv => exact lightsKeptBy_next s (.ite (.of_sound (holdReset_sound _)) (.refl s))
  | frameHead p => exact lightsKeptBy_packet s (fun t => lightView_receiveHead t p) _
  | row p => exact lightsKeptBy_packet s (fun t => lightView_receiveRow t p) _
  | audioBlock p => exact lightsKeptBy_packet s (fun t => lightView_receiveBlock t p) _
  | timeMark age p => exact lightsKeptBy_packet s (fun t => lightView_receiveMark t _ p) _
  | syncLock e => exact lightsKeptBy_view s (lightView_changeSync s _ _ _)
  | ctrl p => exact lightsKeptBy_packet s (fun t => lightView_admitCtrl t p) _
  | fill _ => exact lightsKeptBy_packet s (fun _ => rfl) _
  | unknownClassPacket => exact lightsKeptBy_packet s (fun _ => rfl) _
  | badPacket => exact lightsKeptBy_view s rfl
  | sessionStart => exact lightsKeptBy_sound s (startSession_sound s)
  | silenceTimerExpiry => exact lightsKeptBy_view s rfl
  | holdTimerExpiry => exact lightsKeptBy_act s (keepsLights_endSession s)
  | superframeStart => exact lightsKeptBy_view s (lightView_startSuperframe s)
  | badPacketWindowEnd => exact lightsKeptBy_view s (lightView_endWindow s)
  | upstreamSlot => exact lightsKeptBy_view s (lightView_beginSlot s)
  | unknownKind => exact lightsKeptBy_view s (lightView_serveUnknown s)
  | deviceIdentify => exact lightsKeptBy_read s fun _ => .identity identity
  | deviceStatus => exact lightsKeptBy_read s fun t => .deviceStatus (deviceStatusOf t)
  | systemReset => exact lightsKeptBy_serve s fun q t => .of_sound (systemReset_sound t q)
  | grantSet => exact lightsKeptBy_serve s fun q t => keepsLights_grantSet t q
  | faultRead => exact lightsKeptBy_read s fun t => .fault t.req.fault
  | faultClear => exact lightsKeptBy_serve s fun _ t => .of_view rfl
  | linkSlots => exact lightsKeptBy_serve s fun q t => keepsLights_linkSlots t q
  | linkStatus => exact lightsKeptBy_read s fun t => .linkStatus (linkStatusOf t)
  | timeStatus => exact lightsKeptBy_read s fun t => .timeStatus (timeStatusOf t)
  | timelineSet => exact lightsKeptBy_serve s fun q t => keepsLights_timelineSet t q
  | timelineCommit => exact lightsKeptBy_serveHeld s fun q t => keepsLights_timelineCommit t q
  | timelineRun => exact lightsKeptBy_serve s fun q t => keepsLights_timelineRun t q
  | timelineStop => exact lightsKeptBy_serve s fun q t => keepsLights_timelineStop t q
  | frameAnchor => exact lightsKeptBy_serve s fun q t => keepsLights_frameAnchor t q
  | timelineStatus => exact lightsKeptBy_read s fun t => .timelineStatus (timelineStatusOf t)
  | displayConfig => exact lightsKeptBy_serve s fun q t => keepsLights_displayConfig t q
  | displayDrive => exact lightsKeptBy_serve s fun _ t => .of_view rfl
  | panelPowerOn => exact lightsKeptBy_serveHeld s fun q t => keepsLights_panelOn t q
  | panelPowerOff => exact lightsKeptBy_serve s fun q t => keepsLights_panelOff t q
  | displayBlank => exact lightsKeptBy_serve s fun _ t => keepsLights_blank t .host
  | displayResume => exact lightsKeptBy_serve s fun _ t => .of_sound (lights_sound _)
  | displayStatus => exact lightsKeptBy_read s fun t => .displayStatus (displayStatusOf t)
  | lateShift => exact lightsKeptBy_serve s fun q t => keepsLights_lateShift t q
  | motionConfig => exact lightsKeptBy_serveHeld s fun q t => keepsLights_motionConfig t q
  | cameraConfig => exact lightsKeptBy_serve s fun q t => keepsLights_cameraConfig t q
  | motionStatus => exact lightsKeptBy_read s fun t => .motionStatus (motionStatusOf t)
  | audioConfig => exact lightsKeptBy_serve s fun q t => keepsLights_audioConfig t q
  | audioStart => exact lightsKeptBy_serve s fun q t => keepsLights_audioStart t q
  | audioStop => exact lightsKeptBy_serve s fun q t => keepsLights_audioStop t q
  | audioVolume => exact lightsKeptBy_serve s fun _ t => .of_view rfl
  | audioMuteOn => exact lightsKeptBy_serve s fun _ t => .of_view (lightView_setMute t .host true)
  | audioMuteOff => exact lightsKeptBy_serve s fun _ t => .of_view (lightView_setMute t .host false)
  | captureStart => exact lightsKeptBy_serve s fun q t => keepsLights_captureStart t q
  | captureStop => exact lightsKeptBy_serve s fun q t => keepsLights_captureStop t q
  | audioStatus => exact lightsKeptBy_read s fun t => .audioStatus (audioStatusOf t)
  | powerContract => exact lightsKeptBy_serve s fun q t => keepsLights_powerContract t q
  | powerPolicy => exact lightsKeptBy_serve s fun q t => keepsLights_powerPolicy t q
  | powerStatus => exact lightsKeptBy_read s fun t => .powerStatus (powerStatusOf t)
  | frameStart => exact lightsKeptBy_sound s (computeGrants_sound _)
  | phaseLocked => exact lightsKeptBy_view s (lightView_changePhase s _ _)
  | frameRecordDue => exact lightsKeptBy_view s (lightView_recordDue s)
  | derateUp => exact lightsKeptBy_view s rfl
  | derateDown => exact lightsKeptBy_view s rfl
  | latch e => exact lightsKeptBy_sound s (latchEye_sound s e)
  | videoStall e => exact lightsKeptBy_act s (keepsLights_stall s e)
  | scanWindowOpen e => exact lightsKeptBy_view s (lightView_openScan s e)
  | scanRow e => exact lightsKeptBy_view s (lightView_scanEye s e)
  | strobeWindowOpen e => exact lightsKeptBy_sound s (lights_sound _)
  | strobeWindowClose e => exact lightsKeptBy_sound s (lights_sound _)
  | exposureWindowOpen c => exact lightsKeptBy_sound s (lights_sound _)
  | exposureWindowClose c => exact lightsKeptBy_sound s (lights_sound _)
  | exposureDeadline c =>
    exact lightsKeptBy_act_due s fun hd => .of_view (lightView_closeByDeadline s c ((deadlineDue_iff s c).1 hd).1)
  | frameValidRise c => exact lightsKeptBy_view s (lightView_validRise s c)
  | frameValidFall c => exact lightsKeptBy_view s (lightView_validFall s c)
  | wakeTimerExpiry e => exact lightsKeptBy_sound s (wakeExpiry_sound s e)
  | startTimerExpiry => exact lightsKeptBy_view s rfl
  | dataReadyEdge => exact lightsKeptBy_view s (lightView_dataReady s)
  | imuReadAnswer began a => exact lightsKeptBy_act s (keepsLights_readAnswer s began a)
  | imuReadTimeout => exact lightsKeptBy_act s (keepsLights_failRead s _)
  | imuPortFailed => exact lightsKeptBy_sound s (computeGrants_sound _)
  | sensorDue => exact lightsKeptBy_view s (lightView_sensorIsDue s)
  | proximitySample a => exact lightsKeptBy_next s (keepsLights_proximityLevel s a)
  | wearChanged => exact lightsKeptBy_act s (keepsLights_changeWear s _)
  | sleepTimerExpiry => exact lightsKeptBy_sound s (goToSleep_sound s)
  | holdoverCoarse => exact lightsKeptBy_view s (lightView_changeSync _ _ _ _)
  | holdoverUnsynced => exact lightsKeptBy_view s ((lightView_loosenPhase _).trans (lightView_changeSync _ _ _ _))
  | audioFrameBoundary slots => exact lightsKeptBy_next s (.of_view (lightView_captureLevel s slots))
  | dividerRecompute => exact lightsKeptBy_view s rfl
  | muteRampEnd => exact lightsKeptBy_view s rfl
  | gainStep => exact lightsKeptBy_view s rfl
  | codecFaultAssert => exact lightsKeptBy_next s (.of_view (lightView_faultLevel s _))
  | codecFaultDeassert => exact lightsKeptBy_next s (.of_view (lightView_faultLevel s _))
  | inputMonitorSample mv ma => exact lightsKeptBy_next s (keepsLights_inputLevel s mv ma)
  | brownoutBegin => exact lightsKeptBy_sound s (beginBrownout_sound s)
  | brownoutEnd => exact lightsKeptBy_sound s (lights_sound _)
  | malformedVideoPacket => exact lightsKeptBy_packet s (hand := countMalformed) (fun _ => rfl) _

/-! ## Every step -/

/-- A tick moves timers and the counter only (R1, R25, R44). -/
theorem lightView_advance : lightView (advance s) = lightView s := by
  have eye : ∀ d : EyeDisplay, d.advance.light = d.light := fun d => by rw [eyeDisplay_advance]; split <;> rfl
  have eyes : (s.disp.eyes.map EyeDisplay.advance).map EyeDisplay.light = s.disp.eyes.map EyeDisplay.light := by
    simp only [PerEye.map, eye]
  simp only [lightView, advance, eyes, timeline_advance, motion_advance]
  rfl

/-- Every step keeps the lights. -/
theorem keepsLights_step {t : State} (h : step s = .next t) : KeepsLights s t := by
  unfold step at h
  split at h
  · exact .after (lightsKeptBy_exec _ _ t h) (.of_view rfl)
  · unfold idle at h
    split at h
    · unfold runPart at h
      split at h
      · exact lightsKeptBy_next s (.of_view (lightView_advance s)) t h
      · exact lightsKeptBy_exec s _ t h
      · exact .after (lightsKeptBy_exec _ _ t h) (.of_view rfl)
    · split at h
      · exact lightsKeptBy_exec s _ t h
      · exact lightsKeptBy_next s (.refl s) t h

end

/-- Settles O57: a command either ends by setting the lights or spares what they depend on. -/
theorem lightsKept : Obligations.LightsKept := by
  unfold Obligations.LightsKept
  exact fun s t hs h => keepsLights_step s h hs

end Sys2Proof.Machine
end

section
/-! PROOFS. Display Output: configuration and drive, blank causes, and the end of a session. -/
namespace Sys2Proof.Machine
open Sys2Proof

/-! ## Clamps (R48, R49) -/

theorem clampNat_eq {lo hi : Nat} (h : lo ≤ hi) (x : Nat) : clampNat lo hi x = max lo (min x hi) := by
  unfold clampNat
  split
  · omega
  · split <;> omega

/-- The clamp flag of a field: it lay outside its range. -/
theorem clampNat_bne {lo hi : Nat} (h : lo ≤ hi) (x : Nat) : (clampNat lo hi x != x) = (decide (x < lo) || decide (hi < x)) := by
  rw [Bool.eq_iff_iff, bne_iff_ne, Bool.or_eq_true, decide_eq_true_iff, decide_eq_true_iff, clampNat_eq h]
  omega

theorem clampNat_zero (hi x : Nat) : clampNat 0 hi x = min x hi := by
  rw [clampNat_eq (Nat.zero_le hi), Nat.zero_max]

theorem clampNat_zero_bne (hi x : Nat) : (clampNat 0 hi x != x) = decide (hi < x) := by
  rw [clampNat_bne (Nat.zero_le hi)]
  simp

theorem clampCode_eq (n : Nat) : clampCode n = min n 1023 := clampNat_zero 1023 n

/-! ## DISPLAY_DRIVE, DISPLAY_BLANK and DISPLAY_RESUME (R49, R59, R60) -/

/-- Settles O28: the owner writes the two clamped codes. -/
theorem displayDriveTaken : Obligations.DisplayDriveTaken := by
  unfold Obligations.DisplayDriveTaken
  intro s h q l r
  refine act_serve_admitted (t := { s with disp := { s.disp with eyes :=
    ⟨{ s.disp.eyes.left with request := min l 1023 }, { s.disp.eyes.right with request := min r 1023 }⟩ } }) h ?_
  have bne : ∀ n, (clampCode n != n) = decide (1023 < n) := clampNat_zero_bne 1023
  unfold displayDrive
  simp only [clampCode_eq] at bne ⊢
  simp only [bne]
  rfl

theorem blank_popIntake (c : Cause) (s : State) : blank c (popIntake s) = popIntake (blank c s) :=
  blank_mapReq popIntake_spares c s

/-- Settles O29: what `blanked` leaves, with lights that followed their conditions. -/
theorem displayBlankTaken : Obligations.DisplayBlankTaken := by
  unfold Obligations.DisplayBlankTaken
  intro s h hl
  refine act_serve_admitted (t := blanked .host s) h ?_
  rw [displayBlank, blank_popIntake, blank_of_sound _ hl]
  rfl

theorem inter_hostAbsent (l p : Causes) : l.inter (p.set .host false) =
    ⟨l.link && p.link, l.power && p.power, l.wear && p.wear, l.stallLeft && p.stallLeft, l.stallRight && p.stallRight, false⟩ := by
  simp [Causes.inter, Causes.set]

/-- Settles O30: the latches that stay are those of present conditions. -/
theorem displayResumeTaken : Obligations.DisplayResumeTaken := by
  unfold Obligations.DisplayResumeTaken
  intro s h present p l latches
  have cleared : clearLatches s = lights { s with disp := { s.disp with present := present, latches := latches } } := by
    rw [show latches = s.disp.latches.inter (s.disp.present.set .host false) from (inter_hostAbsent l p).symm]
    rfl
  rw [← cleared]
  refine act_serve_admitted (t := clearLatches s) (b := .causes latches present) h ?_
  rw [displayResume, show clearLatches (popIntake s) = popIntake (clearLatches s) from rfl, cleared]
  rfl

/-! ## DISPLAY_CONFIG (R48) -/

theorem clampDisplayConfig_eq (c : DisplayConfig) : clampDisplayConfig c = { c with
    marginX := min c.marginX 128, marginY := min c.marginY 32, lead := max 200 (min c.lead 3000) } := by
  unfold clampDisplayConfig
  rw [clampNat_zero, clampNat_zero, clampNat_eq (by decide)]

section
variable {c : DisplayConfig}

theorem displayConfigFault_columns (h : ¬ (1000 ≤ c.columns ∧ c.columns ≤ 2560)) :
    displayConfigFault c = some .panelColumns := if_pos (by omega)

theorem displayConfigFault_rows (hc : 1000 ≤ c.columns ∧ c.columns ≤ 2560) (h : ¬ (1000 ≤ c.rows ∧ c.rows ≤ 2560)) :
    displayConfigFault c = some .panelRows := by
  rw [displayConfigFault, if_neg (by omega), if_pos (by omega)]

theorem displayConfigFault_ppdX (hc : 1000 ≤ c.columns ∧ c.columns ≤ 2560) (hr : 1000 ≤ c.rows ∧ c.rows ≤ 2560)
    (h : ¬ (256 ≤ c.ppdX ∧ c.ppdX ≤ 25600)) : displayConfigFault c = some .ppdX := by
  rw [displayConfigFault, if_neg (by omega), if_neg (by omega), if_pos (by omega)]

theorem displayConfigFault_ppdY (hc : 1000 ≤ c.columns ∧ c.columns ≤ 2560) (hr : 1000 ≤ c.rows ∧ c.rows ≤ 2560)
    (hx : 256 ≤ c.ppdX ∧ c.ppdX ≤ 25600) (h : ¬ (256 ≤ c.ppdY ∧ c.ppdY ≤ 25600)) : displayConfigFault c = some .ppdY := by
  rw [displayConfigFault, if_neg (by omega), if_neg (by omega), if_neg (by omega), if_pos (by omega)]

theorem displayConfigFault_none (hc : 1000 ≤ c.columns ∧ c.columns ≤ 2560) (hr : 1000 ≤ c.rows ∧ c.rows ≤ 2560)
    (hx : 256 ≤ c.ppdX ∧ c.ppdX ≤ 25600) (hy : 256 ≤ c.ppdY ∧ c.ppdY ≤ 25600) : displayConfigFault c = none := by
  rw [displayConfigFault, if_neg (by omega), if_neg (by omega), if_neg (by omega), if_neg (by omega)]

end

/-- The Display Output with a configuration replaced and both eyes' video flushed (R48). -/
def flushed (c : DisplayConfig) (s : State) : State :=
  { s with disp := { s.disp with
    config := c
    eyes := s.disp.eyes.map fun d => { d with lines := [], pending := none, bound := none } } }

/-- In STOPPED no strobe is lit, so that a flush changes no light (R61). -/
theorem flushed_sound {s : State} (c : DisplayConfig) (h : LightsSound s) (hr : s.tl.running = false) :
    LightsSound (flushed c s) := by
  have dark : ∀ {t : State}, t.tl.running = false → ∀ e, strobeLit t e = false := fun ht e => by simp [strobeLit, ht]
  obtain ⟨eyes, cams⟩ := h
  refine ⟨fun e => ?_, cams⟩
  have hd := (eyes e).1
  rw [dark hr] at hd
  rw [dark (show (flushed c s).tl.running = false from hr)]
  exact ⟨(congrArg EyeDisplay.drive (PerEye_get_map _ _ e)).trans hd, fun hf => by cases hf⟩

/-- A configuration is taken in a STOPPED part whose lights follow their conditions (R48, R57). -/
theorem takeDisplayConfig_eq {s : State} (c : DisplayConfig) (h : LightsSound s) (hr : s.tl.running = false) :
    takeDisplayConfig c s = if c.wearBlanking = true ∧ s.motion.wear = .removed then blanked .wear (flushed c s)
      else unblank .wear (flushed c s) := by
  have sound := flushed_sound c h hr
  have eq : takeDisplayConfig c s = lights (setBlank .wear (wearCondition (flushed c s)) (flushed c s)) := rfl
  rw [eq, lights_of_sound (keepsLights_setBlank _ _ _ sound), setBlank, blank_of_sound _ sound]
  simp only [wearCondition, Bool.and_eq_true, beq_iff_eq]
  rfl

theorem takeDisplayConfig_popIntake (c : DisplayConfig) (s : State) :
    takeDisplayConfig c (popIntake s) = popIntake (takeDisplayConfig c s) := by
  exact congrArg lights (setBlank_mapReq popIntake_spares .wear (wearCondition (flushed c s)) (flushed c s))

theorem displayConfig_fault {s : State} {q : Request} {f : Field} (hr : s.tl.running = false)
    (hf : displayConfigFault (parseDisplayConfig q.body) = some f) : displayConfig q s = ⟨s, .outOfRange, .field f⟩ := by
  simp [displayConfig, hr, hf, Done.refused]

/-- Settles O27: the refusals by `displayConfigFault`, the configuration taken by `takeDisplayConfig_eq`. -/
theorem displayConfigTaken : Obligations.DisplayConfigTaken := by
  unfold Obligations.DisplayConfigTaken
  intro s h hl q word given c columns rows ppdX ppdY
  have parsed : parseDisplayConfig (asked s).body = given := rfl
  refine ⟨fun hr => ?_, fun hr => ?_, fun hr hc hro hx hy => ?_⟩
  · exact act_serve_admitted (t := s) h (by rw [displayConfig, if_pos (show (popIntake s).tl.running = true from hr)]; rfl)
  · have names : ∀ f, displayConfigFault given = some f →
        exec .displayConfig s = .next { s with req := answered q .outOfRange (.field f) s.req } := fun f hf =>
      act_serve_admitted (t := s) h (displayConfig_fault hr hf)
    exact ⟨fun n => names _ (displayConfigFault_columns n), fun hc n => names _ (displayConfigFault_rows hc n),
      fun hc hro n => names _ (displayConfigFault_ppdX hc hro n), fun hc hro hx n => names _ (displayConfigFault_ppdY hc hro hx n)⟩
  · intro held flushed t
    have clamped : clampDisplayConfig given = c := clampDisplayConfig_eq given
    have flags : (c.marginX != given.marginX) = decide (128 < given.marginX) ∧
        (c.marginY != given.marginY) = decide (32 < given.marginY) ∧
        (c.lead != given.lead) = (decide (given.lead < 200) || decide (3000 < given.lead)) := by
      rw [← clamped]
      exact ⟨clampNat_zero_bne _ _, clampNat_zero_bne _ _, clampNat_bne (by decide) _⟩
    have taken : takeDisplayConfig c s = t := takeDisplayConfig_eq c hl hr
    refine act_serve_admitted (t := t) h ?_
    obtain ⟨fx, fy, fl⟩ := flags
    simp only [displayConfig, parsed, clamped, displayConfigFault_none hc hro hx hy, fx, fy, fl, popIntake_tl, hr,
      takeDisplayConfig_popIntake, taken]
    rfl

/-! ## The end of a session (R145, R147, R177) -/

theorem muteOn_dropCapture (c : MuteCause) (a : Audio) : a.dropCapture.muteOn c = (a.muteOn c).dropCapture := by
  simp only [muteOn_eq, silenced, Audio.dropCapture]
  split <;> rfl

/-- Settles O7: the LINK condition by `blanked`, the other blocks field by field. -/
theorem sessionEnds : Obligations.SessionEnds := by
  unfold Obligations.SessionEnds
  intro s hp hs hh hl ended
  refine act_eq hp ((holdDue_iff s).2 ⟨hs, hh⟩) ?_
  have sound : LightsSound (withdrawCommit ((s.mapLink Link.closeSession).mapReq Requests.flush)) := .via rfl hl
  have blank_eq : blank .link (withdrawCommit ((s.mapLink Link.closeSession).mapReq Requests.flush)) = ended :=
    blank_of_sound .link sound
  obtain ⟨disp, ev, eq⟩ := blanked_changes .link (withdrawCommit ((s.mapLink Link.closeSession).mapReq Requests.flush))
  have ended_eq : ended = { withdrawCommit ((s.mapLink Link.closeSession).mapReq Requests.flush) with
    disp := disp, req := { (s.mapReq Requests.flush).req with events := ev } } := eq
  rw [endSession, blank_eq, ended_eq]
  have audio := muteOn_dropCapture .link s.audio
  simp only [raise_eq, setMute, State.mapAudio, if_true, withdrawCommit, State.mapTl, State.mapReq, State.mapLink, audio]
  rfl

end Sys2Proof.Machine
end

section
/-! PROOFS. Display Output: the panels' power. -/
namespace Sys2Proof.Machine
open Sys2Proof

/-! ## The body of a PANEL_POWER (R44, R46, R163) -/

/-- The eyes that a mask names. -/
def maskEyes (b : Byte) : PerEye Bool := ⟨decide (b.toNat % 2 = 1), decide (2 ≤ b.toNat)⟩

theorem parseEyes_bad {b : Byte} (h : b.toNat = 0 ∨ 3 < b.toNat) : parseEyes b = none := by
  have other : ∀ k : Byte, 1 ≤ k.toNat → k.toNat ≤ 3 → b ≠ k := by
    rintro k h1 h3 rfl
    omega
  rw [parseEyes, if_neg (other 1 (by decide) (by decide)), if_neg (other 2 (by decide) (by decide)),
    if_neg (other 3 (by decide) (by decide))]

theorem parseEyes_good {b : Byte} (h1 : 1 ≤ b.toNat) (h3 : b.toNat ≤ 3) : parseEyes b = some (maskEyes b) := by
  have value : b = 1 ∨ b = 2 ∨ b = 3 := by
    simp only [BitVec.toNat_eq]
    simp
    omega
  rcases value with rfl | rfl | rfl <;> rfl

/-- A request that passes the checks carries the body that its kind's row tells (R163). -/
theorem Admitted.body_length {k : Kind} {s : State} (h : Admitted k s) : ∃ row ∈ kindRows, row.kind = k ∧
    (asked s).body.length = row.length := by
  obtain ⟨_, due, row, hr, hj⟩ := h
  obtain ⟨p, hp⟩ := oldest_of_row hr
  have good : lengthGood (asked s) row = true := by
    unfold judge at hj
    split at hj
    · cases hj
    · split at hj
      · cases hj
      · split at hj
        · cases hj
        next hg => simpa using hg
  refine ⟨row, ?_, kind_of_kindDue s due hr, ?_⟩
  · have found : kindRow (payloadKind p) = some row := by rwa [oldestRow, hp] at hr
    exact List.mem_of_find?_eq_some found
  · rw [asked_eq hp] at good ⊢
    simp only [lengthGood, parseRequest, Bool.and_eq_true, beq_iff_eq] at good
    have carried := of_decide_eq_true good.1
    simp only [parseRequest, List.length_drop]
    omega

theorem panelPower_body {s : State} (h : Admitted .panelPower s) : (asked s).body.length = 2 := by
  obtain ⟨row, mem, kind, length⟩ := h.body_length
  have two : ∀ r ∈ kindRows, r.kind = .panelPower → r.length = 2 := by decide
  exact length.trans (two row mem kind)

theorem powerOnField_eq {s : State} (h : Admitted .panelPower s) :
    powerOnField (oldestBody s) = (byteAt (asked s).body 1 != 0) := by
  have length := panelPower_body h
  rw [← asked_body, powerOnField, byteAt, List.getD_eq_getElem?_getD, List.getElem?_eq_getElem (by omega)]
  rfl

theorem panelPower_due {s : State} (h : Admitted .panelPower s) (on : Bool)
    (hb : (byteAt (asked s).body 1 != 0) = on) :
    exec .panelPowerOn s = act (kindDue .panelPower s && on) (serveHeld panelWait panelOn) s ∧
    exec .panelPowerOff s = act (kindDue .panelPower s && !on) (serve panelOff) s := by
  rw [← hb, ← powerOnField_eq h]
  exact ⟨rfl, rfl⟩

theorem exec_panelPowerOn {s : State} (h : Admitted .panelPower s) (hb : byteAt (asked s).body 1 ≠ 0) :
    exec .panelPowerOn s = act (kindDue .panelPower s) (serveHeld panelWait panelOn) s := by
  rw [(panelPower_due h true (by simpa using hb)).1, Bool.and_true]

theorem exec_panelPowerOff {s : State} (h : Admitted .panelPower s) (hb : byteAt (asked s).body 1 = 0) :
    exec .panelPowerOff s = act (kindDue .panelPower s) (serve panelOff) s := by
  rw [(panelPower_due h false (by simpa using hb)).2, Bool.not_false, Bool.and_true]

/-! ## Named eyes -/

theorem anyNamed_iff (n : PerEye Bool) (p : Eye → Bool) : anyNamed n p = true ↔ ∃ e, n.get e = true ∧ p e = true := by
  simp only [anyNamed, Bool.or_eq_true, Bool.and_eq_true]
  exact ⟨fun h => h.elim (fun h => ⟨.left, h⟩) fun h => ⟨.right, h⟩,
    fun ⟨e, h⟩ => by cases e; exacts [.inl h, .inr h]⟩

theorem allNamed_iff (n : PerEye Bool) (p : Eye → Bool) : allNamed n p = true ↔ ∀ e, n.get e = true → p e = true := by
  have one : ∀ e, (!n.get e || p e) = true ↔ (n.get e = true → p e = true) := fun e => by
    cases n.get e <;> simp
  rw [allNamed, Bool.and_eq_true]
  exact ⟨fun ⟨hl, hr⟩ e => by cases e; exacts [(one .left).1 hl, (one .right).1 hr],
    fun h => ⟨(one .left).2 (h .left), (one .right).2 (h .right)⟩⟩

theorem mapNamed_eq (n : PerEye Bool) (f : EyeDisplay → EyeDisplay) (s : State) : mapNamed n f s =
    { s with disp := { s.disp with eyes :=
      ⟨if n.get .left = true then f (s.disp.eyes.get .left) else s.disp.eyes.get .left,
       if n.get .right = true then f (s.disp.eyes.get .right) else s.disp.eyes.get .right⟩ } } := rfl

/-! ## PANEL_POWER with power on, and the wake timer (R44, R45) -/

section
variable {s : State} {q : Request} {n : PerEye Bool}

theorem panelWait_eq (hn : parseEyes (byteAt q.body 0) = some n) : panelWait q = .panels n.left n.right := by
  rw [panelWait, hn]
  rfl

theorem panelOn_bad (hn : parseEyes (byteAt q.body 0) = none) : panelOn q s = ⟨s, some (.outOfRange, .empty)⟩ := by
  rw [panelOn, hn]

theorem panelOn_asleep (hn : parseEyes (byteAt q.body 0) = some n) (ha : s.power.asleep = true) :
    panelOn q s = ⟨s, some (.wrongState, .empty)⟩ := by
  rw [panelOn, hn]
  exact if_pos ha

theorem panelOn_awake (hn : parseEyes (byteAt q.body 0) = some n) (ha : s.power.asleep = false) : panelOn q s =
    if anyNamed n fun e => s.panel e == .waking then ⟨s, some (.busy, .empty)⟩
    else if allNamed n fun e => s.panel e == .on then ⟨s, some (.ok, namedPanels n s)⟩
    else ⟨computeGrants (mapNamed n EyeDisplay.wakeUp s), none⟩ := by
  rw [panelOn, hn]
  exact if_neg (by simp [ha])

theorem panelOn_waking (hn : parseEyes (byteAt q.body 0) = some n) (ha : s.power.asleep = false)
    (hw : ∃ e, n.get e = true ∧ s.panel e = .waking) : panelOn q s = ⟨s, some (.busy, .empty)⟩ := by
  rw [panelOn_awake hn ha, if_pos ((anyNamed_iff _ _).2 (by simpa using hw))]

theorem panelOn_allOn (hn : parseEyes (byteAt q.body 0) = some n) (ha : s.power.asleep = false)
    (ho : ∀ e, n.get e = true → s.panel e = .on) : panelOn q s = ⟨s, some (.ok, namedPanels n s)⟩ := by
  have not_waking : ¬ ∃ e, n.get e = true ∧ (s.panel e == .waking) = true := by
    rintro ⟨e, he, hw⟩
    rw [ho e he] at hw
    cases hw
  rw [panelOn_awake hn ha, if_neg (mt (anyNamed_iff _ _).1 not_waking), if_pos ((allNamed_iff _ _).2 (by simpa using ho))]

theorem namedPanels_on (ho : ∀ e, n.get e = true → s.panel e = .on) : namedPanels n s =
    .panels ⟨if n.left then some .on else none, if n.right then some .on else none⟩ := by
  have one : ∀ e, (if n.get e then some (s.panel e) else none) = if n.get e then some .on else none := fun e => by
    split
    next he => rw [ho e he]
    next => rfl
  exact congrArg ReplyBody.panels (congrArg₂ PerEye.mk (one .left) (one .right))

theorem panelOn_wakes (hn : parseEyes (byteAt q.body 0) = some n) (ha : s.power.asleep = false)
    (hw : ∀ e, n.get e = true → s.panel e ≠ .waking) (ho : ∃ e, n.get e = true ∧ s.panel e = .off) :
    panelOn q s = ⟨computeGrants (mapNamed n EyeDisplay.wakeUp s), none⟩ := by
  have not_waking : ¬ ∃ e, n.get e = true ∧ (s.panel e == .waking) = true := by
    rintro ⟨e, he, h⟩
    exact hw e he (beq_iff_eq.1 h)
  have not_on : ¬ ∀ e, n.get e = true → (s.panel e == .on) = true := by
    obtain ⟨e, he, h⟩ := ho
    intro hall
    have on := hall e he
    rw [h] at on
    cases on
  rw [panelOn_awake hn ha, if_neg (mt (anyNamed_iff _ _).1 not_waking), if_neg (mt (allNamed_iff _ _).1 not_on)]

end

/-- A wait for panels is over when every eye it names is ON. -/
theorem panelsOn_iff (s : State) (w : Wait) : w.panelsOn s = true ↔
    ∃ l r, w = .panels l r ∧ (l = true → s.panel .left = .on) ∧ (r = true → s.panel .right = .on) := by
  cases w with
  | panels l r =>
    rw [Wait.panelsOn, allNamed_iff]
    simp only [beq_iff_eq]
    exact ⟨fun h => ⟨l, r, rfl, h .left, h .right⟩, fun ⟨l', r', eq, hl, hr⟩ e => by
      cases eq
      cases e
      exacts [hl, hr]⟩
  | commit => simp [Wait.panelsOn]
  | motion _ => simp [Wait.panelsOn]

/-- Settles O31: each outcome of `panelOn`, and the expiry by the waits that `panelsOn_iff` names. -/
theorem panelPowerOnAndWake : Obligations.PanelPowerOnAndWake := by
  unfold Obligations.PanelPowerOnAndWake
  intro s q mask n panel
  constructor
  · intro h hb refused
    rw [exec_panelPowerOn h hb]
    have answers : ∀ {st b}, panelOn q (addEntry q (panelWait q) (popIntake s)) =
        ⟨addEntry q (panelWait q) (popIntake s), some (st, b)⟩ →
        act (kindDue .panelPower s) (serveHeld panelWait panelOn) s = .next { s with req := answered q st b s.req } :=
      fun ho => act_serveHeld_answered h rfl ho
    refine ⟨fun bad => answers (panelOn_bad (parseEyes_bad bad)), fun h1 h3 => ?_⟩
    have named : parseEyes (byteAt q.body 0) = some n := parseEyes_good h1 h3
    refine ⟨fun ha => answers (panelOn_asleep named ha), fun ha hw => answers (panelOn_waking named ha hw),
      fun ha ho => namedPanels_on ho ▸ answers (panelOn_allOn named ha ho), ?_⟩
    intro ha hw ho wake t
    have woken_eq : ∀ e, (if n.get e = true then (s.disp.eyes.get e).wakeUp else s.disp.eyes.get e) = wake e := fun e => by
      simp only [wake, EyeDisplay.wakeUp, panel]
      by_cases he : n.get e = true <;> simp only [he, true_and, false_and, if_true, if_false, Bool.false_eq_true]
    have woken : mapNamed n EyeDisplay.wakeUp s = { s with disp := { s.disp with eyes := ⟨wake .left, wake .right⟩ } } := by
      rw [mapNamed_eq, woken_eq, woken_eq]
    rw [← panelWait_eq named]
    refine act_serveHeld_waiting h ((panelOn_wakes (s := addEntry q (panelWait q) (popIntake s)) named ha hw ho).trans ?_)
    rw [show mapNamed n EyeDisplay.wakeUp (addEntry q (panelWait q) (popIntake s)) =
        addEntry q (panelWait q) (popIntake (mapNamed n EyeDisplay.wakeUp s)) from rfl, computeGrants_addEntry,
      computeGrants_popIntake, woken]
  · intro e hp hw hz ht t allOn body
    refine ⟨_, finishWaiting_ended (Wait.panelsOn t) allOn (fun x => panelsOn_iff t x.wait) .ok body s.req ht.2.1, ?_⟩
    have body_eq : Entry.panelBody t = body := funext fun x => by
      obtain ⟨_, _, _, _, _, _, w⟩ := x
      cases w <;> rfl
    refine act_eq hp ((wakeDue_iff s e).2 ⟨hw, hz⟩) ?_
    rw [← body_eq]
    rfl

end Sys2Proof.Machine
end

section
/-! PROOFS. Panels turned off: by PANEL_POWER and by sleep. -/
namespace Sys2Proof.Machine
open Sys2Proof

/-! ## Waiting requests ended beside other events -/

theorem finishAll_spares (es : List Entry) (st : Status) (b : Entry → ReplyBody) : SparesEvents (finishAll es st b) := by
  have one : ∀ e, SparesEvents (finishEntry e st (b e)) := fun e r ev => by
    unfold finishEntry pushDuplicates countRefusal
    split <;> split <;> rfl
  intro r ev
  induction es generalizing r with
  | nil => rfl
  | cons e es ih =>
    rw [finishAll, List.foldl_cons, one]
    exact ih _

/-- The waiting PANEL_POWER requests that name one of these eyes are cancelled (R46, R47). -/
def cancelling (n : PerEye Bool) (r : Requests) : Requests :=
  finishAll (r.table.filter fun e => e.wait.namesEye n) .cancelled (fun _ => .empty) r

theorem cancelPanels_eq (n : PerEye Bool) (s : State) : cancelPanels n s = s.mapReq (cancelling n) := rfl

theorem cancelling_spares (n : PerEye Bool) : SparesEvents (cancelling n) := fun r ev =>
  finishAll_spares (r.table.filter fun e => e.wait.namesEye n) .cancelled (fun _ => .empty) r ev

theorem cancelPanels_popIntake (n : PerEye Bool) (s : State) :
    cancelPanels n (popIntake s) = popIntake (cancelPanels n s) :=
  congrArg (fun r => ({ s with req := r } : State)) (finishAll_taken _ _ _ s.req)

theorem namesEye_iff (n : PerEye Bool) (w : Wait) : w.namesEye n = true ↔
    ∃ l r, w = .panels l r ∧ ((l = true ∧ n.left = true) ∨ (r = true ∧ n.right = true)) := by
  cases w with
  | panels l r =>
    simp only [Wait.namesEye, Bool.or_eq_true, Bool.and_eq_true]
    exact ⟨fun h => ⟨l, r, rfl, h⟩, fun ⟨_, _, eq, h⟩ => by cases eq; exact h⟩
  | commit => simp [Wait.namesEye]
  | motion _ => simp [Wait.namesEye]

theorem cancelling_ended (n : PerEye Bool) {r : Requests}
    (h : r.table.Pairwise fun a b => ¬ (a.client = b.client ∧ a.tag = b.tag)) :
    waitingEnded (fun x => ∃ a b, x.wait = .panels a b ∧ ((a = true ∧ n.left = true) ∨ (b = true ∧ n.right = true)))
      .cancelled (fun _ => .empty) r (cancelling n r) :=
  finishWaiting_ended (Wait.namesEye n) _ (fun x => namesEye_iff n x.wait) _ _ r h

theorem raise_mapReq {g : Requests → Requests} (h : SparesEvents g) (src : Source) (d : Detail) (s : State) :
    raise src d (s.mapReq g) = (raise src d s).mapReq g :=
  congrArg (fun r => ({ s with req := r } : State)) (withEvent_spares h true src d s.now s.req)

theorem computeIf_mapReq {g : Requests → Requests} (h : SparesEvents g) (b : Bool) (s : State) :
    computeIf b (s.mapReq g) = (computeIf b s).mapReq g := by
  cases b
  · rfl
  · exact computeGrants_mapReq h s

theorem computeIf_popIntake (b : Bool) (s : State) : computeIf b (popIntake s) = popIntake (computeIf b s) :=
  computeIf_mapReq popIntake_spares b s

theorem computeIf_table (b : Bool) (s : State) : (computeIf b s).req.table = s.req.table := by
  cases b
  · rfl
  · exact computeGrants_table s

/-! ## Strobes of panels turned off (R61) -/

theorem lightEye_of_dark {s : State} {e : Eye} (h : strobeLit s e = false) :
    lightEye s e = { s.disp.eyes.get e with drive := 0 } := by
  unfold lightEye
  rw [if_neg (by simp [h])]

theorem strobeLit_of_panel {s : State} {e : Eye} (h : s.panel e ≠ .on) : strobeLit s e = false := by
  have off : ((s.disp.eyes.get e).panel == .on) = false := beq_eq_false_iff_ne.2 h
  simp [strobeLit, off]

theorem lightEye_of_sound {s : State} (h : LightsSound s) (e : Eye) : lightEye s e = s.disp.eyes.get e := by
  have same := congrArg (fun t : State => t.disp.eyes.get e) (lights_of_sound h)
  cases e <;> exact same

theorem mapNamed_get (n : PerEye Bool) (f : EyeDisplay → EyeDisplay) (s : State) (e : Eye) :
    (mapNamed n f s).disp.eyes.get e = if n.get e = true then f (s.disp.eyes.get e) else s.disp.eyes.get e := by
  cases e <;> rfl

/-- The strobe of an eye that is not named goes on following its condition. -/
theorem lightEye_mapNamed_other {s : State} (h : LightsSound s) {n : PerEye Bool} (f : EyeDisplay → EyeDisplay) {e : Eye}
    (he : ¬ n.get e = true) : lightEye (mapNamed n f s) e = s.disp.eyes.get e := by
  have same : (mapNamed n f s).disp.eyes.get e = s.disp.eyes.get e := by rw [mapNamed_get, if_neg he]
  have lit : strobeLit (mapNamed n f s) e = strobeLit s e := by
    unfold strobeLit
    rw [same]
    rfl
  rw [← lightEye_of_sound h e]
  unfold lightEye
  rw [same, lit]
  rfl

/-- The strobe of a named eye that `f` turns off goes dark. -/
theorem lightEye_mapNamed_off (s : State) {n : PerEye Bool} {f : EyeDisplay → EyeDisplay} (hf : ∀ d, (f d).panel = .off)
    {e : Eye} (he : n.get e = true) : lightEye (mapNamed n f s) e = { f (s.disp.eyes.get e) with drive := 0 } := by
  have named : (mapNamed n f s).disp.eyes.get e = f (s.disp.eyes.get e) := by rw [mapNamed_get, if_pos he]
  have off : (mapNamed n f s).panel e ≠ .on := by
    rw [State.panel, named, hf]
    decide
  rw [lightEye_of_dark (strobeLit_of_panel off), named]

/-! ## PANEL_POWER with power off (R46) -/

/-- Settles O32: the strobes by `lightEye`, the waits by `cancelling`, which leaves alone what a grant computation does. -/
theorem panelPowerOffTaken : Obligations.PanelPowerOffTaken := by
  unfold Obligations.PanelPowerOffTaken
  intro s h hl ht q hb mask n
  rw [exec_panelPowerOff h hb]
  constructor
  · intro bad
    refine act_serve_admitted (t := s) h ?_
    rw [panelOff, parseEyes_bad bad]
    rfl
  · intro h1 h3 off dark t
    have named : parseEyes (byteAt q.body 0) = some n := parseEyes_good h1 h3
    have eye : ∀ e, lightEye (mapNamed n EyeDisplay.turnOff s) e = off e := fun e => by
      by_cases he : n.get e = true
      · rw [lightEye_mapNamed_off s (fun _ => rfl) he]
        exact (if_pos he).symm
      · rw [lightEye_mapNamed_other hl _ he]
        exact (if_neg he).symm
    have darkened : lights (mapNamed n EyeDisplay.turnOff s) = dark := by
      rw [lights, eye, eye]
      exact congrArg (fun cams => ({ dark with motion := { s.motion with cams := cams } } : State)) (lightCam_of_sound (s := s) hl)
    have granted : computeIf (anyNamed n fun e => (s.panel e).powered) dark = t := by
      have changed : (anyNamed n fun e => (s.panel e).powered) = true ↔
          (n.left = true ∧ s.disp.eyes.left.panel ≠ .off) ∨ (n.right = true ∧ s.disp.eyes.right.panel ≠ .off) := by
        simp [anyNamed, Panel.powered, State.panel, PerEye.get]
      simp only [computeIf, changed]
      rfl
    have table : t.req.table = s.req.table := by rw [← granted, computeIf_table]
    refine ⟨cancelling n t.req, cancelling_ended n (table ▸ ht.2.1), ?_⟩
    refine act_serve_admitted (t := cancelPanels n t) h ?_
    rw [panelOff, named]
    show Done.ok (cancelPanels n (computeIf (anyNamed n fun e => (s.panel e).powered)
      (popIntake (lights (mapNamed n EyeDisplay.turnOff s))))) .empty = _
    rw [darkened, computeIf_popIntake, granted, cancelPanels_popIntake]
    rfl

/-! ## Sleep (R138, R47) -/

/-- The lights of a part that goes to sleep: every panel off, every illuminator dark. -/
theorem lights_panelsAsleep {s : State} (h : LightsSound s) :
    lights (mapNamed (poweredEyes s) (fun d => { d.turnOff with sleepMark := true })
      (s.mapPower fun p => { p with asleep := true, sleepTimer := none })) = { s with
      power := { s.power with asleep := true, sleepTimer := none }
      disp := { s.disp with eyes := s.disp.eyes.map fun d =>
        if d.panel = .off then d else { d with panel := .off, wake := 0, sleepMark := true, scan := none, drive := 0 } }
      motion := { s.motion with cams := s.motion.cams.map fun k => { k with drive := 0 } } } := by
  have powered : ∀ e, (poweredEyes s).get e = true ↔ (s.disp.eyes.get e).panel ≠ .off := fun e => by
    cases e <;> simp [poweredEyes, State.panel, PerEye.get, Panel.powered]
  let asleep := s.mapPower fun p => { p with asleep := true, sleepTimer := none }
  have eye : ∀ e, lightEye (mapNamed (poweredEyes s) (fun d => { d.turnOff with sleepMark := true }) asleep) e =
      if (s.disp.eyes.get e).panel = .off then s.disp.eyes.get e
      else { s.disp.eyes.get e with panel := .off, wake := 0, sleepMark := true, scan := none, drive := 0 } := fun e => by
    by_cases he : (poweredEyes s).get e = true
    · rw [lightEye_mapNamed_off asleep (fun _ => rfl) he, if_neg ((powered e).1 he)]
      rfl
    · have off : (s.disp.eyes.get e).panel = .off := not_not.1 (mt (powered e).2 he)
      have dark : strobeLit s e = false := strobeLit_of_panel (by rw [State.panel, off]; decide)
      have drive : (s.disp.eyes.get e).drive = 0 := by simpa [dark] using (h.1 e).1
      have same : (mapNamed (poweredEyes s) (fun d => { d.turnOff with sleepMark := true }) asleep).disp.eyes.get e =
          s.disp.eyes.get e := by rw [mapNamed_get, if_neg he]; rfl
      have dark' : strobeLit (mapNamed (poweredEyes s) (fun d => { d.turnOff with sleepMark := true }) asleep) e = false :=
        strobeLit_of_panel (by rw [State.panel, same, off]; decide)
      rw [lightEye_of_dark dark', same, if_pos off, ← drive]
  have cam : ∀ c, lightCam (mapNamed (poweredEyes s) (fun d => { d.turnOff with sleepMark := true }) asleep) c =
      { s.motion.cams.get c with drive := 0 } := fun c => by
    have dark : illumLit (mapNamed (poweredEyes s) (fun d => { d.turnOff with sleepMark := true }) asleep) c = false := by
      simp [illumLit, asleep, mapNamed]
    rw [lightCam, dark]
    rfl
  rw [lights, eye, eye, cam, cam, cam, cam]
  rfl

/-- Going to sleep is what `fallenAsleep` says, and the waiting requests that it cancels (R47, R138). -/
theorem goToSleep_eq {s : State} (h : LightsSound s) :
    goToSleep s = { fallenAsleep s with req := cancelling (poweredEyes s) (fallenAsleep s).req } := by
  have changed : ((s.panel .left).powered || (s.panel .right).powered) = true ↔
      s.disp.eyes.left.panel ≠ .off ∨ s.disp.eyes.right.panel ≠ .off := by
    simp [Panel.powered, State.panel, PerEye.get]
  have slept : computeIf ((s.panel .left).powered || (s.panel .right).powered)
      (raise .powerManager (.sleepChanged true .timeout)
        (lights (mapNamed (poweredEyes s) (fun d => { d.turnOff with sleepMark := true })
          (s.mapPower fun p => { p with asleep := true, sleepTimer := none })))) = fallenAsleep s := by
    rw [lights_panelsAsleep h]
    simp only [computeIf, changed]
    rfl
  have spares := cancelling_spares (poweredEyes s)
  calc goToSleep s
      = computeIf ((s.panel .left).powered || (s.panel .right).powered)
          (raise .powerManager (.sleepChanged true .timeout)
            ((lights (mapNamed (poweredEyes s) (fun d => { d.turnOff with sleepMark := true })
              (s.mapPower fun p => { p with asleep := true, sleepTimer := none }))).mapReq (cancelling (poweredEyes s)))) := rfl
    _ = (fallenAsleep s).mapReq (cancelling (poweredEyes s)) := by
        rw [raise_mapReq spares, computeIf_mapReq spares, slept]

theorem fallenAsleep_table (s : State) : (fallenAsleep s).req.table = s.req.table := by
  unfold fallenAsleep
  dsimp only
  split
  · rw [computeGrants_table]
    rfl
  · rfl

theorem cancelledBySleep_ended {s t : State} (h : TableSound s) (heyes : t.disp = s.disp) (hreq : t.req = s.req) :
    waitingEnded (cancelledBySleep s) .cancelled (fun _ => .empty) (fallenAsleep t).req
      (cancelling (poweredEyes t) (fallenAsleep t).req) := by
  have distinct := h.2.1
  rw [← hreq, ← fallenAsleep_table] at distinct
  have ended := cancelling_ended (poweredEyes t) distinct
  have same : cancelledBySleep s = fun x => ∃ a b, x.wait = .panels a b ∧
      ((a = true ∧ (poweredEyes t).left = true) ∨ (b = true ∧ (poweredEyes t).right = true)) := by
    funext x
    simp only [cancelledBySleep, poweredEyes, State.panel, Panel.powered, bne_iff_ne, heyes]
    rfl
  rw [same]
  exact ended

theorem goToSleep_popIntake (s : State) : goToSleep (popIntake s) = popIntake (goToSleep s) := by
  have slept : panelSleep (popIntake (s.mapPower fun p => { p with asleep := true, sleepTimer := none })) =
      popIntake (panelSleep (s.mapPower fun p => { p with asleep := true, sleepTimer := none })) :=
    cancelPanels_popIntake (poweredEyes s) (mapNamed (poweredEyes s) (fun d => { d.turnOff with sleepMark := true })
      (s.mapPower fun p => { p with asleep := true, sleepTimer := none }))
  calc goToSleep (popIntake s)
      = computeIf ((s.panel .left).powered || (s.panel .right).powered) (raise .powerManager (.sleepChanged true .timeout)
          (lights (panelSleep (popIntake (s.mapPower fun p => { p with asleep := true, sleepTimer := none }))))) := rfl
    _ = computeIf ((s.panel .left).powered || (s.panel .right).powered)
          (popIntake (raise .powerManager (.sleepChanged true .timeout)
            (lights (panelSleep (s.mapPower fun p => { p with asleep := true, sleepTimer := none }))))) := by rw [slept]; rfl
    _ = popIntake (goToSleep s) := computeIf_popIntake _ _

/-! ## The wake (R139, R47) -/

theorem wakePart_eq (cause : SleepCause) (s : State) : wakePart cause s = woken cause s := rfl

theorem wakePart_popIntake (cause : SleepCause) (s : State) : wakePart cause (popIntake s) = popIntake (wakePart cause s) :=
  computeIf_popIntake _ (raise .powerManager (.sleepChanged false cause) (lights (panelRestore (s.mapPower fun p =>
    { p with asleep := false, sleepTimer := if s.motion.wear = .removed then some 0 else none }))))

theorem computeIf_timeout (b : Bool) (s : State) : (computeIf b s).power.timeout = s.power.timeout := by
  cases b
  · rfl
  · rw [computeIf, if_pos rfl, computeGrants_power, computePower]
    split <;> rfl

/-! ## POWER_POLICY (R137) -/

/-- A policy taken whose timeout acts as `t` says (R137). -/
theorem powerPolicy_taken {s t : State} (h : Admitted .powerPolicy s) {n : Nat} (hn : (u16 (asked s).body 0).toNat = n)
    (hle : n ≤ 600)
    (ht : applyPolicy (popIntake { s with power := { s.power with timeout := n } }) = popIntake t)
    (timeout : t.power.timeout = n) : exec .powerPolicy s = .next { t with
      req := answered (asked s) .ok (.policy n t.power.asleep (t.power.sleepTimer.getD 0 / 1000)) t.req } := by
  refine act_serve_admitted (t := t) h ?_
  have taken : powerPolicy (asked s) (popIntake s) =
      .ok (popIntake t) (.policy t.power.timeout t.power.asleep t.power.sleepMs) := by
    rw [powerPolicy, hn, if_neg (by omega)]
    exact congrArg (fun u : State => Done.ok u (.policy u.power.timeout u.power.asleep u.power.sleepMs)) ht
  rw [taken, timeout]
  rfl

theorem woken_timeout (cause : SleepCause) (s : State) : (woken cause s).power.timeout = s.power.timeout :=
  (computeIf_timeout _ _).trans rfl

theorem fallenAsleep_timeout (s : State) : (fallenAsleep s).power.timeout = s.power.timeout := by
  unfold fallenAsleep
  dsimp only
  split
  · exact computeIf_timeout true _
  · rfl

section
variable {s : State}

theorem applyPolicy_asleep (ha : s.power.asleep = true) :
    applyPolicy s = if s.power.timeout = 0 then wakePart .policy s else s := if_pos ha

theorem applyPolicy_awake (ha : s.power.asleep = false) : applyPolicy s = if sleepDue s then goToSleep s else s :=
  if_neg (by simp [ha])

end

/-- Settles O43: sleep by `goToSleep_eq`, the wake by `woken`, and POWER_POLICY by the sleep state. -/
theorem sleepAndPolicy : Obligations.SleepAndPolicy := by
  unfold Obligations.SleepAndPolicy
  intro s hl ht
  constructor
  · intro n hp ha h1 hn hle
    exact ⟨_, cancelledBySleep_ended ht rfl rfl,
      act_eq hp ((sleepDue_iff s).2 ⟨ha, h1, n, hn, hle⟩) (goToSleep_eq hl)⟩
  · intro h q given held replied passed
    have sound : LightsSound held := .via rfl hl
    refine ⟨fun hi => act_serve_admitted (t := s) h ?_, fun hle => ?_⟩
    · exact if_pos hi
    · have outcome := fun {t : State} => powerPolicy_taken (s := s) (t := t) h (n := given) rfl hle
      refine ⟨fun ha hd => outcome ?_ rfl, fun ha h1 => outcome ?_ rfl, fun ha h0 => outcome ?_ ?_, fun ha h1 hd => ?_⟩
      · have early : ¬ sleepDue (popIntake held) = true := fun due => by
          obtain ⟨-, h1, n, hn, hle⟩ := (sleepDue_iff _).1 due
          exact hd ⟨h1, n, hn, hle⟩
        exact (applyPolicy_awake (s := popIntake held) ha).trans (if_neg early)
      · exact (applyPolicy_asleep (s := popIntake held) ha).trans (if_neg (show ¬ given = 0 by omega))
      · refine (applyPolicy_asleep (s := popIntake held) ha).trans ((if_pos h0).trans ?_)
        rw [wakePart_popIntake, wakePart_eq]
      · exact woken_timeout .policy held
      · obtain ⟨n, hn, hle⟩ := hd
        have due : sleepDue (popIntake held) = true := (sleepDue_iff _).2 ⟨ha, h1, n, hn, hle⟩
        refine ⟨_, cancelledBySleep_ended (t := held) ht rfl rfl, outcome (t := { fallenAsleep held with
          req := cancelling (poweredEyes held) (fallenAsleep held).req }) ?_ (fallenAsleep_timeout held)⟩
        refine (applyPolicy_awake (s := popIntake held) ha).trans ((if_pos due).trans ?_)
        rw [goToSleep_popIntake, goToSleep_eq sound]

end Sys2Proof.Machine
end

section
/-! PROOFS. Display Output: heads, rows, the scan and the strobe. -/
namespace Sys2Proof.Machine
open Sys2Proof

/-! ## Payloads of video packets (R50, R52, R179) -/

theorem eyeCode_eq_none_iff (b : Byte) : eyeCode b = none ↔ 1 < b.toNat := by
  unfold eyeCode
  split
  next h => simp [h]
  next h0 =>
    split
    next h => simp [h]
    next h1 =>
      simp only [true_iff, BitVec.toNat_eq] at h0 h1 ⊢
      simp at h0 h1
      omega

/-- The byte that names an eye. -/
def eyeNumber : Eye → Nat
  | .left => 0
  | .right => 1

theorem eyeCode_toNat {b : Byte} {e : Eye} (h : eyeCode b = some e) : b.toNat = eyeNumber e := by
  unfold eyeCode at h
  split at h
  next h0 => cases h; rw [h0]; rfl
  next =>
    split at h
    next h1 => cases h; rw [h1]; rfl
    next => cases h

theorem modeCode_eq_none_iff (b : Byte) : modeCode b = none ↔ 2 < b.toNat := by
  unfold modeCode
  split
  next h => simp [h]
  next h0 =>
    split
    next h => simp [h]
    next h1 =>
      split
      next h => simp [h]
      next h2 =>
        simp only [true_iff, BitVec.toNat_eq] at h0 h1 h2 ⊢
        simp at h0 h1 h2
        omega

/-- The byte that names a shift mode. -/
def modeNumber : ShiftMode → Nat
  | .auto => 0
  | .host => 1
  | .none => 2

theorem modeCode_toNat {b : Byte} {m : ShiftMode} (h : modeCode b = some m) : b.toNat = modeNumber m := by
  unfold modeCode at h
  split at h
  next h0 => cases h; rw [h0]; rfl
  next =>
    split at h
    next h1 => cases h; rw [h1]; rfl
    next =>
      split at h
      next h2 => cases h; rw [h2]; rfl
      next => cases h

theorem parseHead_eq_none_iff (p : List Byte) :
    parseHead p = none ↔ p.length ≠ 12 ∨ 1 < (byteAt p 0).toNat ∨ 2 < (byteAt p 1).toNat := by
  rw [← eyeCode_eq_none_iff, ← modeCode_eq_none_iff, parseHead]
  by_cases hl : p.length = 12
  · rw [if_pos hl]
    cases eyeCode (byteAt p 0) <;> cases modeCode (byteAt p 1) <;> simp [hl]
  · rw [if_neg hl]
    simp [hl]

theorem parseHead_eq_some {p : List Byte} {e : Eye} {h : Head} (hp : parseHead p = some (e, h)) :
    eyeCode (byteAt p 0) = some e ∧ modeCode (byteAt p 1) = some h.mode ∧ h.id = u16 p 2 ∧ h.pose = u64 p 4 ∧
      h.late = none := by
  unfold parseHead at hp
  split at hp
  · split at hp
    next eye mode => cases hp; exact ⟨eye, mode, rfl, rfl, rfl⟩
    next => cases hp
  · cases hp

theorem parseRow_eq_none_iff (c : DisplayConfig) (p : List Byte) : parseRow c p = none ↔
    p.length < 8 ∨ p.length ≠ 8 + 3 * (u16 p 6).toNat ∨ (u16 p 6).toNat ≠ c.columns + 2 * c.marginX ∨
      c.rows + 2 * c.marginY ≤ (u16 p 4).toNat ∨ 1 < (byteAt p 0).toNat := by
  rw [← eyeCode_eq_none_iff, parseRow]
  split
  next h =>
    rw [Option.map_eq_none_iff]
    obtain ⟨h1, h2, h3, h4⟩ := h
    constructor
    · exact fun he => .inr (.inr (.inr (.inr he)))
    · rintro (k | k | k | k | k)
      · omega
      · exact absurd h2 k
      · exact absurd h3 k
      · omega
      · exact k
  next h => exact ⟨fun _ => by omega, fun _ => rfl⟩

theorem parseRow_eq_some {c : DisplayConfig} {p : List Byte} {e : Eye} {r : StoredRow} (hp : parseRow c p = some (e, r)) :
    eyeCode (byteAt p 0) = some e ∧ r.id = u16 p 2 ∧ r.row = (u16 p 4).toNat ∧ r.pixels = p.drop 8 := by
  unfold parseRow at hp
  split at hp
  · obtain ⟨e', eye, eq⟩ := Option.map_eq_some_iff.1 hp
    cases eq
    exact ⟨eye, rfl, rfl, rfl⟩
  · cases hp

/-! ## Heads and rows taken (R50, R52) -/

/-- A VIDEO packet in UP is handed to the Display Output (R149, R150). -/
theorem act_video {s : State} (hp : s.powered = true) (hl : s.link.state = .up) (hand : State → State) :
    act true (videoPacket hand) s = .next (hand { s with link := heardVideo s }) :=
  act_eq hp rfl (videoPacket_up hand s hl)

theorem receiveHead_some {p : List Byte} {e : Eye} {h : Head} (hp : parseHead p = some (e, h)) (s : State) :
    receiveHead p s = takeHead e h s := by rw [receiveHead, hp]

theorem receiveHead_none {p : List Byte} (hp : parseHead p = none) (s : State) :
    receiveHead p s = countMalformed s := by rw [receiveHead, hp]

theorem receiveRow_some {p : List Byte} {e : Eye} {r : StoredRow} {s : State} (hp : parseRow s.disp.config p = some (e, r)) :
    receiveRow p s = takeRow e r s := by rw [receiveRow, hp]

theorem receiveRow_none {p : List Byte} {s : State} (hp : parseRow s.disp.config p = none) :
    receiveRow p s = countMalformed s := by rw [receiveRow, hp]

theorem takeHead_first (e : Eye) (h : Head) {s : State} (hn : (s.disp.eyes.get e).pending = none) :
    takeHead e h s = { s with disp := { s.disp with
      headsReceived := s.disp.headsReceived + 1
      eyes := s.disp.eyes.set e { s.disp.eyes.get e with pending := some h } } } := by
  unfold takeHead
  rw [hn]
  rfl

theorem takeHead_again (e : Eye) (h : Head) {s : State} {old : Head} (ho : (s.disp.eyes.get e).pending = some old) :
    takeHead e h s = { s with
      disp := { s.disp with
        headsReceived := s.disp.headsReceived + 1, headsDropped := s.disp.headsDropped + 1
        eyes := s.disp.eyes.set e { s.disp.eyes.get e with pending := some h } }
      req := withEvent true (.eye e) (.frameDropped old.id h.id) s.now s.req } := by
  unfold takeHead
  rw [ho]
  rfl

theorem headIs_iff (id : BitVec 16) (h : Option Head) : headIs id h = true ↔ h.map Head.id = some id := by
  rw [headIs, beq_iff_eq]

theorem knows_iff (d : EyeDisplay) (id : BitVec 16) :
    d.knows id = true ↔ d.pending.map Head.id = some id ∨ d.bound.map Head.id = some id := by
  rw [EyeDisplay.knows, Bool.or_eq_true, headIs_iff, headIs_iff]

theorem takeRow_known {e : Eye} {r : StoredRow} {s : State} (h : (s.disp.eyes.get e).knows r.id = true) :
    takeRow e r s = { s with disp := { s.disp with
      rowsStored := s.disp.rowsStored + 1
      eyes := s.disp.eyes.set e { s.disp.eyes.get e with
        lines := (s.disp.eyes.get e).lines.write (r.row % 96) r } } } := if_pos h

theorem takeRow_stray {e : Eye} {r : StoredRow} {s : State} (h : ¬ (s.disp.eyes.get e).knows r.id = true) :
    takeRow e r s = { s with disp := { s.disp with strayRows := s.disp.strayRows + 1 } } := if_neg h

theorem StoresSound.get {s : State} (h : StoresSound s) (e : Eye) : (s.disp.eyes.get e).lines.wf = true := by
  cases e
  exacts [h.1, h.2]

/-- Settles O34: the layouts by `parseHead` and `parseRow`, and the slots by what `write` leaves to `read`. -/
theorem headsAndRows : Obligations.HeadsAndRows := by
  unfold Obligations.HeadsAndRows
  intro s p hp hl counted mode side
  have handed := act_video hp hl
  refine ⟨parseHead_eq_none_iff p, fun e h hh => ?_, parseRow_eq_none_iff _ p, fun e r hr => ?_, fun hn => ?_,
    fun hn => ?_, handed _, fun e h hh => ?_, fun e r hr => ?_⟩
  · obtain ⟨eye, coded, told⟩ := parseHead_eq_some hh
    exact ⟨(eyeCode_toNat eye).trans (by cases e <;> rfl), (modeCode_toNat coded).trans (by cases h.mode <;> rfl), told⟩
  · obtain ⟨eye, told⟩ := parseRow_eq_some hr
    exact ⟨(eyeCode_toNat eye).trans (by cases e <;> rfl), told⟩
  · exact (handed _).trans (congrArg _ (receiveHead_none hn _))
  · exact (handed _).trans (congrArg _ (receiveRow_none (s := { s with link := heardVideo s }) hn))
  · have taken : exec (.frameHead p) s = .next (takeHead e h { s with link := heardVideo s }) :=
      (handed _).trans (congrArg _ (receiveHead_some hh _))
    rw [taken]
    exact ⟨fun hn => congrArg _ (takeHead_first (s := { s with link := heardVideo s }) e h hn),
      fun old ho => congrArg _ (takeHead_again (s := { s with link := heardVideo s }) e h ho)⟩
  · intro d known
    have taken : exec (.row p) s = .next (takeRow e r { s with link := heardVideo s }) :=
      (handed _).trans (congrArg _ (receiveRow_some (s := { s with link := heardVideo s }) hr))
    rw [taken]
    refine ⟨fun hk hs => ⟨d.lines.write (r.row % 96) r, ?_, ?_, ?_, ?_⟩, fun hk => ?_⟩
    · exact congrArg _ (takeRow_known (s := { s with link := heardVideo s }) ((knows_iff d r.id).2 hk))
    · exact write_wf _ _ _ (Nat.mod_lt _ (by decide)) (hs.get e)
    · exact read_write_same _ _ _ 0 (hs.get e)
    · exact fun i hi => read_write_other _ i r hi _
    · exact congrArg _ (takeRow_stray (s := { s with link := heardVideo s }) (mt (knows_iff d r.id).1 hk))

end Sys2Proof.Machine
end

section
/-! PROOFS. Display Output: the scan and the strobe. -/
namespace Sys2Proof.Machine
open Sys2Proof

/-! ## The scan (R55, R56) -/

theorem setEye_same (p : PerEye EyeDisplay) (e : Eye) : p.set e (p.get e) = p := by cases e <;> rfl

theorem openScan_eq (e : Eye) (s : State) : openScan e s = { s with
    tl := { s.tl with scanOpened := s.tl.scanOpened.set e true }
    disp := { s.disp with
      eyes := s.disp.eyes.set e (if (s.disp.eyes.get e).bound.isSome = true ∧ s.shift.latched.get e = true ∧
          (s.disp.eyes.get e).panel = .on
        then { s.disp.eyes.get e with scan := some 0, lastRow := none } else s.disp.eyes.get e) } } := by
  have cond : (((s.disp.eyes.get e).bound.isSome && s.shift.latched.get e && s.panel e == .on) = true) ↔
      (s.disp.eyes.get e).bound.isSome = true ∧ s.shift.latched.get e = true ∧ (s.disp.eyes.get e).panel = .on := by
    simp only [Bool.and_eq_true, beq_iff_eq, and_assoc, State.panel]
  by_cases h : (s.disp.eyes.get e).bound.isSome = true ∧ s.shift.latched.get e = true ∧ (s.disp.eyes.get e).panel = .on
  · rw [if_pos h]
    exact if_pos (cond.2 h)
  · rw [if_neg h, setEye_same]
    exact if_neg (mt cond.1 h)

theorem scanEye_some {s : State} {e : Eye} {k : Nat} (h : (s.disp.eyes.get e).scan = some k) :
    scanEye e s = s.mapEye e (EyeDisplay.scanRow s.disp.config k) := by
  rw [scanEye, h]

theorem storedRow_stored {c : DisplayConfig} {d : EyeDisplay} {h : Head} {k : Nat} {px : List Byte} (hb : d.bound = some h)
    (hr : d.lines.read (sourceRow c d.shift k % 96) = some ⟨h.id, sourceRow c d.shift k, px⟩) :
    d.storedRow c k = some ⟨h.id, sourceRow c d.shift k, px⟩ := by
  rw [EyeDisplay.storedRow, hr, Option.filter_some, if_pos]
  simp [headIs, hb]

theorem storedRow_missing {c : DisplayConfig} {d : EyeDisplay} {h : Head} {k : Nat} (hb : d.bound = some h)
    (hr : ∀ px, d.lines.read (sourceRow c d.shift k % 96) ≠ some ⟨h.id, sourceRow c d.shift k, px⟩) :
    d.storedRow c k = none := by
  rw [EyeDisplay.storedRow, Option.filter_eq_none_iff]
  intro r hread hpass
  obtain ⟨bound, row⟩ := Bool.and_eq_true_iff.1 hpass
  have id : h.id = r.id := by simpa [headIs, hb] using bound
  exact hr r.pixels (by rw [hread, id, ← eq_of_beq row])

theorem scanRow_stored {c : DisplayConfig} {d : EyeDisplay} {k : Nat} {r : StoredRow} (h : d.storedRow c k = some r) :
    d.scanRow c k = { d with scan := nextRow c k, lastRow := some (k, shiftedColumns c d.shift r.pixels) } := by
  rw [EyeDisplay.scanRow, h]

theorem scanRow_missing {c : DisplayConfig} {d : EyeDisplay} {k : Nat} (h : d.storedRow c k = none) :
    d.scanRow c k = { d with
      scan := nextRow c k
      lastRow := some (k, (d.lastRow.map Prod.snd).getD (blackRow c))
      repeats := min 65535 (d.repeats + 1) } := by
  rw [EyeDisplay.scanRow, h, bump_eq_min]

/-! ## The strobe (R61, R62) -/

/-- The strobe phase of one eye moves; nothing else does. -/
def withStrobePhase (e : Eye) (p : WindowPhase) (s : State) : State := s.mapTl fun t => { t with strobe := t.strobe.set e p }

/-- Where the lights were right before the strobe phase of one eye moved, only that eye's strobe can change. -/
theorem lights_withStrobePhase {s : State} (hs : LightsSound s) (e : Eye) (p : WindowPhase) :
    lights (withStrobePhase e p s) = { s with
      tl := { s.tl with strobe := s.tl.strobe.set e p }
      disp := { s.disp with eyes := s.disp.eyes.set e (lightEye (withStrobePhase e p s) e) } } := by
  have other : ∀ e', e' ≠ e → lightEye (withStrobePhase e p s) e' = s.disp.eyes.get e' := fun e' ne => by
    have lit : strobeLit (withStrobePhase e p s) e' = strobeLit s e' := by
      simp only [strobeLit, withStrobePhase, State.mapTl, PerEye_get_set_other _ _ _ _ ne]
      rfl
    rw [← lightEye_of_sound hs e', lightEye, lightEye, lit]
    rfl
  have eyes : (⟨lightEye (withStrobePhase e p s) .left, lightEye (withStrobePhase e p s) .right⟩ : PerEye EyeDisplay) =
      s.disp.eyes.set e (lightEye (withStrobePhase e p s) e) := by
    cases e
    · rw [other .right (by decide)]; rfl
    · rw [other .left (by decide)]; rfl
  unfold lights
  rw [eyes]
  exact congrArg (fun cams => ({ s with
    tl := { s.tl with strobe := s.tl.strobe.set e p }
    disp := { s.disp with eyes := s.disp.eyes.set e (lightEye (withStrobePhase e p s) e) }
    motion := { s.motion with cams := cams } } : State)) (lightCam_of_sound (s := s) hs)

theorem lightEye_opened {s : State} (e : Eye) (hr : s.tl.running = true) :
    let d := s.disp.eyes.get e
    let lit := d.panel == .on && d.bound.isSome && s.shift.latched.get e && !s.disp.latches.any && !s.power.brownout &&
      decide (0 < (s.power.strobe.get e).grant)
    lightEye (withStrobePhase e .opened s) e =
      { d with drive := if lit then (s.power.strobe.get e).grant else 0, lit := d.lit || lit } := by
  intro d lit
  have cond : strobeLit (withStrobePhase e .opened s) e = lit := by
    simp only [strobeLit, withStrobePhase, State.mapTl, PerEye_get_set_same, hr, beq_self_eq_true, Bool.true_and]
    rfl
  rw [lightEye, cond]
  cases lit
  · rw [if_neg (by decide), if_neg (by decide), Bool.or_false]
    rfl
  · rw [if_pos rfl, if_pos rfl, Bool.or_true]
    rfl

theorem lightEye_closed (s : State) (e : Eye) :
    lightEye (withStrobePhase e .closed s) e = { s.disp.eyes.get e with drive := 0 } := by
  have dark : strobeLit (withStrobePhase e .closed s) e = false := by
    simp [strobeLit, withStrobePhase, State.mapTl]
  exact (lightEye_of_dark dark).trans rfl

/-- Settles O37: the scan row by what its slot holds, the strobe by the one eye whose phase moves. -/
theorem scanAndStrobe : Obligations.ScanAndStrobe := by
  unfold Obligations.ScanAndStrobe
  intro s e hp hr d c
  refine ⟨?scanOpens, ?row, ?strobeOpens, ?strobeCloses⟩
  case scanOpens =>
    intro on before latched start
    have due : scanOpenDue s e = true := (scanOpenDue_iff s e).2 ⟨hr, on, before, latched, start⟩
    exact act_eq hp due (openScan_eq e s)
  case row =>
    intro k h scan below bound start row next
    have due : scanRowDue s e = true := (scanRowDue_iff s e).2 ⟨hr, k, scan, below, start⟩
    have scanned : ∀ d', d.scanRow c k = d' →
        exec (.scanRow e) s = .next { s with disp := { s.disp with eyes := s.disp.eyes.set e d' } } := fun d' hd =>
      act_eq hp due ((scanEye_some scan).trans (by rw [← hd]; rfl))
    exact ⟨fun px stored => scanned _ (scanRow_stored (storedRow_stored bound stored)),
      fun missing => scanned _ (scanRow_missing (storedRow_missing bound missing))⟩
  case strobeOpens =>
    intro hs on before start lit
    have due : strobeOpenDue s e = true := (windowOpenDue_iff _ _ _).2 ⟨hr, on, before, start⟩
    have opened : lightEye (withStrobePhase e .opened s) e =
        { d with drive := if lit then (s.power.strobe.get e).grant else 0, lit := d.lit || lit } := lightEye_opened e hr
    rw [← opened]
    exact act_eq hp due (lights_withStrobePhase hs e .opened)
  case strobeCloses =>
    intro hs opened stop
    have due : strobeCloseDue s e = true := (windowCloseDue_iff _ _ _).2 ⟨hr, opened, stop⟩
    rw [← lightEye_closed s e]
    exact act_eq hp due (lights_withStrobePhase hs e .closed)

end Sys2Proof.Machine
end

section
/-! PROOFS. The Power Manager: the ladder and the consumer lines of a grant computation. -/
namespace Sys2Proof.Machine
open Sys2Proof

/-! ## The ladder (R129) -/

theorem mem_downTo_zero (hi : Nat) : 0 ∈ downTo hi 0 := by
  rw [downTo, List.mem_map]
  exact ⟨hi, List.mem_range.2 (Nat.lt_succ_self hi), Nat.sub_self hi⟩

/-- The last setting of the ladder grants nothing that costs. -/
theorem ladder_ends_free {d : Demand} (derate : Nat) : ∃ x ∈ ladder derate d.level d.stopped, (price d x).total = 0 := by
  have free : ∀ l, audioCost d.stopped l = 0 → (price d ⟨0, 0, l⟩).total = 0 := fun l hl => by
    simp [price, Priced.total, variableTotal, strobeLine, illumLine, hl]
  cases hs : d.stopped
  · exact ⟨⟨0, 0, .l0⟩, List.mem_append_right _ (List.mem_singleton.2 rfl), free .l0 (by rw [hs]; rfl)⟩
  · exact ⟨⟨0, 0, d.level⟩, List.mem_append_left _ (List.mem_append_right _ (List.mem_map_of_mem (mem_downTo_zero 7))),
      free d.level (by rw [hs]; rfl)⟩

/-- The chosen setting stands in the ladder, fits, and no setting before it fits (R129). -/
theorem chooseSetting_spec (d : Demand) (derate a : Nat) : ∃ earlier later,
    ladder derate d.level d.stopped = earlier ++ chooseSetting d derate a :: later ∧
      (∀ y ∈ earlier, a < (price d y).total) ∧ (price d (chooseSetting d derate a)).total ≤ a := by
  unfold chooseSetting
  cases found : (ladder derate d.level d.stopped).find? fun x => decide ((price d x).total ≤ a) with
  | none =>
    obtain ⟨x, mem, free⟩ := ladder_ends_free (d := d) derate
    exact absurd (decide_eq_true (free.le.trans (Nat.zero_le a))) (List.find?_eq_none.1 found x mem)
  | some x =>
    obtain ⟨fits, earlier, later, split, above⟩ := List.find?_eq_some_iff_append.1 found
    exact ⟨earlier, later, split, fun y hy => by simpa using above y hy, of_decide_eq_true fits⟩

theorem levelOf_eq (gain : Int) :
    levelOf gain = if -11 ≤ gain then .l4 else if -23 ≤ gain then .l3 else if -35 ≤ gain then .l2 else .l1 := by
  simp only [levelOf, Int.lt_iff_add_one_le]
  rfl

/-- The ladder stage by stage, with `last` the level of its last strobe and illuminator stages and `lower` the levels of
its audio stage. -/
theorem ladder_stages (d : Nat) {level last : Level} {lower : List Level} {p : Playback}
    (hlast : last = if p = .stopped then level else .l1) (hlower : lower = if p = .stopped then [] else level.below) :
    ladder d level (p == .stopped) =
      [⟨16 - d, 16 - d, level⟩] ++ (downTo (15 - d) 4).map (fun f => ⟨f, 16 - d, level⟩) ++
        (downTo (15 - d) 8).map (fun f => ⟨4, f, level⟩) ++ lower.map (fun l => ⟨4, 8, l⟩) ++
        (downTo 3 0).map (fun f => ⟨f, 8, last⟩) ++ (downTo 7 0).map (fun f => ⟨0, f, last⟩) ++
        (if p = .stopped then [] else [⟨0, 0, .l0⟩]) := by
  subst hlast hlower
  by_cases h : p = .stopped <;> simp [ladder, floorLevel, h]

/-! ## The consumer lines (R127) -/

/-- What a strobe is granted and costs at a factor. -/
def strobeAt (s : State) (e : Eye) (fs : Nat) : Consumer :=
  strobeLine (s.disp.eyes.get e).request (s.tl.windows.strobe.get e).width s.tl.active.period fs

/-- What an illuminator is granted and costs at a factor. -/
def illumAt (s : State) (c : Camera) (fi : Nat) : Consumer :=
  let k := s.motion.cams.get c
  if k.state = .disabled then ⟨k.request, 0, 0⟩
  else ⟨k.request, k.request * fi / 16, k.request * fi / 16 * 3 * (s.tl.windows.expose.get c).width / s.tl.active.period⟩

theorem illumLine_camera (s : State) (c : Camera) (fi : Nat) :
    illumLine (s.motion.cams.get c).request (s.motion.cams.get c).enabled (s.tl.windows.expose.get c).width
      s.tl.active.period fi = illumAt s c fi := by
  by_cases h : (s.motion.cams.get c).state = .disabled <;> simp [illumLine, illumAt, Cam.enabled, h]

theorem price_illum (s : State) (x : Setting) :
    (price (demand s) x).illum = ⟨illumAt s 0 x.fi, illumAt s 1 x.fi, illumAt s 2 x.fi, illumAt s 3 x.fi⟩ := by
  rw [← illumLine_camera, ← illumLine_camera, ← illumLine_camera, ← illumLine_camera]
  rfl

theorem audioCost_playback (p : Playback) (l : Level) :
    audioCost (p == .stopped) l = if p = .stopped then 0 else l.cost := by
  simp only [audioCost, beq_iff_eq]

theorem price_total (s : State) (x : Setting) : (price (demand s) x).total =
    (strobeAt s .left x.fs).cost + (strobeAt s .right x.fs).cost + (illumAt s 0 x.fi).cost + (illumAt s 1 x.fi).cost +
      (illumAt s 2 x.fi).cost + (illumAt s 3 x.fi).cost + (if s.audio.playback = .stopped then 0 else x.level.cost) := by
  rw [← audioCost_playback, Priced.total, price_illum]
  rfl

/-- A consumer line at which the request is refused. -/
def Consumer.refused (x : Consumer) : Consumer := ⟨x.request, 0, 0⟩

theorem strobeAt_zero (s : State) (e : Eye) : strobeAt s e 0 = (strobeAt s e 0).refused := by
  simp [strobeAt, strobeLine, Consumer.refused]

theorem illumAt_zero (s : State) (c : Camera) : illumAt s c 0 = (illumAt s c 0).refused := by
  simp [illumAt, Consumer.refused]

/-! ## The Power Manager after a computation (R129, R131) -/

theorem Power.grant_eq {s : State} {x : Setting} {fs fi : Nat} {above : Bool} {p : Power}
    (h : p = Power.grant (demand s) x fs fi above s.power) : p = { s.power with
      strobe := ⟨strobeAt s .left x.fs, strobeAt s .right x.fs⟩
      illum := ⟨illumAt s 0 x.fi, illumAt s 1 x.fi, illumAt s 2 x.fi, illumAt s 3 x.fi⟩
      audioRequest := s.audio.requestedLevel, audioGrant := x.level
      audioCost := if s.audio.playback = .stopped then 0 else x.level.cost
      fs := fs, fi := fi, limited := p.limited, overContract := above } := by
  rw [← audioCost_playback, ← price_illum, h]
  rfl

/-- With nothing granted every consumer is refused (R129; log 12). -/
theorem Power.grant_none {s : State} {fs fi : Nat} {p : Power} (h : p = Power.grant (demand s) noGrants fs fi true s.power) :
    p = { s.power with
      strobe := ⟨(strobeAt s .left 0).refused, (strobeAt s .right 0).refused⟩
      illum := ⟨(illumAt s 0 0).refused, (illumAt s 1 0).refused, (illumAt s 2 0).refused, (illumAt s 3 0).refused⟩
      audioRequest := s.audio.requestedLevel, audioGrant := .l0, audioCost := 0
      fs := fs, fi := fi, limited := p.limited, overContract := true } := by
  have free : (if s.audio.playback = .stopped then 0 else noGrants.level.cost) = 0 := ite_self 0
  have outcome := Power.grant_eq h
  rw [free, show noGrants.fs = 0 from rfl, show noGrants.fi = 0 from rfl, strobeAt_zero s .left,
    strobeAt_zero s .right, illumAt_zero s 0, illumAt_zero s 1, illumAt_zero s 2, illumAt_zero s 3] at outcome
  exact outcome

theorem computePower_refused {s : State} (h : s.available < 0) : ∃ fs fi, fs ≤ 16 ∧ fi ≤ 16 ∧
    computePower s = { s with power := Power.grant (demand s) noGrants fs fi true s.power, free := s.free + 2 } :=
  ⟨_, _, Nat.le_of_lt_succ (Nat.mod_lt _ (by decide)), Nat.le_of_lt_succ (Nat.mod_lt _ (by decide)), if_pos h⟩

theorem computePower_granted {s : State} (h : 0 ≤ s.available) : ∃ x earlier later,
    ladder s.power.derate (demand s).level (demand s).stopped = earlier ++ x :: later ∧
      (∀ y ∈ earlier, s.available < (price (demand s) y).total) ∧ (price (demand s) x).total ≤ s.available ∧
      computePower s = { s with power := Power.grant (demand s) x x.fs x.fi false s.power } := by
  obtain ⟨earlier, later, split, above, fits⟩ := chooseSetting_spec (demand s) s.power.derate s.available.toNat
  refine ⟨_, earlier, later, split, fun y hy => ?_, ?_, if_neg (by omega)⟩
  · have := above y hy
    omega
  · omega

/-- What `computePower` changes: the table, and two free values when it grants nothing. -/
theorem computePower_changes (s : State) : computePower s =
    { s with power := (computePower s).power, free := if s.available < 0 then s.free + 2 else s.free } := by
  by_cases h : s.available < 0
  · obtain ⟨fs, fi, _, _, refused⟩ := computePower_refused h
    rw [refused, if_pos h]
  · obtain ⟨x, earlier, later, _, _, _, granted⟩ := computePower_granted (not_lt.1 h)
    rw [granted, if_neg h]

theorem exists_eye (P : Eye → Prop) : (∃ e, P e) ↔ P .left ∨ P .right := by
  constructor
  · rintro ⟨_ | _, h⟩
    exacts [.inl h, .inr h]
  · rintro (h | h)
    exacts [⟨_, h⟩, ⟨_, h⟩]

theorem exists_camera (P : Camera → Prop) : (∃ c, P c) ↔ P 0 ∨ P 1 ∨ P 2 ∨ P 3 := by
  constructor
  · rintro ⟨c, h⟩
    match c, h with
    | 0, h => exact .inl h
    | 1, h => exact .inr (.inl h)
    | 2, h => exact .inr (.inr (.inl h))
    | 3, h => exact .inr (.inr (.inr h))
  · rintro (h | h | h | h)
    exacts [⟨_, h⟩, ⟨_, h⟩, ⟨_, h⟩, ⟨_, h⟩]

theorem limitedBy_iff (d : Demand) (p : Priced) (l : Level) : limitedBy d p l = true ↔
    (p.strobe.left.grant < d.strobe.left ∨ p.strobe.right.grant < d.strobe.right) ∨
      (d.enabled.c0 = true ∧ p.illum.c0.grant < d.illum.c0 ∨ d.enabled.c1 = true ∧ p.illum.c1.grant < d.illum.c1 ∨
        d.enabled.c2 = true ∧ p.illum.c2.grant < d.illum.c2 ∨ d.enabled.c3 = true ∧ p.illum.c3.grant < d.illum.c3) ∨
      l.rank < d.level.rank := by
  simp only [limitedBy, Bool.or_eq_true, Bool.and_eq_true, decide_eq_true_eq, or_assoc]

theorem enabled_iff (k : Cam) : k.enabled = true ↔ k.state ≠ .disabled := bne_iff_ne

/-- The limited indication says that some consumer is granted less than its request (R131). -/
theorem computePower_limited_iff (s : State) : (computePower s).power.limited = true ↔
    (∃ e, ((computePower s).power.strobe.get e).grant < (s.disp.eyes.get e).request) ∨
      (∃ c, (s.motion.cams.get c).state ≠ .disabled ∧
        ((computePower s).power.illum.get c).grant < (s.motion.cams.get c).request) ∨
      (computePower s).power.audioGrant.rank < s.audio.requestedLevel.rank := by
  have table : ∃ x fs fi above, (computePower s).power = Power.grant (demand s) x fs fi above s.power := by
    unfold computePower
    split
    exacts [⟨_, _, _, _, rfl⟩, ⟨_, _, _, _, rfl⟩]
  obtain ⟨x, fs, fi, above, table⟩ := table
  rw [table, exists_eye, exists_camera, ← enabled_iff, ← enabled_iff, ← enabled_iff, ← enabled_iff]
  exact limitedBy_iff _ _ _

end Sys2Proof.Machine
end

section
/-! PROOFS. The Power Manager: what a grant computation hands over, and POWER_CONTRACT. -/
namespace Sys2Proof.Machine
open Sys2Proof

/-! ## The grants handed over (R118, R130, R131) -/

/-- The Display Output's blank causes after the POWER condition is judged. -/
def powerJudged (condition : Bool) (d : Display) : Display :=
  { d with
    present := { d.present with power := condition }
    latches := { d.latches with power := d.latches.power || (condition && !d.present.power) } }

/-- The Audio Engine after the granted level is handed to it. -/
def powerHeard (l : Level) (brownout : Bool) (a : Audio) : Audio :=
  { if l = .l0 ∨ brownout = true then silenced .power a else unsilenced .power a with ceiling := l }

theorem powerJudged_absent (d : Display) : powerJudged false d = { d with present := d.present.set .power false } := by
  rw [powerJudged, Bool.false_and, Bool.or_false]
  rfl

theorem powerJudged_already {d : Display} (h : d.present.power = true) : powerJudged true d = d := by
  have present : { d.present with power := true } = d.present := by rw [← h]
  rw [powerJudged, present, h, Bool.not_true, Bool.and_false, Bool.or_false]

theorem powerJudged_newly {d : Display} (h : d.present.power = false) : powerJudged true d =
    { d with present := d.present.set .power true, latches := d.latches.set .power true } := by
  rw [powerJudged, h, Bool.not_false, Bool.and_true, Bool.or_true]
  rfl

theorem silenced_ceiling (c : MuteCause) (l : Level) (a : Audio) :
    silenced c { a with ceiling := l } = { silenced c a with ceiling := l } := by
  by_cases h : a.mute.get c = true <;> simp [silenced, h]

theorem unsilenced_ceiling (c : MuteCause) (l : Level) (a : Audio) :
    unsilenced c { a with ceiling := l } = { unsilenced c a with ceiling := l } := by
  by_cases h : a.mute.get c = true <;> simp [unsilenced, h]

theorem lights_lights (s : State) : lights (lights s) = lights s := lights_of_sound (lights_sound s)

/-- The lights are set once for all that the grants change. -/
theorem lights_setBlank_power (condition : Bool) (f : Audio → Audio) (s : State) :
    lights ((setBlank .power condition s).mapAudio f) = lights { s with
      disp := powerJudged condition s.disp
      audio := f s.audio
      req := withEvent (condition && !s.disp.present.power && !s.disp.latches.any) .displayOutput (.displayBlanked .power)
        s.now s.req } := by
  cases condition with
  | false => rw [powerJudged_absent]; rfl
  | true =>
    cases h : s.disp.present.power with
    | true =>
      have stays : setBlank .power true s = s := if_pos h
      rw [powerJudged_already h, stays]
      rfl
    | false =>
      have absent : s.disp.present.get .power ≠ true := Bool.eq_false_iff.1 h
      have blanks : blank .power s = lights { s with
          disp := { s.disp with
            present := s.disp.present.set .power true
            latches := s.disp.latches.set .power true }
          req := withEvent (!s.disp.latches.any) .displayOutput (.displayBlanked .power) s.now s.req } :=
        (if_neg absent).trans (congrArg lights (raiseIf_eq _ _ _ _))
      rw [powerJudged_newly h, setBlank, if_pos rfl, blanks]
      exact lights_lights { s with
          audio := f s.audio
          disp := { s.disp with
            present := s.disp.present.set .power true
            latches := s.disp.latches.set .power true }
          req := withEvent (!s.disp.latches.any) .displayOutput (.displayBlanked .power) s.now s.req }

theorem powerHeard_eq (l : Level) (brownout : Bool) (a : Audio) :
    (if l == .l0 || brownout then Audio.muteOn .power else Audio.muteOff .power) { a with ceiling := l } =
      powerHeard l brownout a := by
  have cond : (l == .l0 || brownout) = true ↔ l = .l0 ∨ brownout = true := by rw [Bool.or_eq_true, beq_iff_eq]
  rw [powerHeard]
  by_cases h : l = .l0 ∨ brownout = true
  · rw [if_pos (cond.2 h), if_pos h, muteOn_eq, silenced_ceiling]
  · rw [if_neg (mt cond.1 h), if_neg h, muteOff_eq, unsilenced_ceiling]

theorem handGrants_eq (s : State) : handGrants s = lights { s with
    disp := powerJudged (s.power.overContract || s.power.brownout) s.disp
    audio := powerHeard s.power.audioGrant s.power.brownout s.audio
    req := withEvent ((s.power.overContract || s.power.brownout) && !s.disp.present.power && !s.disp.latches.any)
      .displayOutput (.displayBlanked .power) s.now s.req } := by
  rw [← powerHeard_eq]
  exact lights_setBlank_power _
    (fun a => (if s.power.audioGrant == .l0 || s.power.brownout then Audio.muteOn .power else Audio.muteOff .power)
      { a with ceiling := s.power.audioGrant }) s

/-- What the Power Manager holds besides the table and its indications stays. -/
theorem computePower_keeps (s : State) : (computePower s).power.contract = s.power.contract ∧
    (computePower s).power.derate = s.power.derate ∧ (computePower s).power.brownout = s.power.brownout ∧
    (computePower s).power.asleep = s.power.asleep := by
  rw [computePower]
  split <;> exact ⟨rfl, rfl, rfl, rfl⟩

/-- A grant computation with outcome `p`, short of the lights. -/
def beforeLights (p : Power) (s : State) : State := { s with
  power := p
  req := withEvent ((p.overContract || s.power.brownout) && !s.disp.present.power && !s.disp.latches.any)
    .displayOutput (.displayBlanked .power) s.now
    (withEvent (p.limited && !s.power.limited || p.overContract && !s.power.overContract) .powerManager
      (.powerLimited p.fs p.fi p.audioGrant s.power.derate s.available p.overContract) s.now s.req)
  audio := powerHeard p.audioGrant s.power.brownout s.audio
  disp := powerJudged (p.overContract || s.power.brownout) s.disp
  free := if s.available < 0 then s.free + 2 else s.free }

/-- A grant computation is one change of the state, and the lights after it (R128 to R131). -/
theorem computeGrants_eq (s : State) : computeGrants s = lights (beforeLights (computePower s).power s) := by
  obtain ⟨_, derate, brownout, _⟩ := computePower_keeps s
  rw [beforeLights, ← derate, ← brownout, computeGrants, computePower_changes, raiseLimited, raiseIf_eq, handGrants_eq]
  rfl

/-! ## The lighting conditions (R61, R84) -/

theorem causes_any_eq_false_iff (c : Causes) : c.any = false ↔ c = .none := by
  rcases c with ⟨l, p, w, sl, sr, h⟩
  simp only [Causes.any, Causes.none, Bool.or_eq_false_iff, Causes.mk.injEq, and_assoc]

theorem strobeLit_iff (s : State) (e : Eye) : strobeLit s e = true ↔
    s.tl.running = true ∧ s.tl.strobe.get e = .opened ∧ (s.disp.eyes.get e).panel = .on ∧
      (s.disp.eyes.get e).bound.isSome = true ∧ s.shift.latched.get e = true ∧ s.disp.latches = .none ∧
      s.power.brownout = false ∧ 0 < (s.power.strobe.get e).grant := by
  simp only [strobeLit, Bool.and_eq_true, beq_iff_eq, Bool.not_eq_true', decide_eq_true_eq, and_assoc,
    causes_any_eq_false_iff]

theorem illumLit_iff (s : State) (c : Camera) : illumLit s c = true ↔
    s.tl.running = true ∧ s.tl.expose.get c = .opened ∧ (s.motion.cams.get c).state = .opened ∧
      0 < (s.power.illum.get c).grant ∧ s.power.brownout = false ∧ s.motion.darkened = false ∧ s.power.asleep = false := by
  simp only [illumLit, Bool.and_eq_true, beq_iff_eq, Bool.not_eq_true', decide_eq_true_eq, and_assoc]

theorem lightEye_eq {s : State} {brownout : Bool} (hb : s.power.brownout = brownout) (e : Eye) : lightEye s e =
    if s.tl.running = true ∧ s.tl.strobe.get e = .opened ∧ (s.disp.eyes.get e).panel = .on ∧
        (s.disp.eyes.get e).bound.isSome = true ∧ s.shift.latched.get e = true ∧ s.disp.latches = Causes.none ∧
        brownout = false ∧ 0 < (s.power.strobe.get e).grant
      then { s.disp.eyes.get e with drive := (s.power.strobe.get e).grant, lit := true }
      else { s.disp.eyes.get e with drive := 0 } := by
  subst hb
  simp only [lightEye, strobeLit_iff]

theorem lightCam_eq {s : State} {brownout asleep : Bool} (hb : s.power.brownout = brownout) (ha : s.power.asleep = asleep)
    (c : Camera) : lightCam s c =
    if s.tl.running = true ∧ s.tl.expose.get c = .opened ∧ (s.motion.cams.get c).state = .opened ∧
        0 < (s.power.illum.get c).grant ∧ brownout = false ∧ s.motion.darkened = false ∧ asleep = false
      then { s.motion.cams.get c with drive := (s.power.illum.get c).grant }
      else { s.motion.cams.get c with drive := 0 } := by
  subst hb ha
  rw [lightCam]
  split
  next h => rw [if_pos ((illumLit_iff s c).1 h)]
  next h => rw [if_neg (mt (illumLit_iff s c).2 h)]

/-! ## POWER_CONTRACT (R125) -/

theorem powerContract_refused {q : Request} {s : State} (h : (u16 q.body 0).toNat < 500 ∨ 15000 < (u16 q.body 0).toNat) :
    powerContract q s = .refused s .outOfRange := if_pos h

theorem powerContract_taken {q : Request} {s : State} (hl : 500 ≤ (u16 q.body 0).toNat) (hh : (u16 q.body 0).toNat ≤ 15000) :
    powerContract q s = .ok (takeContract (u16 q.body 0).toNat s)
      (.contract (contractReply (takeContract (u16 q.body 0).toNat s))) := if_neg (by omega)

/-- A grant computation moves no fixed load (R126). -/
theorem computeGrants_fixedSum (s : State) : (computeGrants s).fixedSum = s.fixedSum := by
  have panel : ∀ t e, (lightEye t e).panel = (t.disp.eyes.get e).panel := fun t e => by
    rw [lightEye]
    split <;> rfl
  rw [computeGrants_eq]
  simp only [State.fixedSum, State.fixedLoads, lights, panel]
  rfl

theorem computeGrants_contract (s : State) : (computeGrants s).power.contract = s.power.contract := by
  obtain ⟨contract, _⟩ := computePower_keeps s
  rw [computeGrants_power, contract]

theorem computeGrants_available (s : State) : (computeGrants s).available = s.available := by
  rw [State.available, computeGrants_fixedSum, computeGrants_contract, State.available]

theorem contractReply_taken (mw : Nat) (s : State) :
    let t := takeContract mw s
    contractReply t = ⟨mw, (mw : Int) - s.fixedSum, t.power.fs, t.power.fi, t.power.strobe, t.power.illum,
      t.power.audioGrant, t.power.audioCost, t.power.limited, t.power.overContract⟩ := by
  intro t
  have contract : t.power.contract = mw := computeGrants_contract _
  have available : t.available = (mw : Int) - s.fixedSum := computeGrants_available _
  rw [contractReply, contract, available]

theorem takeContract_popIntake (mw : Nat) (s : State) : takeContract mw (popIntake s) = popIntake (takeContract mw s) :=
  computeGrants_popIntake (s.mapPower fun p => { p with contract := mw, overdraw := 0, recovery := 0 })

theorem contractReply_popIntake (s : State) : contractReply (popIntake s) = contractReply s := rfl

theorem exec_powerContract_taken {s : State} (h : Admitted .powerContract s) (hl : 500 ≤ (u16 (asked s).body 0).toNat)
    (hh : (u16 (asked s).body 0).toNat ≤ 15000) :
    let t := takeContract (u16 (asked s).body 0).toNat s
    exec .powerContract s = .next { t with req := answered (asked s) .ok (.contract (contractReply t)) t.req } := by
  refine act_serve_admitted h ((powerContract_taken hl hh).trans ?_)
  rw [takeContract_popIntake, contractReply_popIntake]
  rfl

/-! ## The settled statement (R125 to R131) -/

/-- Settles O44: the first setting in contract by `chooseSetting_spec`, and all it moves by `computeGrants_eq`. -/
theorem contractAndGrants : Obligations.ContractAndGrants := by
  unfold Obligations.ContractAndGrants
  refine ⟨fun l => ?levels, fun s => ?grants, fun s h => ?contract⟩
  case levels => cases l <;> exact ⟨rfl, rfl, rfl⟩
  case grants =>
    intro period strobe illum stopped audio cost d gain level last down lower settings refused t
    have level_eq : (demand s).level = level := levelOf_eq gain
    have total : ∀ x, (price (demand s) x).total = cost x := price_total s
    have lower_eq : lower = if stopped then [] else level.below := if_congr Iff.rfl rfl (by cases level <;> rfl)
    have ladder_eq : ladder d (demand s).level (demand s).stopped = settings :=
      (congrArg (fun l => ladder d l _) level_eq).trans (ladder_stages d rfl lower_eq)
    obtain ⟨_, _, brownout, asleep⟩ := computePower_keeps s
    refine ⟨(computePower s).power, ?refused, ?granted, ?limited, ?handed⟩
    case refused =>
      intro none
      obtain ⟨fs, fi, hs, hi, outcome⟩ := computePower_refused none
      exact ⟨fs, fi, hs, hi, level_eq ▸ Power.grant_none (congrArg State.power outcome)⟩
    case granted =>
      intro some
      obtain ⟨x, earlier, later, split, above, fits, outcome⟩ := computePower_granted some
      exact ⟨x, earlier, later, ladder_eq.symm.trans split, fun y hy => total y ▸ above y hy, total x ▸ fits,
        level_eq ▸ Power.grant_eq (congrArg State.power outcome)⟩
    case limited => exact level_eq ▸ computePower_limited_iff s
    case handed =>
      intro condition newly latches eye cam
      have eyes : ∀ e, lightEye (beforeLights (computePower s).power s) e = eye e := lightEye_eq brownout
      have cams : ∀ c, lightCam (beforeLights (computePower s).power s) c = cam c := lightCam_eq brownout asleep
      refine ⟨computeGrants_sound s, (computeGrants_eq s).trans ?_⟩
      rw [lights, eyes, eyes, cams, cams, cams, cams]
      rfl
  case contract =>
    intro q mw
    refine ⟨fun out => act_serve_admitted h (powerContract_refused out), fun low high => ?_⟩
    intro t held
    exact (exec_powerContract_taken h low high).trans (by rw [contractReply_taken]; rfl)

end Sys2Proof.Machine
end

section
/-! PROOFS. Motion Hub: the cameras' frame-valid edges and exposure windows. -/
namespace Sys2Proof.Machine
open Sys2Proof

/-! ## Exposures in progress (R80) -/

theorem inProgress_eq_some_iff {k : Cam} {x : Exposure} :
    k.inProgress = some x ↔ (k.state = .opened ∨ k.state = .closing) ∧ k.context = some x := by
  unfold Cam.inProgress
  cases k.state <;> simp

theorem inProgress_eq_none_iff {k : Cam} :
    k.inProgress = none ↔ ¬ (k.state = .opened ∨ k.state = .closing) ∨ k.context = none := by
  unfold Cam.inProgress
  cases k.state <;> simp

/-! ## Frame-valid edges (R80, R82) -/

section
variable {s : State} {c : Camera} {x : Exposure}

theorem validRise_starts (hx : (s.motion.cams.get c).inProgress = some x) (hs : x.start = none) :
    validRise c s = s.mapCam c fun k =>
      { k with context := some { x with start := some s.now, drive := k.drive, lateStart := k.state == .closing } } := by
  rw [validRise, hx]
  exact if_pos (by rw [hs]; rfl)

theorem validRise_stray (h : ∀ x, (s.motion.cams.get c).inProgress = some x → x.start ≠ none) :
    validRise c s = strayEdge s := by
  unfold validRise
  split
  next x hx => exact if_neg (by simp [h x hx])
  next => rfl

theorem validFall_ends {t : Tick} (hx : (s.motion.cams.get c).inProgress = some x) (hs : x.start = some t)
    (he : x.stop = none) : validFall c s = { s with
      motion := { s.motion with
        cams := s.motion.cams.set c (Cam.ended { x with stop := some s.now } (s.motion.cams.get c)) }
      link := offered [.exposure ⟨c, x.frame, t, x.trigger, some s.now, x.drive, false, false, false, x.lateStart⟩] s } := by
  have first : (x.start.isSome && x.stop.isNone) = true := by rw [hs, he]; rfl
  have made : makeRecord c { x with stop := some s.now } false false false s = { s with
      link := offered [.exposure ⟨c, x.frame, t, x.trigger, some s.now, x.drive, false, false, false, x.lateStart⟩] s } := by
    rw [makeRecord, offer_eq, hs]
    rfl
  rw [validFall, hx]
  exact (if_pos first).trans (congrArg (State.mapCam c (Cam.ended { x with stop := some s.now })) made)

theorem validFall_stray
    (h : ∀ x, (s.motion.cams.get c).inProgress = some x → x.start = none ∨ x.stop ≠ none) :
    validFall c s = strayEdge s := by
  unfold validFall
  split
  next x hx => exact if_neg (by rcases h x hx with h | h <;> simp [h])
  next => rfl

end

/-- Settles O39: a first edge by the exposure in progress, and a stray where there is none left to start or end. -/
theorem cameraEdges : Obligations.CameraEdges := by
  unfold Obligations.CameraEdges
  intro s c hp k active channel stray
  have none_active : ∀ {x}, k.inProgress = some x → ¬ (¬ active ∨ k.context = none) := fun hx h => by
    rw [inProgress_eq_none_iff.2 h] at hx
    cases hx
  refine ⟨fun x ha hx hs => act_eq hp rfl (validRise_starts (inProgress_eq_some_iff.2 ⟨ha, hx⟩) hs),
    fun x t ha hx hs he => act_eq hp rfl (validFall_ends (inProgress_eq_some_iff.2 ⟨ha, hx⟩) hs he), fun h => ?_, fun h => ?_⟩
  · refine act_eq hp rfl (validRise_stray fun x hx => ?_)
    rcases or_assoc.2 h with h | ⟨y, t, hy, hs⟩
    · exact absurd h (none_active hx)
    · cases hy.symm.trans (inProgress_eq_some_iff.1 hx).2
      simp [hs]
  · refine act_eq hp rfl (validFall_stray fun x hx => ?_)
    rcases or_assoc.2 h with h | ⟨y, hy, hs⟩
    · exact absurd h (none_active hx)
    · cases hy.symm.trans (inProgress_eq_some_iff.1 hx).2
      exact hs.imp_right fun ⟨t, ht⟩ => by simp [ht]

/-! ## Exposure windows (R79, R81, R84) -/

theorem PerCam_mk_eq {α : Type} {f : Camera → α} {p : PerCam α} (h : ∀ c, f c = p.get c) :
    (⟨f 0, f 1, f 2, f 3⟩ : PerCam α) = p := by
  rw [h, h, h, h]
  rfl

/-- One camera's window phase and channel replaced; nothing else is. -/
def withChannel (c : Camera) (p : WindowPhase) (k : Cam) (s : State) : State := { s with
  tl := { s.tl with expose := s.tl.expose.set c p }
  motion := { s.motion with cams := s.motion.cams.set c k } }

/-- Where the lights were right before one camera's phase and channel moved, only that camera's illuminator can change. -/
theorem lights_withChannel {s : State} (hs : LightsSound s) (c : Camera) (p : WindowPhase) (k : Cam) :
    lights (withChannel c p k s) = withChannel c p { k with
      drive := if illumLit (withChannel c p k s) c then (s.power.illum.get c).grant else 0 } s := by
  let t := withChannel c p k s
  have eyes : (⟨lightEye t .left, lightEye t .right⟩ : PerEye EyeDisplay) = s.disp.eyes :=
    congrArg₂ PerEye.mk (lightEye_of_sound hs .left) (lightEye_of_sound hs .right)
  have cam : ∀ c', lightCam t c' = (s.motion.cams.set c
      { k with drive := if illumLit t c then (s.power.illum.get c).grant else 0 }).get c' := fun c' => by
    by_cases he : c' = c
    · subst he
      have channel : t.motion.cams.get c' = k := PerCam_get_set_same _ c' k
      rw [PerCam_get_set_same, lightCam, channel]
      rfl
    · have phase : t.tl.expose.get c' = s.tl.expose.get c' := PerCam_get_set_other _ _ _ _ he
      have channel : t.motion.cams.get c' = s.motion.cams.get c' := PerCam_get_set_other _ _ _ _ he
      have lit : illumLit t c' = illumLit s c' := by
        rw [illumLit, phase, channel]
        rfl
      rw [PerCam_get_set_other _ _ _ _ he, lightCam, lit, channel, show t.power = s.power from rfl, ← hs.2 c']
  rw [lights, eyes, PerCam_mk_eq cam]
  rfl

/-- The light of an open window's open channel, by what R84 asks besides (R79, R84). -/
theorem illumGrant_opened {s : State} {c : Camera} {k : Cam} (hr : s.tl.running = true) (hk : k.state = .opened) :
    (if illumLit (withChannel c .opened k s) c then (s.power.illum.get c).grant else 0) =
      if s.power.brownout = false ∧ s.motion.darkened = false ∧ s.power.asleep = false then (s.power.illum.get c).grant
      else 0 := by
  have phase : (withChannel c .opened k s).tl.expose.get c = .opened := PerCam_get_set_same _ c _
  have channel : (withChannel c .opened k s).motion.cams.get c = k := PerCam_get_set_same _ c k
  have lit : illumLit (withChannel c .opened k s) c = true ↔ 0 < (s.power.illum.get c).grant ∧
      s.power.brownout = false ∧ s.motion.darkened = false ∧ s.power.asleep = false := by
    rw [illumLit_iff, phase, channel]
    simp only [hk, true_and]
    exact and_iff_right hr
  simp only [lit]
  by_cases hg : 0 < (s.power.illum.get c).grant
  · simp only [hg, true_and]
  · rw [Nat.eq_zero_of_not_pos hg, ite_self, ite_self]

theorem illumLit_closed (c : Camera) {p : WindowPhase} {k : Cam} (s : State) (h : p ≠ .opened ∨ k.state ≠ .opened) :
    illumLit (withChannel c p k s) c = false := by
  rw [Bool.eq_false_iff, Ne, illumLit_iff]
  rintro ⟨-, phase, channel, -⟩
  exact h.elim (· ((PerCam_get_set_same _ c p).symm.trans phase))
    (· ((congrArg Cam.state (PerCam_get_set_same s.motion.cams c k)).symm.trans channel))

/-- A channel that is not open, or whose window is not, is dark (R84). -/
theorem lights_withChannel_dark {s : State} (hs : LightsSound s) {c : Camera} {p : WindowPhase} {k : Cam}
    (h : p ≠ .opened ∨ k.state ≠ .opened) :
    lights (withChannel c p k s) = withChannel c p { k with drive := 0 } s := by
  rw [lights_withChannel hs, illumLit_closed c s h]
  rfl

theorem drive_of_notOpen {s : State} (hs : LightsSound s) {c : Camera} (h : (s.motion.cams.get c).state ≠ .opened) :
    (s.motion.cams.get c).drive = 0 := by
  have dark : illumLit s c = false := by simp [illumLit, h]
  simpa [dark] using hs.2 c

/-- A channel that is not open is dark already, so that only the phase of its window moves. -/
theorem withChannel_notOpen {s : State} (hs : LightsSound s) {c : Camera} (p : WindowPhase)
    (h : (s.motion.cams.get c).state ≠ .opened) : withChannel c p { s.motion.cams.get c with drive := 0 } s =
      { s with tl := { s.tl with expose := s.tl.expose.set c p } } := by
  have dark : ({ s.motion.cams.get c with drive := 0 } : Cam) = s.motion.cams.get c := by
    rw [← drive_of_notOpen hs h]
  rw [dark, withChannel, PerCam_set_get]

/-- The channel open, its lamp following R84, with the context of an exposure triggered now (R79). -/
theorem lights_openChannel {s : State} (hs : LightsSound s) (c : Camera) (hr : s.tl.running = true) :
    lights (openChannel c (s.mapTl fun t => { t with expose := t.expose.set c .opened })) =
      withChannel c .opened { s.motion.cams.get c with
        state := .opened
        context := some ⟨s.tl.frame, s.now, none, none, 0, false, false, 0⟩
        drive :=
          if s.power.brownout = false ∧ s.motion.darkened = false ∧ s.power.asleep = false then
            (s.power.illum.get c).grant
          else 0 } s := by
  refine (lights_withChannel hs c .opened { s.motion.cams.get c with
    state := .opened, context := some ⟨s.tl.frame, s.now, none, none, 0, false, false, 0⟩ }).trans ?_
  rw [illumGrant_opened hr rfl]

theorem deadlineClosed_sound {s : State} (hs : LightsSound s) {c : Camera} {x : Exposure}
    (hk : (s.motion.cams.get c).state = .closing) (hx : (s.motion.cams.get c).context = some x) :
    LightsSound (deadlineClosed c x s) := by
  rw [← closeByDeadline_eq c x s hx]
  exact .via (lightView_closeByDeadline s c hk) hs

section
variable {s : State} {c : Camera}

theorem openExposure_idle (h : (s.motion.cams.get c).state = .idle) :
    openExposure c s = lights (openChannel c (s.mapTl fun t => { t with expose := t.expose.set c .opened })) := by
  simp only [openExposure, mapTl_motion, h]

theorem openExposure_closing (h : (s.motion.cams.get c).state = .closing) : openExposure c s =
    lights (openChannel c (closeByDeadline c (s.mapTl fun t => { t with expose := t.expose.set c .opened }))) := by
  simp only [openExposure, mapTl_motion, h]

theorem openExposure_disabled (h : (s.motion.cams.get c).state = .disabled) :
    openExposure c s = lights (s.mapTl fun t => { t with expose := t.expose.set c .opened }) := by
  simp only [openExposure, mapTl_motion, h]

end

theorem Cam.close_notOpen (now : Tick) {k : Cam} (h : k.state ≠ .opened) : k.close now = k := by
  unfold Cam.close
  split
  next hk _ => exact absurd hk h
  next hk _ => exact absurd hk h
  next => rfl

/-- Settles O38: each window end by the one channel it moves, the lights being right before. -/
theorem exposureWindows : Obligations.ExposureWindows := by
  unfold Obligations.ExposureWindows
  intro s c hp hs k w phase lamp opened closed
  refine ⟨fun hr on before start => ?opens, fun hr isOpen stop => ?closes, fun x hk hx hd => ?deadline⟩
  case opens =>
    have due : exposeOpenDue s c = true := (windowOpenDue_iff _ _ _).2 ⟨hr, on, before, start⟩
    refine ⟨fun hk => act_eq hp due ?_, fun x hk hx => act_eq hp due ?_, fun hk => act_eq hp due ?_⟩
    · exact (openExposure_idle hk).trans (lights_openChannel hs c hr)
    · have first : closeByDeadline c (s.mapTl fun t => { t with expose := t.expose.set c .opened }) =
          (deadlineClosed c x s).mapTl fun t => { t with expose := t.expose.set c .opened } := closeByDeadline_eq c x _ hx
      have channel : (deadlineClosed c x s).motion.cams.get c = { k with state := .idle, context := none } :=
        PerCam_get_set_same _ c _
      rw [openExposure_closing hk, first, lights_openChannel (deadlineClosed_sound hs hk hx) c hr, channel]
      rfl
    · have shut : k.state ≠ .opened := by rw [hk]; decide
      have same : withChannel c .opened k s = s.mapTl fun t => { t with expose := t.expose.set c .opened } := by
        rw [withChannel, PerCam_set_get]
        rfl
      rw [openExposure_disabled hk, ← same, lights_withChannel_dark hs (.inr shut), withChannel_notOpen hs .opened shut]
  case closes =>
    have due : exposeCloseDue s c = true := (windowCloseDue_iff _ _ _).2 ⟨hr, isOpen, stop⟩
    have outcome : ∀ k', Cam.close s.now k = k' →
        exec (.exposureWindowClose c) s = .next (closed k') := fun k' hk' =>
      act_eq hp due (hk' ▸ lights_withChannel_dark hs (.inl (by decide)))
    refine ⟨fun x hk hx hrec => outcome _ ?_, fun x hk hx hrec => outcome _ ?_, fun hk => ?_⟩
    · rw [Cam.close, hk, hx]
      exact if_pos hrec
    · rw [Cam.close, hk, hx]
      exact if_neg (by simp [hrec])
    · have stays : Cam.close s.now k = k := Cam.close_notOpen s.now hk
      rw [outcome k stays]
      exact congrArg Host.Outcome.next (withChannel_notOpen hs .closed hk)
  case deadline => exact act_eq hp ((deadlineDue_iff s c).2 ⟨hk, x, hx, hd⟩) (closeByDeadline_eq c x s hx)

end Sys2Proof.Machine
end

section
/-! PROOFS. Motion Hub: the configurations of the IMU port and of the cameras. -/
namespace Sys2Proof.Machine
open Sys2Proof

/-! ## MOTION_CONFIG (R67, R68) -/

theorem clampBias_eq (b : Int) : clampBias b = max (-50000) (min 50000 b) := by
  unfold clampBias clampInt
  split
  · omega
  · split <;> omega

/-- The checks of R67 in their order. -/
theorem motionConfigFault_eq (c : MotionConfig) : motionConfigFault c =
    if c.gyroRange ∉ [250, 500, 1000, 2000] then some .gyroRange
    else if c.accelRange ∉ [2, 4, 8, 16] then some .accelRange
    else if c.rate ∉ [500, 1000, 2000] then some .sampleRate
    else if ¬ ([c.axis.yaw, c.axis.pitch, c.axis.roll].Nodup ∧ c.axis.yaw ≤ 2 ∧ c.axis.pitch ≤ 2 ∧ c.axis.roll ≤ 2) then
      some .axisMap
    else if ¬ (1 ≤ c.decimation ∧ c.decimation ≤ 8) then some .decimation
    else none := by
  have axes : (2 < c.axis.yaw ∨ 2 < c.axis.pitch ∨ 2 < c.axis.roll ∨ c.axis.yaw = c.axis.pitch ∨
      c.axis.yaw = c.axis.roll ∨ c.axis.pitch = c.axis.roll) ↔
      ¬ ([c.axis.yaw, c.axis.pitch, c.axis.roll].Nodup ∧ c.axis.yaw ≤ 2 ∧ c.axis.pitch ≤ 2 ∧ c.axis.roll ≤ 2) := by
    simp only [List.nodup_cons, List.mem_cons, List.not_mem_nil, or_false, List.nodup_nil, not_false_eq_true, and_true]
    omega
  have decimation : (c.decimation < 1 ∨ 8 < c.decimation) ↔ ¬ (1 ≤ c.decimation ∧ c.decimation ≤ 8) := by omega
  unfold motionConfigFault
  simp only [axes, decimation, List.mem_cons, List.not_mem_nil, or_false]

section
variable {s : State} {q : Request}

theorem motionConfig_starting (hp : s.motion.port = .starting) : motionConfig q s = ⟨s, some (.busy, .empty)⟩ := if_pos hp

theorem motionConfig_fault {f : Field} (hp : s.motion.port ≠ .starting)
    (hf : motionConfigFault (parseMotionConfig q.body) = some f) :
    motionConfig q s = ⟨s, some (.outOfRange, .field f)⟩ := by
  rw [motionConfig, if_neg hp, hf]

/-- A configuration taken restarts the port, which adds a load unless it was RUNNING (R68, R126). -/
theorem motionConfig_taken (hp : s.motion.port ≠ .starting)
    (hf : motionConfigFault (parseMotionConfig q.body) = none) : motionConfig q s =
      ⟨computeIf (s.motion.port != .running) (s.mapMotion (Motion.restart (clampMotionConfig (parseMotionConfig q.body)))),
        none⟩ := by
  have changed : (!s.motion.port.powered) = (s.motion.port != .running) := by
    rw [Port.powered, beq_eq_false_iff_ne.2 hp]
    rfl
  rw [motionConfig, if_neg hp, hf, changed]

end

theorem computeIf_addEntry (b : Bool) (q : Request) (w : Wait) (s : State) :
    computeIf b (addEntry q w s) = addEntry q w (computeIf b s) :=
  computeIf_mapReq (addEntry_spares q w) b s

theorem isMotion_iff (w : Wait) : w.isMotion = true ↔ ∃ f, w = .motion f := by
  cases w <;> simp [Wait.isMotion]

/-! ## CAMERA_CONFIG (R78, R82) -/

theorem cameraOf_val (c : Camera) : cameraOf c.val = some c := by
  match c with
  | 0 | 1 | 2 | 3 => rfl

theorem cameraOf_bad {n : Nat} (h : 3 < n) : cameraOf n = none := by
  match n with
  | n + 4 => rfl

theorem PerCam_set_set {α : Type} (p : PerCam α) (c : Camera) (x y : α) : (p.set c x).set c y = p.set c y := by
  match c with
  | 0 | 1 | 2 | 3 => rfl

/-- A camera's drive request replaced. -/
def requested (c : Camera) (n : Nat) (s : State) : State := s.mapCam c fun k => { k with request := n }

theorem requested_get (c : Camera) (n : Nat) (s : State) :
    (requested c n s).motion.cams.get c = { s.motion.cams.get c with request := n } := PerCam_get_set_same _ c _

theorem requested_set (c : Camera) (n : Nat) (s : State) (k : Cam) :
    (requested c n s).motion.cams.set c k = s.motion.cams.set c k := PerCam_set_set _ c _ k

theorem requested_sound {s : State} (hs : LightsSound s) (c : Camera) (n : Nat) : LightsSound (requested c n s) :=
  .via (lightView_mapCam s c rfl) hs

theorem earlyRecord_requested (c : Camera) (n : Nat) (s : State) :
    earlyRecord (requested c n s) c = earlyRecord s c := by
  unfold earlyRecord
  rw [requested_get]

/-- Where the lights were right, a channel that does not open is left dark. -/
theorem lights_setCam {s : State} (hs : LightsSound s) {c : Camera} {k : Cam} (hk : k.state ≠ .opened) :
    lights { s with motion := { s.motion with cams := s.motion.cams.set c k } } =
      { s with motion := { s.motion with cams := s.motion.cams.set c { k with drive := 0 } } } := by
  have channel : ∀ k', withChannel c (s.tl.expose.get c) k' s =
      { s with motion := { s.motion with cams := s.motion.cams.set c k' } } := fun k' => by
    rw [withChannel, PerCam_set_get]
  rw [← channel, ← channel]
  exact lights_withChannel_dark hs (.inr hk)

section
variable {s : State} {c : Camera}

theorem enableCamera_same {on : Bool} (h : on = (s.motion.cams.get c).enabled) : enableCamera c on s = s := if_pos h

/-- Enabling a camera leaves its channel IDLE and computes the grants (R78, R128). -/
theorem enableCamera_on (hs : LightsSound s) (h : (s.motion.cams.get c).state = .disabled) : enableCamera c true s =
    computeGrants { s with motion := { s.motion with
      cams := s.motion.cams.set c { s.motion.cams.get c with state := .idle, context := none } } } := by
  have dark := drive_of_notOpen hs (c := c) (by rw [h]; decide)
  have lit : lights (setChannel c .idle s) = { s with motion := { s.motion with
      cams := s.motion.cams.set c { s.motion.cams.get c with state := .idle, context := none } } } := by
    refine (lights_setCam hs (show Channel.idle ≠ .opened by decide)).trans ?_
    rw [← dark]
  rw [enableCamera, if_neg (by rw [Cam.enabled, h]; decide), if_pos rfl, lit]

/-- Disabling a camera closes an exposure in progress early and computes the grants (R78, R82, R128). -/
theorem enableCamera_off (hs : LightsSound s) (h : (s.motion.cams.get c).state ≠ .disabled) : enableCamera c false s =
    computeGrants { s with
      motion := { s.motion with
        cams := s.motion.cams.set c { s.motion.cams.get c with state := .disabled, context := none, drive := 0 } }
      link := offered (earlyRecord s c).toList s } := by
  have told : LightsSound { s with link := offered (earlyRecord s c).toList s } := .via rfl hs
  have closed : closeEarly c .disabled s = { s with
      motion := { s.motion with
        cams := s.motion.cams.set c { s.motion.cams.get c with state := .disabled, context := none } }
      link := offered (earlyRecord s c).toList s } := by
    unfold closeEarly
    cases hk : (s.motion.cams.get c).state with
    | disabled => exact absurd hk h
    | idle =>
      rw [earlyRecord_eq_none (by simp [hk]) (by simp [hk]), Option.toList, offered_nil]
      rfl
    | opened =>
      rw [recordEarly_eq (.inl hk)]
      rfl
    | closing =>
      rw [recordEarly_eq (.inr hk)]
      rfl
  rw [enableCamera, if_neg (by simp [Cam.enabled, h]), closed]
  exact congrArg computeGrants (lights_setCam told (show Channel.disabled ≠ .opened by decide))

end

theorem computeGrants_enabled (s : State) (c : Camera) :
    ((computeGrants s).motion.cams.get c).enabled = (s.motion.cams.get c).enabled := by
  rw [computeGrants_eq]
  match c with
  | 0 | 1 | 2 | 3 => rfl

theorem computeGrants_request (s : State) (c : Camera) :
    ((computeGrants s).motion.cams.get c).request = (s.motion.cams.get c).request := by
  rw [computeGrants_eq]
  match c with
  | 0 | 1 | 2 | 3 => rfl

/-- A CAMERA_CONFIG of a camera that exists, by what the change of its enable leaves (R78). -/
theorem exec_cameraConfig {s t : State} (h : Admitted .cameraConfig s) {c : Camera}
    (hc : (byteAt (asked s).body 0).toNat = c.val) {on : Bool} (hon : switchOn (byteAt (asked s).body 1) = on) {n : Nat}
    (hn : (u16 (asked s).body 2).toNat = n) (ht : enableCamera c on (requested c (min n 1023) (popIntake s)) = popIntake t)
    (enabled : (t.motion.cams.get c).enabled = on) (request : (t.motion.cams.get c).request = min n 1023) :
    exec .cameraConfig s =
      .next { t with req := answered (asked s) .ok (.camera on (min n 1023) (decide (1023 < n))) t.req } := by
  refine act_serve_admitted (t := t) h ?_
  have bne : (clampCode n != n) = decide (1023 < n) := clampNat_zero_bne 1023 n
  rw [cameraConfig, hc, cameraOf_val]
  dsimp only
  rw [hn, hon, bne, clampCode_eq, show (popIntake s).mapCam c (fun k => { k with request := min n 1023 }) =
    requested c (min n 1023) (popIntake s) from rfl, ht, popIntake_motion, enabled, request]
  rfl

/-- Settles O40: MOTION_CONFIG by the checks of R67, CAMERA_CONFIG by what `enableCamera` leaves. -/
theorem motionAndCameraConfig : Obligations.MotionAndCameraConfig := by
  unfold Obligations.MotionAndCameraConfig
  refine ⟨fun s => ?motion, fun s h hs => ?camera⟩
  case motion =>
    intro q byte switch c gyro accel rate axes decimation bias clamped
    have fault : motionConfigFault c = if ¬ gyro then some .gyroRange else if ¬ accel then some .accelRange
      else if ¬ rate then some .sampleRate else if ¬ axes then some .axisMap
      else if ¬ decimation then some .decimation else none := motionConfigFault_eq c
    constructor
    · intro h
      have answers : ∀ {st b}, motionConfig q (addEntry q (motionWait q) (popIntake s)) =
          ⟨addEntry q (motionWait q) (popIntake s), some (st, b)⟩ →
          exec .motionConfig s = .next { s with req := answered q st b s.req } :=
        fun ho => act_serveHeld_answered (t := s) h rfl ho
      refine ⟨fun hp => answers (motionConfig_starting hp), ?_, ?_⟩
      · intro hp names
        have named : ∀ f, motionConfigFault c = some f → names f := fun f hf => answers (motionConfig_fault hp hf)
        exact ⟨fun hg => named _ (by simp [fault, hg]), fun hg ha => named _ (by simp [fault, hg, ha]),
          fun hg ha hr => named _ (by simp [fault, hg, ha, hr]),
          fun hg ha hr hx => named _ (by simp [fault, hg, ha, hr, hx]),
          fun hg ha hr hx hd => named _ (by simp [fault, hg, ha, hr, hx, hd])⟩
      · intro hp hg ha hr hx hd taken t
        have good : motionConfigFault c = none := by simp [fault, hg, ha, hr, hx, hd]
        have config : clampMotionConfig c = { c with bias := ⟨bias c.bias.yaw, bias c.bias.pitch, bias c.bias.roll⟩ } := by
          simp only [clampMotionConfig, clampBias_eq, bias]
        have flags : motionWait q = .motion clamped := by
          simp only [motionWait, biasClamped, clampBias_eq, clamped, bias, c]
          rfl
        have restarted : computeIf (s.motion.port != .running) (s.mapMotion (Motion.restart (clampMotionConfig c))) = t := by
          rw [config]
          simp only [computeIf, bne_iff_ne, ite_not]
          rfl
        rw [← flags]
        refine act_serveHeld_waiting h
          ((motionConfig_taken (s := addEntry q (motionWait q) (popIntake s)) hp good).trans ?_)
        rw [← restarted, ← computeIf_popIntake, ← computeIf_addEntry]
        rfl
    · intro hp hst hz ht body
      have bodies : Entry.motionBody s.motion.config = body := funext fun x => by
        obtain ⟨_, _, _, _, _, _, w⟩ := x
        cases w <;> rfl
      refine ⟨_, finishWaiting_ended Wait.isMotion _ (fun x => isMotion_iff x.wait) .ok body s.req ht.2.1, ?_⟩
      refine act_eq hp ((startDue_iff s).2 ⟨hst, hz⟩) ?_
      rw [← bodies]
      rfl
  case camera =>
    intro q on given
    constructor
    · intro bad
      refine act_serve_admitted (t := s) h ?_
      rw [cameraConfig, cameraOf_bad bad]
      rfl
    · intro c hc k replied channel
      have sound : LightsSound (requested c (min given 1023) (popIntake s)) := requested_sound (.via rfl hs) c _
      have held : (requested c (min given 1023) (popIntake s)).motion.cams.get c = k := requested_get c _ (popIntake s)
      have switched : switchOn (byteAt q.body 1) = decide on := by
        rw [Bool.eq_iff_iff, decide_eq_true_iff, switchOn, bne_iff_ne]
      have taken := fun {t : State} => exec_cameraConfig (t := t) h hc switched (n := given) rfl
      have here : ∀ x, (channel x).motion.cams.get c = x := PerCam_get_set_same _ c
      refine ⟨fun same => ?_, fun hy hk => ?_, fun hn hk => ?_⟩
      · have enabled : decide on = k.enabled := by
          rw [Bool.eq_iff_iff, decide_eq_true_iff, same, Cam.enabled, bne_iff_ne]
        refine taken (t := channel k) ?_ (by rw [here, enabled]) (by rw [here])
        exact enableCamera_same (by rw [held, enabled])
      · refine taken ?_ ((computeGrants_enabled _ c).trans ((congrArg Cam.enabled (here _)).trans (decide_eq_true hy).symm))
          ((computeGrants_request _ c).trans (congrArg Cam.request (here _)))
        rw [decide_eq_true hy, enableCamera_on sound (by rw [held, hk]), held, requested_set, ← computeGrants_popIntake]
        rfl
      · refine taken ?_ ((computeGrants_enabled _ c).trans ((congrArg Cam.enabled (here _)).trans (decide_eq_false hn).symm))
          ((computeGrants_request _ c).trans (congrArg Cam.request (here _)))
        rw [decide_eq_false hn, enableCamera_off sound (by rwa [held]), held, requested_set, earlyRecord_requested,
          ← computeGrants_popIntake]
        rfl

end Sys2Proof.Machine
end

section
/-! PROOFS. Motion Hub: the IMU port's reads. -/
namespace Sys2Proof.Machine
open Sys2Proof

/-- A command whose effect leaves the state as it is changes nothing, due or not. -/
theorem act_still {due : Bool} {f : State → State} {s : State} (h : f s = s) : act due f s = .next s := by
  rw [act, h, ite_self]

/-! ## Data-ready edges (R70; log 41) -/

section
variable {s : State}

theorem dataReady_ignored (h : s.motion.port ≠ .running) : dataReady s = s := if_neg h

theorem dataReady_again (h : s.clock.edgeDone = true) : dataReady s = s := by
  rw [dataReady, captureEdge_again h, ite_self]

theorem dataReady_first (hp : s.motion.port = .running) (h : s.clock.edgeDone = false) :
    dataReady s = handleEdge (s.mapClock fun c => { c with edgeDone := true }) := by
  rw [dataReady, if_pos hp, captureEdge_first h]

theorem handleEdge_begins (hr : s.motion.read = none) :
    handleEdge s = s.mapMotion fun m => { m with read := some ⟨s.now, s.now⟩ } := by
  rw [handleEdge, hr]
  rfl

theorem handleEdge_pending (hr : s.motion.read.isSome = true) (he : s.motion.edge = none) :
    handleEdge s = s.mapMotion fun m => { m with edge := some s.now } := by
  obtain ⟨r, hr⟩ := Option.isSome_iff_exists.1 hr
  rw [handleEdge, hr, he]

theorem handleEdge_missed (hr : s.motion.read.isSome = true) (he : s.motion.edge.isSome = true) :
    handleEdge s = s.mapMotion fun m =>
      { m with missed := min 65535 (m.missed + 1), edgesMissed := m.edgesMissed + 1 } := by
  obtain ⟨r, hr⟩ := Option.isSome_iff_exists.1 hr
  obtain ⟨t, he⟩ := Option.isSome_iff_exists.1 he
  simp only [handleEdge, hr, he, bump_eq_min]

end

/-! ## Failed reads (R71, R72) -/

/-- The Motion Hub after a failed read is counted. -/
def Motion.countFailure (m : Motion) : Motion :=
  { m with failures := min 8 (m.failures + 1), readFailures := m.readFailures + 1 }

theorem failureReached_iff (s : State) : failureReached s = true ↔ s.motion.port = .running ∧ 8 ≤ s.motion.failures := by
  simp only [failureReached, Bool.and_eq_true, beq_iff_eq, decide_eq_true_eq]

/-- A read that fails in RUNNING: at the eighth failure in a row the port is FAILED with the grants computed, before it a
pending edge begins its read (R71, R72). -/
theorem failRead_eq (cause : ReadCause) {s : State} (hp : s.motion.port = .running) : failRead cause s =
    if min 8 (s.motion.failures + 1) = 8 then
      computeGrants { s with
        motion := { s.motion.countFailure with port := .failed, read := none, edge := none }
        req := withEvent true .motionHub (.imuFault cause (min 8 (s.motion.failures + 1)) .failed) s.now s.req }
    else { s with
      motion := afterRead s.now s.motion.countFailure
      req := withEvent true .motionHub (.imuFault cause (min 8 (s.motion.failures + 1)) .running) s.now s.req } := by
  let t := s.mapMotion fun m => { m.countFailure with read := none }
  have counted : failRead cause s = if failureReached t then
        failPort (raise .motionHub (.imuFault cause (min 8 (s.motion.failures + 1)) (portAfter t)) t)
      else nextRead (raise .motionHub (.imuFault cause (min 8 (s.motion.failures + 1)) (portAfter t)) t) := by
    simp only [failRead, bump_eq_min]
    rfl
  have reached : failureReached t = true ↔ min 8 (s.motion.failures + 1) = 8 :=
    (failureReached_iff t).trans ((and_iff_right hp).trans (by
      show 8 ≤ min 8 (s.motion.failures + 1) ↔ _
      omega))
  rw [counted]
  by_cases h : min 8 (s.motion.failures + 1) = 8
  · have port : portAfter t = .failed := if_pos (reached.2 h)
    rw [if_pos (reached.2 h), if_pos h, port]
    rfl
  · have port : portAfter t = .running := (if_neg (mt reached.1 h)).trans hp
    rw [if_neg (mt reached.1 h), if_neg h, port, nextRead_eq (by exact hp) rfl]
    rfl

/-! ## Samples stored and due (R73, R74, R76, R77) -/

theorem session_iff (s : State) : s.session = true ↔ s.link.state = .up ∨ s.link.state = .hold := by
  simp only [State.session, Bool.or_eq_true, beq_iff_eq]

/-- The newest sample is reported while reporting is on; the missed edges count from 0 again where its record is made. -/
theorem sensorIsDue_eq {s : State} {x : Sample} (hx : s.motion.ring.getLast? = some x) : sensorIsDue s = { s with
    motion := { s.motion with
      decimation := 0
      missed := if s.motion.config.reporting = true ∧ (s.link.state = .up ∨ s.link.state = .hold) then 0
        else s.motion.missed }
    link := offered (if s.motion.config.reporting = true then [.sensor ⟨x, s.motion.missed⟩] else []) s } := by
  have start : sensorIsDue s = if (s.motion.config.reporting && s.session) = true then
        (offer (.sensor ⟨x, s.motion.missed⟩) (s.mapMotion fun m => { m with decimation := 0 })).mapMotion fun m =>
          { m with missed := 0 }
      else s.mapMotion fun m => { m with decimation := 0 } := by
    rw [sensorIsDue, hx]
  simp only [start, Bool.and_eq_true, session_iff]
  by_cases hr : s.motion.config.reporting = true
  · by_cases hs : s.link.state = .up ∨ s.link.state = .hold
    · simp only [hr, hs, and_self, if_true, offer_eq]
      rfl
    · have silent : offered [.sensor ⟨x, s.motion.missed⟩] s = s.link := if_neg hs
      simp only [hr, hs, and_false, if_false, if_true, silent]
      rfl
  · simp only [hr, Bool.false_eq_true, false_and, if_false, offered_nil]
    rfl

/-- The state after a sample joins the ring: one that is due is reported while reporting is on (R74, R76, R77). -/
def afterSample (x : Sample) (s : State) : State :=
  let due := decide (s.motion.config.decimation ≤ s.motion.decimation + 1)
  let sent := due && s.motion.config.reporting
  { s with
    motion := { s.motion with
      stored := s.motion.stored + 1
      ring := (if s.motion.ring.length < 64 then s.motion.ring else s.motion.ring.drop 1) ++ [x]
      decimation := if due then 0 else s.motion.decimation + 1
      missed := if sent ∧ (s.link.state = .up ∨ s.link.state = .hold) then 0 else s.motion.missed }
    link := offered (if sent then [.sensor ⟨x, s.motion.missed⟩] else []) s }

theorem storeSample_eq (x : Sample) (s : State) : storeSample x s = afterSample x s := by
  let t := s.mapMotion fun m =>
    { m with ring := pushRing x m.ring, stored := m.stored + 1, decimation := m.decimation + 1 }
  have newest : t.motion.ring.getLast? = some x := List.getLast?_concat
  have start : storeSample x s =
    if decide (s.motion.config.decimation ≤ s.motion.decimation + 1) then sensorIsDue t else t := rfl
  rw [start, afterSample]
  cases decide (s.motion.config.decimation ≤ s.motion.decimation + 1) with
  | true =>
    rw [if_pos rfl, sensorIsDue_eq newest]
    rfl
  | false =>
    simp only [Bool.false_and, Bool.false_eq_true, false_and, if_false, offered_nil]
    rfl

/-- A read that succeeds in RUNNING stores its sample, and a pending edge begins its read (R71 to R74). -/
theorem succeedRead_eq (r : ReadInFlight) (values : List (BitVec 16)) {s : State} (hp : s.motion.port = .running) :
    succeedRead r values s =
      (afterSample (convert s.motion.config r.edge values) (s.mapMotion fun m => { m with failures := 0 })).mapMotion
        (afterRead s.now) := by
  have start : succeedRead r values s = nextRead (storeSample (convert s.motion.config r.edge values)
    (s.mapMotion fun m => { m with read := none, failures := 0 })) := rfl
  rw [start, storeSample_eq, nextRead_eq (by exact hp) rfl]
  rfl

/-! ## Answers to a read (R71; logs 26, 51) -/

section
variable {s : State} {r : ReadInFlight} {began : Tick} {a : ImuAnswer}

theorem wellFormedAnswer_iff (a : ImuAnswer) : wellFormedAnswer a = true ↔ a.fresh = true ∧ 7 ≤ a.values.length := by
  simp only [wellFormedAnswer, Bool.and_eq_true, decide_eq_true_eq]

theorem readAnswer_other (h : ∀ r, s.motion.read = some r → r.began ≠ began) : readAnswer began a s = s := by
  unfold readAnswer
  split
  next r hr => exact if_neg (h r hr)
  next => rfl

theorem readAnswer_inFlight (hr : s.motion.read = some r) : readAnswer r.began a s =
    if wellFormedAnswer a then succeedRead r a.values s else failRead .malformed s := by
  rw [readAnswer, hr]
  exact if_pos rfl

end

/-- Settles O41: edges by what `handleEdge` finds, reads by `succeedRead_eq` and `failRead_eq`. -/
theorem imuReads : Obligations.ImuReads := by
  unfold Obligations.ImuReads
  intro s hp m
  refine ⟨fun hn => ⟨act_still (dataReady_ignored hn), fun began answer => act_not fun h => hn (eq_of_beq h.2)⟩, fun hr => ?_,
    fun began answer other => act_still (readAnswer_other other), fun hrun => ?running, fun hrun h8 => ?failed,
    fun older x hring hd => ?due⟩
  · refine act_not fun h => ?_
    obtain ⟨-, r, hr', -⟩ := (readTimeoutDue_iff s).1 h.2
    cases hr.symm.trans hr'
  case running =>
    refine ⟨fun hd => act_still (dataReady_again hd), fun hd hr => act_eq hp rfl ?_, fun hd hr he => act_eq hp rfl ?_,
      fun hd hr he => act_eq hp rfl ?_, ?reads⟩
    · exact (dataReady_first hrun hd).trans (handleEdge_begins hr)
    · exact (dataReady_first hrun hd).trans (handleEdge_pending hr he)
    · exact (dataReady_first hrun hd).trans (handleEdge_missed hr he)
    case reads =>
      intro r hr failed
      have answered : ∀ a : ImuAnswer, exec (.imuReadAnswer r.began a) s =
          .next (if wellFormedAnswer a then succeedRead r a.values s else failRead .malformed s) := fun a =>
        act_eq hp (beq_iff_eq.2 hrun) (readAnswer_inFlight hr)
      refine ⟨?_, ?_, ?_⟩
      · intro values h7 scaled axes x due sent
        rw [answered, if_pos ((wellFormedAnswer_iff _).2 ⟨rfl, h7⟩), succeedRead_eq r values hrun]
        rfl
      · intro fresh values bad
        have malformed : ¬ wellFormedAnswer ⟨fresh, values⟩ = true := fun good => by
          obtain ⟨new, h7⟩ := (wellFormedAnswer_iff _).1 good
          exact bad.elim (fun old => Bool.noConfusion (old.symm.trans new)) h7.not_gt
        rw [answered, if_neg malformed, failRead_eq _ hrun]
        rfl
      · intro h100
        exact act_eq hp ((readTimeoutDue_iff s).2 ⟨hrun, r, hr, h100⟩) (failRead_eq _ hrun)
  case failed =>
    exact act_eq hp ((failureReached_iff s).2 ⟨hrun, h8⟩) rfl
  case due =>
    have newest : s.motion.ring.getLast? = some x := by
      rw [show s.motion.ring = older ++ [x] from hring, List.getLast?_concat]
    exact act_eq hp (decide_eq_true hd) (sensorIsDue_eq newest)

end Sys2Proof.Machine
end

section
/-! PROOFS. Motion Hub: the wear state. -/
namespace Sys2Proof.Machine
open Sys2Proof

/-! ## The wear state changed (R85, R138, R139) -/

/-- The Display Output hears of a wear state: the WEAR condition, present at REMOVED with wear blanking on (R85). -/
def wearShown (w : Wear) (s : State) : State :=
  if w = .removed ∧ s.disp.config.wearBlanking = true then blanked .wear s
  else { s with disp := { s.disp with present := { s.disp.present with wear := false } } }

theorem setBlank_wear {s : State} (hs : LightsSound s) : setBlank .wear (wearCondition s) s = wearShown s.motion.wear s := by
  have cond : wearCondition s = true ↔ s.motion.wear = .removed ∧ s.disp.config.wearBlanking = true := by
    rw [wearCondition, Bool.and_eq_true, beq_iff_eq, and_comm]
  rw [wearShown, setBlank, blank_of_sound _ hs]
  simp only [cond]
  rfl

theorem wearShown_asleep (w : Wear) (s : State) : (wearShown w s).power.asleep = s.power.asleep := by
  unfold wearShown
  split
  · obtain ⟨disp, ev, eq⟩ := blanked_changes .wear s
    rw [eq]
  · rfl

theorem wearToPower_eq {w : Wear} (hw : w ≠ .unknown) (s : State) : wearToPower w s =
    if s.power.asleep then (if w = .worn then woken .worn s else s)
    else { s with power := { s.power with sleepTimer := if w = .removed then some 0 else none } } := by
  cases w with
  | unknown => exact absurd rfl hw
  | worn => rfl
  | removed => rfl

/-- The wear state takes a meaning in a part whose lights follow their conditions. -/
theorem changeWear_eq {s : State} (hs : LightsSound s) {w : Wear} (hw : w ≠ .unknown) : changeWear w s = wearTaken w s := by
  let t : State := { s with
    motion := { s.motion with wear := w }
    req := withEvent true .motionHub (.wearChanged s.motion.wear w) s.now s.req }
  have told : LightsSound t := .via rfl hs
  calc changeWear w s
      = wearToPower w (setBlank .wear (wearCondition t) t) := rfl
    _ = wearToPower w (wearShown w t) := by rw [setBlank_wear told]
    _ = wearTaken w s := by
        rw [wearToPower_eq hw, wearShown_asleep]
        rfl

/-! ## The debounce (R85; logs 8, 54) -/

theorem wearMeaning_ne_unknown (b : Bool) : wearMeaning b ≠ .unknown := by
  cases b <;> decide

theorem wearReached_iff {s : State} {b : Bool} (hb : s.motion.level = some b) :
    wearReached s = true ↔ 16 ≤ s.motion.levelRun ∧ s.motion.wear ≠ wearMeaning b := by
  rw [wearReached, hb, Bool.and_eq_true, decide_eq_true_eq, bne_iff_ne]

theorem acceptedWear_eq {s : State} {b : Bool} (hb : s.motion.level = some b) : acceptedWear s = wearMeaning b := by
  rw [acceptedWear, hb]
  rfl

/-- The run of equal levels after a sample: one longer, up to 16, or begun anew (R85). -/
def runAfterLevel (b : Bool) (m : Motion) : Nat := if m.level = some b then min 16 (m.levelRun + 1) else 1

theorem runAfterLevel_le (b : Bool) (m : Motion) : runAfterLevel b m ≤ 16 := by
  unfold runAfterLevel
  split <;> omega

theorem debounce_eq (b : Bool) (m : Motion) : m.debounce b = { m with level := some b, levelRun := runAfterLevel b m } := by
  rw [Motion.debounce, runAfterLevel, bump_eq_min]
  split
  next h => rw [← h]
  next => rfl

/-- A level that comes at no sampling time only stands at the pin (R85; log 8). -/
theorem proximityLevel_ignored {s : State} (active : Bool)
    (h : s.powered = false ∨ s.now.toNat % 1000 ≠ 0 ∨ s.clock.proximityDone = true) :
    proximityLevel active s = { s with pins := { s.pins with proximity := active } } := by
  refine if_neg fun due => ?_
  obtain ⟨powered, due⟩ := Bool.and_eq_true_iff.1 due
  obtain ⟨sampling, notDone⟩ := (multipleOf_pending_iff s 1000 _).1 due
  rcases h with h | h | h
  · exact Bool.noConfusion (h.symm.trans powered)
  · exact h sampling
  · exact Bool.noConfusion (h.symm.trans notDone)

/-- The state after a sample is debounced, its meaning aside. -/
def debounced (active : Bool) (s : State) : State := { s with
  pins := { s.pins with proximity := active }
  clock := { s.clock with proximityDone := true }
  motion := { s.motion with level := some active, levelRun := runAfterLevel active s.motion } }

theorem wearReached_debounced (active : Bool) (s : State) : wearReached (debounced active s) = true ↔
    runAfterLevel active s.motion = 16 ∧ s.motion.wear ≠ wearMeaning active := by
  rw [wearReached_iff (s := debounced active s) (b := active) rfl]
  exact and_congr_left' ⟨fun h => le_antisymm (runAfterLevel_le _ _) h, fun h => h.ge⟩

/-- A level at a sampling time is debounced, and changes the wear state at the sixteenth in a row (R85). -/
theorem proximityLevel_sampled {s : State} (hs : LightsSound s) (active : Bool) (hp : s.powered = true)
    (hz : s.now.toNat % 1000 = 0) (hd : s.clock.proximityDone = false) : proximityLevel active s =
      if runAfterLevel active s.motion = 16 ∧ s.motion.wear ≠ wearMeaning active
      then wearTaken (wearMeaning active) (debounced active s) else debounced active s := by
  let t := debounced active s
  have sampled : ((s.mapPins fun p => { p with proximity := active }).mapMotion (Motion.debounce active)).mapClock
      (fun c => { c with proximityDone := true }) = t := by
    rw [State.mapMotion, debounce_eq]
    rfl
  have due : (s.powered && proximityDue s) = true :=
    Bool.and_eq_true_iff.2 ⟨hp, (multipleOf_pending_iff s 1000 _).2 ⟨hz, hd⟩⟩
  have sound : LightsSound t := .via rfl hs
  have changed : changeWear (acceptedWear t) t = wearTaken (wearMeaning active) t := by
    rw [acceptedWear_eq (s := t) (b := active) rfl]
    exact changeWear_eq sound (wearMeaning_ne_unknown active)
  have start : proximityLevel active s = if wearReached t then changeWear (acceptedWear t) t else t := by
    rw [← sampled]
    exact if_pos due
  rw [start, changed]
  simp only [t, wearReached_debounced]

/-- Settles O42: a sample by `proximityLevel_sampled`, the change alone by `changeWear_eq`. -/
theorem wearDebounce : Obligations.WearDebounce := by
  unfold Obligations.WearDebounce
  intro s active hs pinned means
  refine ⟨fun early => congrArg Host.Outcome.next (proximityLevel_ignored active early),
    fun hp hz hd => congrArg Host.Outcome.next (proximityLevel_sampled hs active hp hz hd), fun b hp h16 hb hne => ?_⟩
  refine act_eq hp ((wearReached_iff hb).2 ⟨h16, hne⟩) ?_
  rw [acceptedWear_eq hb]
  exact changeWear_eq hs (wearMeaning_ne_unknown b)

end Sys2Proof.Machine
end

section
/-! PROOFS. Late Shift Unit: the LATE_SHIFT request. -/
namespace Sys2Proof.Machine
open Sys2Proof

/-! ## Signed clamps (R92, R102) -/

theorem clampInt_eq {lo hi : Int} (h : lo ≤ hi) (x : Int) : clampInt lo hi x = max lo (min hi x) := by
  unfold clampInt
  split
  · omega
  · split <;> omega

/-- The clamp flag of a signed field: it lay outside its range. -/
theorem clampInt_bne {lo hi : Int} (h : lo ≤ hi) (x : Int) : (clampInt lo hi x != x) = (decide (x < lo) || decide (hi < x)) := by
  rw [Bool.eq_iff_iff, bne_iff_ne, Bool.or_eq_true, decide_eq_true_iff, decide_eq_true_iff, clampInt_eq h]
  omega

theorem clampInt_of_mem {lo hi x : Int} (hlo : lo ≤ x) (hhi : x ≤ hi) : clampInt lo hi x = x := by
  rw [clampInt_eq (hlo.trans hhi), min_eq_right hhi, max_eq_right hlo]

theorem margin_range (m : Nat) : -(m : Int) ≤ m := by omega

theorem parseLate_eq (c : DisplayConfig) (body : List Byte) : parseLate c body =
    ⟨max (-(c.marginX : Int)) (min (u16 body 3).toInt c.marginX), max (-(c.marginY : Int)) (min (u16 body 5).toInt c.marginY),
      (u16 body 3).toInt < -(c.marginX : Int) || (c.marginX : Int) < (u16 body 3).toInt,
      (u16 body 5).toInt < -(c.marginY : Int) || (c.marginY : Int) < (u16 body 5).toInt⟩ := by
  simp only [parseLate, clampInt_bne (margin_range _)]
  simp only [clampInt_eq (margin_range _), min_comm]

/-! ## The outcome for an eye (R93) -/

/-- A head of this id stands here. -/
def HeadOf (id : BitVec 16) (h : Option Head) : Prop := ∃ x, h = some x ∧ x.id = id

theorem headIs_iff_headOf (id : BitVec 16) (h : Option Head) : headIs id h = true ↔ HeadOf id h := by
  rw [headIs_iff, Option.map_eq_some_iff, HeadOf]

section
variable {s : State} {e : Eye} {id : BitVec 16} {l : LateShift}

theorem lateOutcome_stored {h : Head} (hp : (s.disp.eyes.get e).pending = some h) (hid : h.id = id) :
    lateOutcome id l e s = .stored l h.mode := by
  rw [lateOutcome, hp]
  exact if_pos hid

theorem lateOutcome_unstored (hn : ¬ HeadOf id (s.disp.eyes.get e).pending) : lateOutcome id l e s =
    if headIs id (s.disp.eyes.get e).bound then .late (s.shift.record.get e) else .notFound := by
  unfold lateOutcome
  split
  next h hp => exact if_neg fun hid => hn ⟨h, hp, hid⟩
  next => rfl

theorem lateOutcome_late (hn : ¬ HeadOf id (s.disp.eyes.get e).pending) (hb : HeadOf id (s.disp.eyes.get e).bound) :
    lateOutcome id l e s = .late (s.shift.record.get e) := by
  rw [lateOutcome_unstored hn, if_pos ((headIs_iff_headOf _ _).2 hb)]

theorem lateOutcome_notFound (hn : ¬ HeadOf id (s.disp.eyes.get e).pending) (hb : ¬ HeadOf id (s.disp.eyes.get e).bound) :
    lateOutcome id l e s = .notFound := by
  rw [lateOutcome_unstored hn, if_neg (mt (headIs_iff_headOf _ _).1 hb)]

/-- The three outcomes, each with the heads of the eye that give it. -/
theorem lateOutcome_cases (id : BitVec 16) (l : LateShift) (e : Eye) (s : State) :
    (HeadOf id (s.disp.eyes.get e).pending ∧ ∃ m, lateOutcome id l e s = .stored l m) ∨
    (¬ HeadOf id (s.disp.eyes.get e).pending ∧ HeadOf id (s.disp.eyes.get e).bound ∧
      lateOutcome id l e s = .late (s.shift.record.get e)) ∨
    (¬ HeadOf id (s.disp.eyes.get e).pending ∧ ¬ HeadOf id (s.disp.eyes.get e).bound ∧
      lateOutcome id l e s = .notFound) := by
  by_cases hp : HeadOf id (s.disp.eyes.get e).pending
  · obtain ⟨h, eq, hid⟩ := hp
    exact .inl ⟨⟨h, eq, hid⟩, h.mode, lateOutcome_stored eq hid⟩
  · by_cases hb : HeadOf id (s.disp.eyes.get e).bound
    · exact .inr (.inl ⟨hp, hb, lateOutcome_late hp hb⟩)
    · exact .inr (.inr ⟨hp, hb, lateOutcome_notFound hp hb⟩)

theorem lateOutcome_isNotFound_iff : (lateOutcome id l e s).isNotFound = true ↔
    ¬ HeadOf id (s.disp.eyes.get e).pending ∧ ¬ HeadOf id (s.disp.eyes.get e).bound := by
  rcases lateOutcome_cases id l e s with ⟨hp, m, eq⟩ | ⟨hp, hb, eq⟩ | ⟨hp, hb, eq⟩ <;> simp [LateOutcome.isNotFound, *]

theorem lateOutcome_isLate_iff : (lateOutcome id l e s).isLate = true ↔
    ¬ HeadOf id (s.disp.eyes.get e).pending ∧ HeadOf id (s.disp.eyes.get e).bound := by
  rcases lateOutcome_cases id l e s with ⟨hp, m, eq⟩ | ⟨hp, hb, eq⟩ | ⟨hp, hb, eq⟩ <;> simp [LateOutcome.isLate, *]

end

theorem lateOutcomes_get (id : BitVec 16) (l : LateShift) (n : PerEye Bool) (s : State) (e : Eye) :
    (lateOutcomes id l n s).get e = if n.get e = true then some (lateOutcome id l e s) else none := by
  cases e <;> rfl

theorem anyOutcome_iff (p : LateOutcome → Bool) (id : BitVec 16) (l : LateShift) (n : PerEye Bool) (s : State) :
    anyOutcome p (lateOutcomes id l n s) = true ↔ ∃ e, n.get e = true ∧ p (lateOutcome id l e s) = true := by
  have named : ∀ e, (((lateOutcomes id l n s).get e).map p).getD false = (n.get e && p (lateOutcome id l e s)) := fun e => by
    rw [lateOutcomes_get]
    cases n.get e <;> rfl
  rw [← anyNamed_iff n fun e => p (lateOutcome id l e s)]
  exact Eq.congr_left (congrArg₂ or (named .left) (named .right))

/-! ## The late shift stored (R93) -/

/-- An eye after an outcome: a STORED one writes its late shift on the pending head. -/
def lateStored (o : Option LateOutcome) (d : EyeDisplay) : EyeDisplay :=
  match o with
  | some (.stored l _) => { d with pending := d.pending.map fun h => { h with late := some l } }
  | _ => d

theorem storeLate_eq (e : Eye) (o : Option LateOutcome) (s : State) : storeLate e o s =
    { s with disp := { s.disp with eyes := s.disp.eyes.set e (lateStored o (s.disp.eyes.get e)) } } := by
  rcases o with _ | (_ | _ | _)
  case some.stored => rfl
  all_goals cases e <;> rfl

theorem storeLate_both (o : PerEye (Option LateOutcome)) (s : State) : storeLate .right o.right (storeLate .left o.left s) =
    { s with disp := { s.disp with eyes := ⟨lateStored o.left s.disp.eyes.left, lateStored o.right s.disp.eyes.right⟩ } } := by
  rw [storeLate_eq, storeLate_eq]
  rfl

/-- An outcome other than STORED leaves the eye. -/
theorem lateStored_of_unstored (id : BitVec 16) (l : LateShift) (n : PerEye Bool) (s : State) (e : Eye)
    (h : ¬ (n.get e = true ∧ HeadOf id (s.disp.eyes.get e).pending)) :
    lateStored ((lateOutcomes id l n s).get e) (s.disp.eyes.get e) = s.disp.eyes.get e := by
  rw [lateOutcomes_get]
  split
  next he =>
    rcases lateOutcome_cases id l e s with ⟨hp, _⟩ | ⟨_, _, eq⟩ | ⟨_, _, eq⟩
    · exact absurd ⟨he, hp⟩ h
    · rw [eq]; rfl
    · rw [eq]; rfl
  next => rfl

/-! ## The request (R92, R93) -/

section
variable {s : State} {q : Request} {n : PerEye Bool} {o : PerEye (Option LateOutcome)}

theorem lateShift_notFound (hn : parseEyes (byteAt q.body 0) = some n)
    (eq : lateOutcomes (u16 q.body 1) (parseLate s.disp.config q.body) n s = o)
    (ho : anyOutcome LateOutcome.isNotFound o = true) : lateShift q s = ⟨s, .wrongState, .lateShift o⟩ := by
  subst eq
  rw [lateShift, hn]
  exact if_pos ho

theorem lateShift_found (hn : parseEyes (byteAt q.body 0) = some n)
    (eq : lateOutcomes (u16 q.body 1) (parseLate s.disp.config q.body) n s = o)
    (ho : ¬ anyOutcome LateOutcome.isNotFound o = true) :
    lateShift q s = ⟨storeLate .right o.right (storeLate .left o.left s),
      if anyOutcome LateOutcome.isLate o then .late else .ok, .lateShift o⟩ := by
  subst eq
  rw [lateShift, hn]
  exact if_neg ho

end

/-- Settles O33: the outcomes by `lateOutcome_cases`, the heads written by `lateStored`. -/
theorem lateShiftTaken : Obligations.LateShiftTaken := by
  unfold Obligations.LateShiftTaken
  intro s h q mask n
  refine ⟨fun bad => act_serve_admitted (t := s) h (by rw [lateShift, parseEyes_bad bad]; rfl), fun h1 h3 => ?_⟩
  intro id x y mx my late isStored isLate
  have named : parseEyes (byteAt q.body 0) = some n := parseEyes_good h1 h3
  have parsed : parseLate (popIntake s).disp.config q.body = late := parseLate_eq _ _
  let o := lateOutcomes id late n s
  have outcome : ∀ {e}, n.get e = true → o.get e = some (lateOutcome id late e s) := fun he => by
    rw [lateOutcomes_get, if_pos he]
  have judged : lateOutcomes (u16 q.body 1) (parseLate (popIntake s).disp.config q.body) n (popIntake s) = o := by
    rw [parsed]
    rfl
  have unbound : ∀ {e}, ¬ isStored e → ¬ isLate e → ¬ HeadOf id (s.disp.eyes.get e).bound := fun hs hl hb => hl ⟨hs, hb⟩
  have missing : anyOutcome LateOutcome.isNotFound o = true ↔ ∃ e, n.get e = true ∧ ¬ isStored e ∧ ¬ isLate e := by
    rw [anyOutcome_iff]
    exact exists_congr fun e => and_congr_right' (lateOutcome_isNotFound_iff.trans
      ⟨fun ⟨hs, hb⟩ => ⟨hs, fun hl => hb hl.2⟩, fun ⟨hs, hl⟩ => ⟨hs, unbound hs hl⟩⟩)
  have bound : anyOutcome LateOutcome.isLate o = true ↔ ∃ e, n.get e = true ∧ isLate e := by
    rw [anyOutcome_iff]
    exact exists_congr fun e => and_congr_right' lateOutcome_isLate_iff
  refine ⟨o, fun e he => ?_, fun e k he hp hid => ?_, fun e he hl => ?_, fun e he hs hl => ?_, fun hm => ?_, fun hall => ?_⟩
  · rw [lateOutcomes_get, he]
    rfl
  · rw [outcome he, lateOutcome_stored hp hid]
  · rw [outcome he, lateOutcome_late hl.1 hl.2]
  · rw [outcome he, lateOutcome_notFound hs (unbound hs hl)]
  · refine act_serve_admitted (t := s) h ?_
    rw [lateShift_notFound named judged (missing.2 hm)]
  · let eyes : PerEye EyeDisplay := ⟨lateStored o.left s.disp.eyes.left, lateStored o.right s.disp.eyes.right⟩
    have eye : ∀ e, eyes.get e = lateStored (o.get e) (s.disp.eyes.get e) := fun e => by cases e <;> rfl
    refine ⟨if anyOutcome LateOutcome.isLate o then .late else .ok, fun hl => if_pos (bound.2 hl), fun hs => ?_, eyes,
      fun e k he hp hid => ?_, fun e he => ?_, ?_⟩
    · refine if_neg (mt bound.1 ?_)
      rintro ⟨e, he, hl⟩
      exact hl.1 (hs e he)
    · rw [eye, outcome he, lateOutcome_stored hp hid, lateStored, hp]
      rfl
    · rw [eye, lateStored_of_unstored id late n s e he]
    · have found : ¬ anyOutcome LateOutcome.isNotFound o = true := by
        refine mt missing.1 ?_
        rintro ⟨e, he, hs, hl⟩
        exact (hall e he).elim hs hl
      refine act_serve_admitted (t := { s with disp := { s.disp with eyes := eyes } }) h ?_
      rw [lateShift_found named judged found, storeLate_both]
      rfl

end Sys2Proof.Machine
end

section
/-! PROOFS. Late Shift Unit: the shift result of a latch. -/
namespace Sys2Proof.Machine
open Sys2Proof

/-! ## The integral as a sum over the ring (R99, R100) -/

/-- How long, within the interval of `len` ticks from `a`, the rate of entry `i` of the ring holds: from its tick to the
next entry's, the newest entry's to the end. -/
def heldFor (ring : List Sample) (a : Tick) (len : Int) (i : Nat) : Int :=
  let start (i : Nat) : Int := tickDiff ((ring[i]?.map Sample.tick).getD 0) a
  pieceSpan (start i) (if i + 1 < ring.length then start (i + 1) else len) len

/-- Each rate times how long it holds, summed. -/
def heldSum (rate : Sample → Int) (a : Tick) (len : Int) (ring : List Sample) : Int :=
  (ring.zipIdx.map fun x => rate x.1 * heldFor ring a len x.2).sum

section
variable (rate : Sample → Int) (a : Tick) (len : Int)

theorem heldFor_cons_succ (x : Sample) (ring : List Sample) (i : Nat) :
    heldFor (x :: ring) a len (i + 1) = heldFor ring a len i := by
  simp [heldFor]

theorem heldSum_cons (x : Sample) (ring : List Sample) :
    heldSum rate a len (x :: ring) = rate x * heldFor (x :: ring) a len 0 + heldSum rate a len ring := by
  simp [heldSum, List.zipIdx_cons, List.zipIdx_succ, heldFor_cons_succ, Function.comp_def]

theorem integrate_eq_heldSum : ∀ ring, integrate rate a len ring = heldSum rate a len ring
  | [] => rfl
  | [x] => by
    rw [heldSum_cons]
    exact (add_zero _).symm
  | x :: y :: rest => by
    rw [heldSum_cons, integrate, integrate_eq_heldSum (y :: rest)]
    simp [heldFor]

end

/-! ## A computed shift (R96 to R102) -/

theorem addTick_natCast (t : Tick) (n : Nat) : addTick t (n : Int) = t + BitVec.ofNat 48 n := by
  rw [addTick, BitVec.ofInt_natCast]

theorem addTick_limit (t : Tick) : addTick t (-100000) = t - 100000 := by
  rw [addTick, BitVec.sub_eq_add_neg]
  rfl

theorem integratedShift_eq (src : ShiftSource) (m : Motion) (c : DisplayConfig) (a b : Tick) (short limit : Bool)
    {x y : Int}
    (hx : x = -(roundDiv (heldSum (fun r => r.gyro.yaw - m.config.bias.yaw) a (tickDiff b a) m.ring * c.ppdX) 256000000000))
    (hy : y = roundDiv (heldSum (fun r => r.gyro.pitch - m.config.bias.pitch) a (tickDiff b a) m.ring * c.ppdY) 256000000000) :
    integratedShift src m c a b short limit =
      ⟨max (-(c.marginX : Int)) (min c.marginX x), max (-(c.marginY : Int)) (min c.marginY y), src,
        max (-(c.marginX : Int)) (min c.marginX x) != x || max (-(c.marginY : Int)) (min c.marginY y) != y,
        short, limit, false, false⟩ := by
  rw [← clampInt_eq (margin_range _), ← clampInt_eq (margin_range _), hx, hy, ← integrate_eq_heldSum, ← integrate_eq_heldSum]
  rfl

section
variable {s : State} {e : Eye} {h : Head} {src : ShiftSource}

theorem computedShift_unsynced (hs : s.time.sync = .unsynced) :
    computedShift src e h s = { Shift.zeroOf src with noSync := true } := by
  rw [computedShift, if_pos (by simp [Timebase.synced, hs])]

theorem computedShift_noData (hs : s.time.sync ≠ .unsynced) (hr : s.motion.ring = []) :
    computedShift src e h s = { Shift.zeroOf src with noData := true } := by
  rw [computedShift, if_neg (by simp [Timebase.synced, hs]), hr]

theorem computedShift_data (hs : s.time.sync ≠ .unsynced) {first : Sample} {rest : List Sample}
    (hr : s.motion.ring = first :: rest) {b wanted : Tick} (hb : b = lightMiddle s.tl e)
    (hw : wanted = if 100000 < tickDiff b (s.time.devOf h.pose) then b - 100000 else s.time.devOf h.pose) :
    computedShift src e h s =
      if tickDiff b (s.time.devOf h.pose) ≤ 0 then Shift.zeroOf src
      else integratedShift src s.motion s.disp.config
        (if decide (tickDiff wanted first.tick < 0) then first.tick else wanted) b
        (decide (tickDiff wanted first.tick < 0)) (decide (100000 < tickDiff b (s.time.devOf h.pose))) := by
  have from_limit : wanted = if decide (100000 < tickDiff b (s.time.devOf h.pose)) then addTick b (-100000)
      else s.time.devOf h.pose := by simp only [hw, addTick_limit, decide_eq_true_eq]
  rw [from_limit, hb, computedShift, if_neg (by simp [Timebase.synced, hs]), hr]

end

/-! ## The source of a shift (R91) -/

/-- A head without a late shift to give its result, or of mode AUTO, has its shift computed. -/
theorem shiftFor_computed {h : Head} (hc : h.mode = .auto ∨ (h.mode = .host ∧ h.late = none)) (e : Eye) (s : State) :
    shiftFor e h s = computedShift (if h.mode = .host then .hostLate else .auto) e h s := by
  rcases hc with hm | ⟨hm, hl⟩
  · simp [shiftFor, hm]
  · simp [shiftFor, hm, hl]

theorem hostShift_within {c : DisplayConfig} {l : LateShift} (hx : -(c.marginX : Int) ≤ l.sx ∧ l.sx ≤ c.marginX)
    (hy : -(c.marginY : Int) ≤ l.sy ∧ l.sy ≤ c.marginY) :
    hostShift c l = ⟨l.sx, l.sy, .host, l.clampX || l.clampY, false, false, false, false⟩ := by
  simp [hostShift, marginClamp, clampInt_of_mem hx.1 hx.2, clampInt_of_mem hy.1 hy.2, Shift.zeroOf, Shift.zero]

/-- Settles O36: the source by `shiftFor`, the checks by `computedShift`, the integral by `integrate_eq_heldSum`. -/
theorem shiftResults : Obligations.ShiftResults := by
  unfold Obligations.ShiftResults
  intro s e h r src computed
  have source : computed → r = computedShift src e h s := fun hc => shiftFor_computed hc e s
  refine ⟨shiftFor_within s e h, fun hm => ?_, fun l hm hl => ?_, fun hc hs => ?_, fun hc hs hr => ?_,
    fun hc hs first rest hr => ?_⟩
  · simp only [r, shiftFor, hm]
    rfl
  · intro mx my hx hx' hy hy'
    simp only [r, shiftFor, hm, hl]
    exact hostShift_within ⟨hx, hx'⟩ ⟨hy, hy'⟩
  · rw [source hc, computedShift_unsynced hs]
    rfl
  · rw [source hc, computedShift_noData hs hr]
    rfl
  · intro w b len
    have middle : b = lightMiddle s.tl e := (addTick_natCast _ _).symm
    rw [source hc, computedShift_data hs hr middle rfl]
    refine ⟨fun hle => (if_pos hle).trans rfl, fun hlt => ?_⟩
    intro wanted short a bias c start till held yaw pitch x y sx sy
    exact (if_neg (not_le.2 hlt)).trans (integratedShift_eq src s.motion c a b short (decide (100000 < len)) rfl rfl)

end Sys2Proof.Machine
end

section
/-! PROOFS. Tether Link: what the slots of the upstream lane carry. -/
namespace Sys2Proof.Machine
open Sys2Proof

/-! ## The queue a slot draws on (R154) -/

theorem slotQueue_of_drawsOn {s : State} {c q : SlotClass} (h : drawsOn s c q) : slotQueue s c = some q := by
  obtain ⟨holds, own | ⟨empty, earlier⟩⟩ := h
  · rw [slotQueue, ← own, if_pos holds]
  · rw [slotQueue, if_neg (by simp [empty])]
    cases q with
    | opened => cases holds
    | reply => simp [holds]
    | event =>
      have reply := earlier .reply (by decide)
      simp [holds, reply]
    | sensor =>
      have reply := earlier .reply (by decide)
      have event := earlier .event (by decide)
      simp [holds, reply, event]
    | capture =>
      have reply := earlier .reply (by decide)
      have event := earlier .event (by decide)
      have sensor := earlier .sensor (by decide)
      simp [holds, reply, event, sensor]

theorem slotQueue_of_empty {s : State} (h : ∀ q, queueHolds s q = false) (c : SlotClass) : slotQueue s c = none := by
  simp [slotQueue, h]

section
variable {s : State} {c : SlotClass}

theorem fillSlot_reply (h : drawsOn s c .reply) : fillSlot c s = sendReplies s := by rw [fillSlot, slotQueue_of_drawsOn h]

theorem fillSlot_event (h : drawsOn s c .event) : fillSlot c s = sendEvents s := by rw [fillSlot, slotQueue_of_drawsOn h]

theorem fillSlot_sensor (h : drawsOn s c .sensor) : fillSlot c s = sendReports s := by rw [fillSlot, slotQueue_of_drawsOn h]

theorem fillSlot_capture (h : drawsOn s c .capture) : fillSlot c s = sendCapture s := by rw [fillSlot, slotQueue_of_drawsOn h]

theorem fillSlot_empty (h : ∀ q, queueHolds s q = false) : fillSlot c s = (.filler, s) := by
  rw [fillSlot, slotQueue_of_empty h]

end

/-- A slot that is due sends what `fillSlot` gives it. -/
theorem exec_upstreamSlot {s t : State} {x : Content} (hp : s.powered = true) (hn : s.link.nextSlot < 16)
    (ht : (slotOffset s.link.nextSlot : Int) ≤ tickDiff s.now s.link.superframeTick)
    (filled : fillSlot (s.link.table.getD s.link.nextSlot .opened) s = (x, t)) :
    exec .upstreamSlot s = .next { t with link := { t.link with
      slots := t.link.slots ++ [⟨s.link.nextSlot, s.link.table.getD s.link.nextSlot .opened, x⟩]
      nextSlot := t.link.nextSlot + 1 } } := by
  refine act_eq hp ((slotDue_iff s).2 ⟨hn, ht⟩) ?_
  rw [beginSlot, nextClass, filled]
  rfl

/-! ## The records that fit (R155) -/

theorem fitCount_fits {α : Type} (size : α → Nat) : ∀ (room : Nat) (l : List α),
    fitCount size room l ≤ l.length ∧ ((l.take (fitCount size room l)).map size).sum ≤ room ∧
      (fitCount size room l < l.length → room < ((l.take (fitCount size room l + 1)).map size).sum)
  | room, [] => ⟨le_refl 0, Nat.zero_le room, fun h => absurd h (lt_irrefl 0)⟩
  | room, x :: rest => by
    obtain ⟨short, fit, full⟩ := fitCount_fits size (room - size x) rest
    rw [fitCount]
    split
    · simp only [List.take_succ_cons, List.map_cons, List.sum_cons, List.length_cons]
      omega
    · simp only [List.take_succ_cons, List.take_zero, List.map_cons, List.map_nil, List.sum_cons, List.sum_nil]
      omega

theorem fitCount_fills {α : Type} (size : α → Nat) (l : List α) : fills size (fitCount size 120 l) l :=
  fitCount_fits size 120 l

/-- Of records of one size as many fit as that size goes into the room. -/
theorem fitCount_const {α : Type} {k : Nat} (hk : 0 < k) : ∀ (room : Nat) (l : List α),
    fitCount (fun _ => k) room l = min (room / k) l.length
  | room, [] => by simp [fitCount]
  | room, x :: rest => by
    rw [fitCount, fitCount_const hk (room - k) rest, List.length_cons]
    split
    next fit => rw [Nat.div_eq_sub_div hk fit, Nat.add_min_add_right]
    next tight => rw [Nat.div_eq_of_lt (not_le.1 tight), Nat.zero_min]

/-- Five event records fit in a slot. -/
theorem sendEvents_eq (s : State) : sendEvents s =
    (.events (s.req.events.take 5), { s with req := { s.req with events := s.req.events.drop 5 } }) := by
  have count : fitCount (fun _ : Event => 24) 120 s.req.events = min 5 s.req.events.length := fitCount_const (by decide) _ _
  rw [sendEvents, count]
  rcases le_total 5 s.req.events.length with many | few
  · rw [min_eq_left many]
    rfl
  · rw [min_eq_right few, List.take_length, List.take_of_length_le few]
    simp only [State.mapReq, List.drop_length, List.drop_of_length_le few]

/-! ## Reports placed one after another (R157) -/

/-- The Timebase after records have been stamped one after another (R38). -/
def stampedAll (rs : List Report) (t : Timebase) : Timebase := rs.foldl (fun t r => t.stamped r.stampKind r.tick) t

/-- The drop tallies after records have been placed (R157). -/
def clearedBy (rs : List Report) (t : Tallies) : Tallies := rs.foldl Tallies.clear t

/-- A record of this kind is among some. -/
def HoldsKind (k : Stamped) (rs : List Report) : Prop := ∃ r ∈ rs, r.stampKind = k

/-- The drop tally of a kind of report. -/
def Tallies.ofKind (t : Tallies) : Stamped → Nat
  | .sensor => t.sensor
  | .exposure => t.exposure
  | _ => t.frame

theorem placeReports_state : ∀ (rs : List Report) (s : State), (placeReports rs s).2 =
    { s with time := stampedAll rs s.time, link := { s.link with tallies := clearedBy rs s.link.tallies } }
  | [], _ => rfl
  | r :: rs, s => placeReports_state rs (afterPlacing r s)

/-- Each record is placed as the records before it leave the Timebase and the tallies. -/
theorem placeReports_getElem? : ∀ (rs : List Report) (s : State) (i : Nat),
    (placeReports rs s).1[i]? = rs[i]?.map fun r => placed r (placeReports (rs.take i) s).2
  | [], _, _ => rfl
  | _ :: _, _, 0 => rfl
  | r :: rs, s, i + 1 => placeReports_getElem? rs (afterPlacing r s) i

theorem placeReports_length : ∀ (rs : List Report) (s : State), (placeReports rs s).1.length = rs.length
  | [], _ => rfl
  | r :: rs, s => congrArg (· + 1) (placeReports_length rs (afterPlacing r s))

theorem stamped_sync (t : Timebase) (k : Stamped) (d : Tick) : (t.stamped k d).sync = t.sync := by
  unfold Timebase.stamped
  split <;> rfl

theorem stampedAll_sync : ∀ (rs : List Report) (t : Timebase), (stampedAll rs t).sync = t.sync
  | [], _ => rfl
  | r :: rs, t => (stampedAll_sync rs (t.stamped r.stampKind r.tick)).trans (stamped_sync t _ _)

theorem clear_ofKind (t : Tallies) (r : Report) {k : Stamped} (hk : k ≠ .capture) :
    (t.clear r).ofKind k = if r.stampKind = k then 0 else t.ofKind k := by
  cases k with
  | capture => exact absurd rfl hk
  | sensor | exposure | frame => cases r <;> rfl

/-- The first record of a kind takes its tally with it (R157). -/
theorem clearedBy_ofKind {k : Stamped} (hk : k ≠ .capture) : ∀ (rs : List Report) (t : Tallies),
    (HoldsKind k rs → (clearedBy rs t).ofKind k = 0) ∧ (¬ HoldsKind k rs → (clearedBy rs t).ofKind k = t.ofKind k)
  | [], t => ⟨fun ⟨_, mem, _⟩ => absurd mem List.not_mem_nil, fun _ => rfl⟩
  | r :: rs, t => by
    obtain ⟨held, free⟩ := clearedBy_ofKind hk rs (t.clear r)
    have split : HoldsKind k (r :: rs) ↔ r.stampKind = k ∨ HoldsKind k rs := by simp [HoldsKind]
    have step : clearedBy (r :: rs) t = clearedBy rs (t.clear r) := rfl
    rw [split, step]
    by_cases rest : HoldsKind k rs
    · exact ⟨fun _ => held rest, fun none => absurd (.inr rest) none⟩
    · rw [free rest, clear_ofKind t r hk]
      exact ⟨fun own => if_pos (own.resolve_right rest), fun none => if_neg fun own => none (.inl own)⟩

theorem tallies_of_eq (t : Tallies) (r : Report) : t.of r = t.ofKind r.stampKind := by cases r <;> rfl

theorem stampKind_ne_capture (r : Report) : r.stampKind ≠ .capture := by cases r <;> exact Stamped.noConfusion

/-- The `i`-th record placed: its stamp, and the drop tally of its kind with the first of that kind (R38, R157). -/
theorem placeReports_placed {rs : List Report} {s : State} {i : Nat} {r : Report} (hr : rs[i]? = some r) :
    ∃ x, (placeReports rs s).1[i]? = some x ∧ x.report = r ∧
      x.host = ((stampedAll (rs.take i) s.time).stampOf r.stampKind r.tick).1 ∧
      x.adjusted = ((stampedAll (rs.take i) s.time).stampOf r.stampKind r.tick).2 ∧ x.sync = s.time.sync ∧
      (HoldsKind r.stampKind (rs.take i) → x.tally = 0) ∧
      (¬ HoldsKind r.stampKind (rs.take i) → x.tally = s.link.tallies.ofKind r.stampKind) := by
  rw [placeReports_getElem?, hr, placeReports_state]
  refine ⟨_, rfl, rfl, rfl, rfl, stampedAll_sync _ _, ?_⟩
  have told := clearedBy_ofKind (stampKind_ne_capture r) (rs.take i) s.link.tallies
  rwa [← tallies_of_eq (clearedBy _ _)] at told

/-- The state after the first `n` reports have been placed in a slot. -/
def reportsSent (n : Nat) (s : State) : State :=
  { s with
    time := stampedAll (s.link.reports.take n) s.time
    link := { s.link with
      reports := s.link.reports.drop n, tallies := clearedBy (s.link.reports.take n) s.link.tallies } }

theorem sendReports_eq (s : State) :
    let n := fitCount Report.size 120 s.link.reports
    let s' := s.mapLink fun l => { l with reports := l.reports.drop n }
    sendReports s = (.reports (placeReports (s.link.reports.take n) s').1, reportsSent n s) := by
  intro n s'
  rw [sendReports, placeReports_state]
  rfl

theorem sendCapture_eq {s : State} {first : CaptureFrame} {rest : List CaptureFrame}
    (h : s.audio.captured = first :: rest) :
    sendCapture s = (.capture ⟨first.tick, s.audio.config.channels, s.audio.blockFrames.map CaptureFrame.samples,
      s.audio.discard, (s.time.stampOf .capture first.tick).1, (s.time.stampOf .capture first.tick).2, s.time.sync⟩,
      { s with time := s.time.stamped .capture first.tick, audio := s.audio.takeCapture }) := by
  rw [sendCapture, h]
  rfl

/-- Settles O10: the queue by `slotQueue_of_drawsOn`, the records by `fitCount_fills`, the reports by `placeReports_placed`. -/
theorem upstreamSlots : Obligations.UpstreamSlots := by
  unfold Obligations.UpstreamSlots
  intro s hp hn ht c sent
  refine ⟨fun h => ?replies, fun h => ?events, fun h => ?reports, fun h first rest hc => ?capture, fun h => ?filler⟩
  case replies => exact ⟨_, fitCount_fills _ _, exec_upstreamSlot hp hn ht (fillSlot_reply h)⟩
  case events => exact exec_upstreamSlot hp hn ht ((fillSlot_event h).trans (sendEvents_eq s))
  case reports =>
    let n := fitCount Report.size 120 s.link.reports
    let rs := s.link.reports.take n
    have all : rs.take n = rs := by rw [List.take_take, min_self]
    obtain ⟨sensor, noSensor⟩ := clearedBy_ofKind (k := .sensor) (by decide) rs s.link.tallies
    obtain ⟨exposure, noExposure⟩ := clearedBy_ofKind (k := .exposure) (by decide) rs s.link.tallies
    obtain ⟨frame, noFrame⟩ := clearedBy_ofKind (k := .frame) (by decide) rs s.link.tallies
    refine ⟨n, fitCount_fills _ _, (placeReports rs (s.mapLink fun l => { l with reports := l.reports.drop n })).1,
      clearedBy rs s.link.tallies, ?sent, placeReports_length _ _, fun i r => placeReports_placed, sensor, noSensor,
      exposure, noExposure, frame, noFrame⟩
    have sent := exec_upstreamSlot hp hn ht ((fillSlot_sensor h).trans (sendReports_eq s))
    rw [reportsSent, show stampedAll (s.link.reports.take n) s.time = stampedAll (rs.take n) s.time by rw [all]] at sent
    exact sent
  case capture => exact exec_upstreamSlot hp hn ht ((fillSlot_capture h).trans (sendCapture_eq hc))
  case filler => exact exec_upstreamSlot hp hn ht (fillSlot_empty h)

end Sys2Proof.Machine
end

section
/-! PROOFS. Audio Engine: audio blocks. -/
namespace Sys2Proof.Machine
open Sys2Proof

/-! ## Payloads of audio blocks (R109, R179) -/

theorem parseBlock_eq_none_iff (p : List Byte) : parseBlock p = none ↔
    p.length < 4 ∨ (byteAt p 2).toNat = 0 ∨ 64 < (byteAt p 2).toNat ∨ p.length ≠ 4 + 6 * (byteAt p 2).toNat := by
  unfold parseBlock
  dsimp only
  split
  next good => exact ⟨fun h => (by cases h), fun bad => by omega⟩
  next bad => exact ⟨fun _ => by omega, fun _ => rfl⟩

theorem parseBlock_eq_some {p : List Byte} {seq : BitVec 16} {frames : List Stereo} (h : parseBlock p = some (seq, frames)) :
    seq = u16 p 0 ∧ frames = parseFrames (byteAt p 2).toNat (p.drop 4) := by
  unfold parseBlock at h
  dsimp only at h
  split at h
  · cases h
    exact ⟨rfl, rfl⟩
  · cases h

theorem u24_drop (p : List Byte) (k i : Nat) : u24 (p.drop k) i = u24 p (k + i) := by
  simp only [u24, u16, byteAt, List.getD_eq_getElem?_getD, List.getElem?_drop, Nat.add_assoc]

theorem parseFrames_length : ∀ (n : Nat) (p : List Byte), (parseFrames n p).length = n
  | 0, _ => rfl
  | n + 1, p => congrArg (· + 1) (parseFrames_length n (p.drop 6))

/-- Frame `i` stands in the six bytes from `6 × i` (section 10.2). -/
theorem parseFrames_getElem? : ∀ (n : Nat) (p : List Byte) (i : Nat) (x : Stereo), (parseFrames n p)[i]? = some x →
    x.left = u24 p (6 * i) ∧ x.right = u24 p (6 * i + 3)
  | n + 1, p, 0, x, h => by
    cases h
    exact ⟨rfl, rfl⟩
  | n + 1, p, i + 1, x, h => by
    obtain ⟨left, right⟩ := parseFrames_getElem? n (p.drop 6) i x h
    rw [left, right, u24_drop, u24_drop]
    exact ⟨by ring_nf, by ring_nf⟩

/-! ## Blocks taken (R109) -/

/-- In UP a block reaches the Audio Engine. -/
theorem exec_audioBlock {s : State} (hp : s.powered = true) (hl : s.link.state = .up) (p : List Byte) :
    exec (.audioBlock p) s = .next (receiveBlock p { s with link := heardAudio s }) :=
  act_eq hp rfl (audioPacket_up p s hl)

theorem checkSequence_gap {a : Audio} {seq x : BitVec 16} (he : a.expected = some x) (hx : x ≠ seq) :
    a.checkSequence seq = { a with expected := some (seq + 1), gaps := a.gaps + 1 } := by
  simp [Audio.checkSequence, he, hx]

theorem checkSequence_follows {a : Audio} {seq : BitVec 16} (h : ¬ ∃ x, a.expected = some x ∧ x ≠ seq) :
    a.checkSequence seq = { a with expected := some (seq + 1) } := by
  cases he : a.expected with
  | none => simp [Audio.checkSequence, he]
  | some x =>
    have follows : x = seq := by_contra fun hx => h ⟨x, he, hx⟩
    simp [Audio.checkSequence, he, follows]

theorem takeBlock_discarded {s : State} (h : s.audio.playback = .stopped ∨ s.audio.playback = .muted) (seq : BitVec 16)
    (frames : List Stereo) : takeBlock seq frames s =
      s.mapAudio fun a => { a.checkSequence seq with blocksDiscarded := a.blocksDiscarded + 1 } := by
  have kept : (s.audio.checkSequence seq).playback = s.audio.playback := rfl
  rcases h with h | h <;> simp only [takeBlock, mapAudio_audio, kept, h] <;> rfl

theorem takeBlock_appended {s : State} (hs : s.audio.playback ≠ .stopped) (hm : s.audio.playback ≠ .muted)
    (seq : BitVec 16) (frames : List Stereo) :
    takeBlock seq frames s = appendFrames seq frames (s.mapAudio (Audio.checkSequence seq)) := by
  have kept : (s.audio.checkSequence seq).playback = s.audio.playback := rfl
  simp only [takeBlock, mapAudio_audio, kept]
  cases h : s.audio.playback with
  | stopped => exact absurd h hs
  | muted => exact absurd h hm
  | priming | playing | muting => rfl

theorem startPlaying_eq (a : Audio) : a.startPlaying =
    { a with playback := if a.playback = .priming ∧ 96 ≤ a.fifo.length then .playing else a.playback } := by
  unfold Audio.startPlaying
  split <;> rfl

/-- The frames of a block join the FIFO as far as 256 go (R109). -/
theorem appendFrames_eq (seq : BitVec 16) (frames : List Stereo) (s : State) :
    let fits := frames.take (256 - s.audio.fifo.length)
    let lost := frames.length - fits.length
    appendFrames seq frames s = { s with
      audio := { s.audio with
        fifo := s.audio.fifo ++ fits
        overflowed := s.audio.overflowed + BitVec.ofNat 32 lost
        playback := if s.audio.playback = .priming ∧ 96 ≤ (s.audio.fifo ++ fits).length then .playing else s.audio.playback }
      req := withEvent (decide (0 < lost)) .audioEngine (.audioOverflow seq lost) s.now s.req } := by
  intro fits lost
  have count : frames.length - (256 - s.audio.fifo.length) = lost := by
    simp only [lost, fits, List.length_take]
    omega
  simp only [appendFrames, count, startPlaying_eq, raiseIf_eq]
  rfl

/-- Settles O49: the layout by `parseFrames_getElem?`, the sequence check by `Audio.checkSequence`, the intake by
`appendFrames_eq`. -/
theorem audioBlocks : Obligations.AudioBlocks := by
  unfold Obligations.AudioBlocks
  intro s p hp hl n
  refine ⟨parseBlock_eq_none_iff p, fun none => ?malformed, fun seq frames parsed => ⟨?layout, ?taken⟩⟩
  case malformed =>
    rw [exec_audioBlock hp hl, receiveBlock, none]
    rfl
  case layout =>
    obtain ⟨number, data⟩ := parseBlock_eq_some parsed
    refine ⟨number, data ▸ parseFrames_length n _, fun i x hx => ?_⟩
    obtain ⟨left, right⟩ := parseFrames_getElem? n (p.drop 4) i x (data ▸ hx)
    rw [left, right, u24_drop, u24_drop]
    exact ⟨rfl, by ring_nf⟩
  case taken =>
    have received : exec (.audioBlock p) s = .next (takeBlock seq frames { s with link := heardAudio s }) := by
      rw [exec_audioBlock hp hl, receiveBlock, parsed]
    refine ⟨s.audio.checkSequence seq, fun ⟨x, he, hx⟩ => checkSequence_gap he hx, checkSequence_follows, fun idle => ?_,
      fun hs hm => ?_⟩
    · exact received.trans (congrArg _ (takeBlock_discarded (s := { s with link := heardAudio s }) idle seq frames))
    · rw [received, takeBlock_appended (s := { s with link := heardAudio s }) hs hm, appendFrames_eq]
      rfl

end Sys2Proof.Machine
end

section
/-! PROOFS. Audio Engine: gain factors and samples in their slots. -/
namespace Sys2Proof.Machine
open Sys2Proof

/-! ## The gain factor (R115) -/

/-- The search by bits keeps a reached value below, and one not reached above. -/
theorem gainSearch_between {n k base : Nat} (low : gainReaches n base = true) (high : gainReaches n (base + 2 ^ k) = false) :
    gainReaches n (gainSearch n k base) = true ∧ gainReaches n (gainSearch n k base + 1) = false := by
  induction k generalizing base with
  | zero =>
    rw [pow_zero] at high
    exact ⟨low, high⟩
  | succ k ih =>
    rw [gainSearch]
    cases middle : gainReaches n (base + 2 ^ k) with
    | true =>
      rw [if_pos rfl]
      exact ih middle (by rwa [add_assoc, ← two_mul, ← pow_succ'])
    | false =>
      rw [if_neg (by decide)]
      exact ih low middle

theorem gainReaches_iff (n g : Nat) : gainReaches n g = true ↔ (2 * g - 1) ^ 40 * 10 ^ n ≤ 131072 ^ 40 := by
  unfold gainReaches
  exact decide_eq_true_iff

theorem gainReaches_eq_false_iff (n g : Nat) : gainReaches n g = false ↔ 131072 ^ 40 < (2 * g - 1) ^ 40 * 10 ^ n := by
  rw [← Bool.not_eq_true, gainReaches_iff, not_le]

theorem gainReaches_zero (n : Nat) : gainReaches n 0 = true := by
  rw [gainReaches_iff]
  norm_num

/-- No gain factor is above 65,536. -/
theorem gainReaches_limit (n : Nat) : gainReaches n (0 + 2 ^ 17) = false := by
  have root : 131072 < 2 * (0 + 2 ^ 17) - 1 := by norm_num
  rw [gainReaches_eq_false_iff]
  exact (Nat.pow_lt_pow_left root (by decide)).trans_le (Nat.le_mul_of_pos_right _ (Nat.pow_pos (by decide)))

/-- The gain factor is the rounded value of 65,536 × 10^(−n/40) (R115). -/
theorem gainFactor_rounded (n : Nat) : (2 * gainFactor (-n) - 1) ^ 40 * 10 ^ n ≤ 131072 ^ 40 ∧
    131072 ^ 40 < (2 * gainFactor (-n) + 1) ^ 40 * 10 ^ n := by
  have steps : (-(-(n : Int))).toNat = n := by omega
  obtain ⟨reached, above⟩ := gainSearch_between (gainReaches_zero n) (gainReaches_limit n)
  rw [gainReaches_iff] at reached
  rw [gainReaches_eq_false_iff, show ∀ g, 2 * (g + 1) - 1 = 2 * g + 1 by omega] at above
  rw [gainFactor, steps]
  exact ⟨reached, above⟩

/-! ## Samples in their slots (R115, R120) -/

theorem placeSample_eq (width : Nat) {out : Int} {v : Nat} (hv : v = (out % 16777216).toNat) : placeSample width out =
    BitVec.ofNat 32 (if width = 32 then v * 256 else if width = 16 then v / 256 else v) := by
  have value : ((BitVec.ofInt 24 out).setWidth 32).toNat = v := by
    rw [BitVec.toNat_setWidth, BitVec.toNat_ofInt]
    omega
  have bound : v < 16777216 := by omega
  apply BitVec.eq_of_toNat_eq
  unfold placeSample
  dsimp only
  split
  · rw [BitVec.toNat_shiftLeft, value, BitVec.toNat_ofNat, Nat.shiftLeft_eq]
  · split
    · rw [BitVec.toNat_ushiftRight, value, BitVec.toNat_ofNat, Nat.shiftRight_eq_div_pow]
      omega
    · rw [value, BitVec.toNat_ofNat]
      omega

theorem captureSample_eq (width : Nat) (x : BitVec 32) : captureSample width x = BitVec.ofNat 24
    (if width = 32 then x.toNat / 256 else if width = 16 then x.toNat % 65536 * 256 else x.toNat) := by
  apply BitVec.eq_of_toNat_eq
  unfold captureSample
  split
  · rw [BitVec.toNat_setWidth, BitVec.toNat_ushiftRight, Nat.shiftRight_eq_div_pow, BitVec.toNat_ofNat]
  · split
    · rw [BitVec.toNat_shiftLeft, BitVec.toNat_setWidth, BitVec.toNat_setWidth, BitVec.toNat_ofNat, Nat.shiftLeft_eq]
      omega
    · rw [BitVec.toNat_setWidth, BitVec.toNat_ofNat]

end Sys2Proof.Machine
end

section
/-! PROOFS. Audio Engine: an audio frame boundary. -/
namespace Sys2Proof.Machine
open Sys2Proof

/-! ## The playback frame (R110, R114) -/

/-- After a frame of the mute ramp: it ends at ramp count 64 (R114). -/
def Audio.rampEnded (a : Audio) : Audio := if 64 ≤ a.ramp then a.endRamp else a

/-- The Audio Engine after the playback frame of a boundary (R110). -/
def Audio.sent (a : Audio) : Audio :=
  match a.playback, a.fifo with
  | .playing, x :: rest => { a with fifo := rest, line := gainLine a.config.width a.gain x, played := a.played + 1 }
  | .playing, [] =>
    { a with line := zeroLine a.config.width, underruns := a.underruns + 1, playback := .priming }
  | .muting, x :: rest =>
    if a.fromPlaying then
      Audio.rampEnded { a with
        ramp := a.ramp + 1, fifo := rest, line := rampLine a.config.width a.gain (a.ramp + 1) x }
    else Audio.rampEnded { a with ramp := a.ramp + 1, line := zeroLine a.config.width }
  | .muting, [] => Audio.rampEnded { a with ramp := a.ramp + 1, line := zeroLine a.config.width }
  | _, _ => { a with line := zeroLine a.config.width }

section
variable {a : Audio}

theorem sent_playing {x : Stereo} {rest : List Stereo} (h : a.playback = .playing) (hf : a.fifo = x :: rest) : a.sent =
    { a with fifo := rest, line := gainLine a.config.width a.gain x, played := a.played + 1 } := by
  simp only [Audio.sent, h, hf]

theorem sent_underrun (h : a.playback = .playing) (hf : a.fifo = []) : a.sent =
    { a with line := zeroLine a.config.width, underruns := a.underruns + 1, playback := .priming } := by
  simp only [Audio.sent, h, hf]

theorem sent_muting (h : a.playback = .muting) : a.sent = a.rampFrame.rampEnded := by
  cases hf : a.fifo <;> cases hp : a.fromPlaying <;> simp [Audio.sent, Audio.rampFrame, h, hf, hp]

theorem sent_silent (hp : a.playback ≠ .playing) (hm : a.playback ≠ .muting) :
    a.sent = { a with line := zeroLine a.config.width } := by
  cases h : a.playback with
  | playing => exact absurd h hp
  | muting => exact absurd h hm
  | stopped | priming | muted => simp only [Audio.sent, h]

theorem rampFrame_playback : a.rampFrame.playback = a.playback := by
  unfold Audio.rampFrame
  split <;> rfl

end

/-- The playback frame leaves the capture side and the rate follower. -/
theorem sent_changes (a : Audio) : ∃ line fifo playback ramp played underruns, a.sent = { a with
    line := line, fifo := fifo, playback := playback, ramp := ramp, played := played, underruns := underruns } := by
  unfold Audio.sent Audio.rampEnded Audio.endRamp
  split
  · exact ⟨_, _, _, _, _, _, rfl⟩
  · exact ⟨_, _, _, _, _, _, rfl⟩
  · split <;> split <;> exact ⟨_, _, _, _, _, _, rfl⟩
  · split <;> exact ⟨_, _, _, _, _, _, rfl⟩
  · exact ⟨_, _, _, _, _, _, rfl⟩

/-- The playback frame changes the Audio Engine as `Audio.sent` says, and an underrun is told (R110). -/
theorem sendFrame_eq (s : State) : sendFrame s = { s with
    audio := s.audio.sent
    req := withEvent (s.audio.playback == .playing && s.audio.fifo.isEmpty) .audioEngine
      (.audioUnderrun (s.audio.underruns + 1)) s.now s.req } := by
  have quiet : s.audio.playback ≠ .playing → (s.audio.playback == .playing && s.audio.fifo.isEmpty) = false :=
    fun h => by simp [h]
  have silent : s.audio.playback ≠ .playing → s.audio.playback ≠ .muting →
      s.mapAudio (fun a => { a with line := zeroLine a.config.width }) = { s with
        audio := s.audio.sent
        req := withEvent (s.audio.playback == .playing && s.audio.fifo.isEmpty) .audioEngine
          (.audioUnderrun (s.audio.underruns + 1)) s.now s.req } := fun hp hm => by
    rw [sent_silent hp hm, quiet hp]
    rfl
  unfold sendFrame
  split
  next h => exact silent (by simp [h]) (by simp [h])
  next h => exact silent (by simp [h]) (by simp [h])
  next h => exact silent (by simp [h]) (by simp [h])
  next h =>
    split
    next x rest hf =>
      rw [sent_playing h hf, hf, List.isEmpty_cons, Bool.and_false]
      rfl
    next hf =>
      rw [sent_underrun h hf, show (s.audio.playback == .playing && s.audio.fifo.isEmpty) = true by simp [h, hf]]
      rfl
  next h =>
    have reached : rampReached (s.mapAudio Audio.rampFrame) = decide (64 ≤ s.audio.rampFrame.ramp) := by
      rw [rampReached, mapAudio_audio, rampFrame_playback, h]
      rfl
    rw [sent_muting h, quiet (by simp [h]), Audio.rampEnded]
    simp only [reached, decide_eq_true_eq]
    split <;> rfl

/-! ## The capture frame (R119, R120) -/

/-- The capture frame just completed is stored while capture is ON in a session, but for the first boundary; a full FIFO
loses its oldest (R119, R120). -/
theorem gatherCapture_eq (width : Nat) (slots : List (BitVec 32)) (s : State) :
    let a := s.audio
    let takes := a.capturing && !a.skip && s.session
    let lost := takes && decide (128 ≤ a.captured.length)
    gatherCapture width slots s = { s with
      audio := { a with
        skip := false
        captured := if takes then (if lost then a.captured.drop 1 else a.captured) ++
          [captureFrame width a.config s.now slots] else a.captured
        discard := if lost then min 65535 (a.discard + 1) else a.discard
        captureLost := if lost then a.captureLost + 1 else a.captureLost }
      req := withEvent (lost && a.discard == 0) .audioEngine
        (.captureDiscard ((a.captured.head?.map CaptureFrame.tick).getD 0)) s.now s.req } := by
  intro a takes lost
  unfold gatherCapture
  cases ht : takes with
  | false =>
    have none : lost = false := by simp only [lost, ht, Bool.false_and]
    rw [if_neg (by simpa [takes, a] using ht), none]
    rfl
  | true =>
    rw [if_pos ht]
    unfold storeCapture
    by_cases room : a.captured.length < 128
    · have none : lost = false := by simp only [lost, ht, Bool.true_and, decide_eq_false_iff_not]; omega
      rw [none]
      exact if_pos room
    · have full : lost = true := by simp only [lost, ht, Bool.true_and, decide_eq_true_iff]; omega
      rw [full]
      refine (if_neg room).trans ?_
      rw [raiseIf_eq]
      simp only [bump_eq_min]
      rfl

/-! ## The rate follower (R107) -/

theorem dividerOf_eq (r fill : Int) : dividerOf r fill =
    (max 65516339 (min 65555661 (65536000 - roundDiv (65536000 * r) 1000000000 - 4 * (fill - 96)))).toNat := by
  rw [dividerOf, clampInt_eq (by decide)]

/-- The frame now beginning is given its cycles, and every 48th boundary computes the divider (R107). -/
theorem advanceDivider_eq (s : State) :
    let a := s.audio
    let again := decide (48 ≤ a.recompute + 1)
    advanceDivider s = { s with audio := { a with
      cycles := a.cycles + (a.divider + a.remainder) / 65536
      remainder := (a.divider + a.remainder) % 65536
      recompute := if again then 0 else a.recompute + 1
      divider := if again then dividerOf s.time.rate a.followFill else a.divider } } := by
  intro a again
  have reached : recomputeReached (s.mapAudio Audio.timeFrame) = again := rfl
  simp only [advanceDivider, reached]
  cases again <;> rfl

/-! ## The boundary (R106) -/

/-- What a boundary leaves: the playback frame, then the capture frame, then the rate follower (R106). -/
theorem frameBoundary_eq (slots : List (BitVec 32)) (s : State) :
    let a := s.audio
    let takes := a.capturing && !a.skip && s.session
    let lost := takes && decide (128 ≤ a.captured.length)
    let again := decide (48 ≤ a.recompute + 1)
    frameBoundary slots s = { s with
      audio := { a.sent with
        skip := false
        captured := if takes then (if lost then a.captured.drop 1 else a.captured) ++
          [captureFrame a.line.width a.config s.now slots] else a.captured
        discard := if lost then min 65535 (a.discard + 1) else a.discard
        captureLost := if lost then a.captureLost + 1 else a.captureLost
        cycles := a.cycles + (a.divider + a.remainder) / 65536
        remainder := (a.divider + a.remainder) % 65536
        recompute := if again then 0 else a.recompute + 1
        divider := if again then dividerOf s.time.rate a.sent.followFill else a.divider }
      req := withEvent (lost && a.discard == 0) .audioEngine
        (.captureDiscard ((a.captured.head?.map CaptureFrame.tick).getD 0)) s.now
        (withEvent (a.playback == .playing && a.fifo.isEmpty) .audioEngine (.audioUnderrun (a.underruns + 1)) s.now
          s.req) } := by
  intro a takes lost again
  obtain ⟨line, fifo, playback, ramp, played, underruns, eq⟩ := sent_changes s.audio
  rw [frameBoundary, sendFrame_eq, gatherCapture_eq, advanceDivider_eq]
  simp only [a, eq]
  rfl

theorem captureLevel_early {s : State} (h : s.powered = false ∨ 48 ≤ s.audio.cycles) (slots : List (BitVec 32)) :
    captureLevel slots s = { s with pins := { s.pins with capture := slots } } := by
  refine if_neg fun now => ?_
  obtain ⟨powered, due⟩ := Bool.and_eq_true_iff.1 now
  have cycles : s.audio.cycles < 48 := (boundaryDue_iff _).1 due
  rcases h with held | early
  · exact absurd powered (by simp [held])
  · omega

theorem captureLevel_due {s : State} (hp : s.powered = true) (h : s.audio.cycles < 48) (slots : List (BitVec 32)) :
    captureLevel slots s = frameBoundary slots { s with pins := { s.pins with capture := slots } } :=
  if_pos (Bool.and_eq_true_iff.2 ⟨hp, (boundaryDue_iff _).2 h⟩)

/-- Settles O50: the gain factor by `gainSearch_between`, the boundary by `frameBoundary_eq`, the slots of a line by
`placeSample_eq` and `captureSample_eq`. -/
theorem audioBoundary : Obligations.AudioBoundary := by
  unfold Obligations.AudioBoundary
  refine ⟨fun n _ => gainFactor_rounded n, fun _ => rfl, fun s slots => ⟨fun early => ?held, fun hp due => ?boundary⟩⟩
  case held => exact congrArg Host.Outcome.next (captureLevel_early early slots)
  case boundary =>
    intro n silence line ended sent takes lost heard frame fill again
    have gained : ∀ x, line x id = gainLine s.audio.config.width s.audio.gain x := fun x => by
      rw [gainLine, placeSample_eq _ rfl, placeSample_eq _ rfl]
      rfl
    have ramped : ∀ x, line x (fun v => roundDiv (v * (64 - (n : Int))) 64) =
        rampLine s.audio.config.width s.audio.gain n x := fun x => by
      rw [rampLine, placeSample_eq _ rfl, placeSample_eq _ rfl]
      rfl
    have playbackFrame : s.audio.sent = sent := by
      simp only [sent, gained, ramped]
      rfl
    have captured : captureFrame s.audio.line.width s.audio.config s.now slots = frame := by
      simp only [captureFrame, captureSample_eq]
      rfl
    refine congrArg Host.Outcome.next ((captureLevel_due hp due slots).trans ?_)
    rw [frameBoundary_eq, dividerOf_eq]
    simp only [playbackFrame]
    rw [← captured]
    rfl

end Sys2Proof.Machine
end

section
/-! PROOFS. Audio Engine: its configuration, AUDIO_START and AUDIO_STOP. -/
namespace Sys2Proof.Machine
open Sys2Proof

/-! ## AUDIO_CONFIG (R108) -/

/-- A slot width that R108 allows. -/
theorem width_mem_iff (w : Nat) : w ∈ [16, 24, 32] ↔ w = 16 ∨ w = 24 ∨ w = 32 := by simp

section
variable {body : List Byte}

theorem badChannelSlot_some {count i : Nat} (hi : i < count)
    (bad : ¬ (2 ≤ (byteAt body (2 + i)).toNat ∧ (byteAt body (2 + i)).toNat ≤ 7))
    (first : ∀ j, j < i → 2 ≤ (byteAt body (2 + j)).toNat ∧ (byteAt body (2 + j)).toNat ≤ 7) :
    badChannelSlot body count = some i := by
  have found : ((byteAt body (2 + i)).toNat < 2 || 7 < (byteAt body (2 + i)).toNat) = true := by
    simp only [Bool.or_eq_true, decide_eq_true_eq]
    omega
  rw [badChannelSlot, List.find?_range_eq_some]
  refine ⟨found, List.mem_range.2 hi, fun j hj => ?_⟩
  have good := first j hj
  simp only [Bool.not_eq_true', Bool.or_eq_false_iff, decide_eq_false_iff_not]
  omega

theorem badChannelSlot_none {count : Nat}
    (good : ∀ i, i < count → 2 ≤ (byteAt body (2 + i)).toNat ∧ (byteAt body (2 + i)).toNat ≤ 7) :
    badChannelSlot body count = none := by
  rw [badChannelSlot, List.find?_eq_none]
  intro i hi
  have := good i (List.mem_range.1 hi)
  simp only [Bool.or_eq_true, decide_eq_true_eq]
  omega

theorem audioConfigFault_width (h : ¬ (byteAt body 0).toNat ∈ [16, 24, 32]) : audioConfigFault body = some .slotWidth :=
  if_pos (mt (width_mem_iff _).2 h)

theorem audioConfigFault_count (hw : (byteAt body 0).toNat ∈ [16, 24, 32])
    (h : ¬ (1 ≤ (byteAt body 1).toNat ∧ (byteAt body 1).toNat ≤ 4)) : audioConfigFault body = some .channelCount := by
  rw [audioConfigFault, if_neg (not_not.2 ((width_mem_iff _).1 hw)), if_pos (by omega)]

theorem audioConfigFault_slots (hw : (byteAt body 0).toNat ∈ [16, 24, 32])
    (hc : 1 ≤ (byteAt body 1).toNat ∧ (byteAt body 1).toNat ≤ 4) :
    audioConfigFault body = (badChannelSlot body (byteAt body 1).toNat).map fun i => .channelSlot (i + 1) := by
  rw [audioConfigFault, if_neg (not_not.2 ((width_mem_iff _).1 hw)), if_neg (by omega)]

end

section
variable {q : Request} {s : State}

theorem audioConfig_busy (h : s.audio.playback ≠ .stopped ∨ s.audio.capturing = true) :
    audioConfig q s = ⟨s, .wrongState, .empty⟩ := if_pos h

theorem audioConfig_fault (hs : s.audio.playback = .stopped) (hc : s.audio.capturing = false) {f : Field}
    (hf : audioConfigFault q.body = some f) : audioConfig q s = ⟨s, .outOfRange, .field f⟩ := by
  rw [audioConfig, if_neg (by simp [hs, hc]), hf]
  rfl

theorem audioConfig_taken (hs : s.audio.playback = .stopped) (hc : s.audio.capturing = false)
    (hf : audioConfigFault q.body = none) : audioConfig q s = ⟨s.mapAudio fun a => { a with config := parseAudioConfig q.body }, .ok,
      .audioConfig (parseAudioConfig q.body) (framesPerBlock (parseAudioConfig q.body).channels)⟩ := by
  rw [audioConfig, if_neg (by simp [hs, hc]), hf]
  rfl

end

/-! ## AUDIO_START and AUDIO_STOP (R111, R112) -/

theorem startPlayback_popIntake (s : State) : startPlayback (popIntake s) = popIntake (startPlayback s) := by
  rw [startPlayback, startPlayback, ← computeGrants_popIntake]
  rfl

theorem stopPlayback_popIntake (s : State) : stopPlayback (popIntake s) = popIntake (stopPlayback s) := by
  rw [stopPlayback, stopPlayback, ← computeGrants_popIntake]
  rfl

theorem audioStart_popIntake (q : Request) (s : State) :
    let t := if s.audio.playback = .stopped then startPlayback s else s
    audioStart q (popIntake s) = ⟨popIntake t, .ok, .playback t.audio.playback t.audio.mute⟩ := by
  intro t
  by_cases h : s.audio.playback = .stopped
  · simp only [audioStart, popIntake_audio, t, h, if_true, startPlayback_popIntake]
    rfl
  · simp only [audioStart, popIntake_audio, t, h, if_false]
    rfl

/-- Settles O47: the refusals by `audioConfigFault`, the grants computed beside the taking of the packet. -/
theorem audioConfigStartStop : Obligations.AudioConfigStartStop := by
  unfold Obligations.AudioConfigStartStop
  intro s q
  refine ⟨fun h => ?config, fun h => ?start, fun h => ?stop⟩
  case config =>
    intro width count slot wide counted good c
    refine ⟨fun busy => act_serve_admitted (t := s) h (audioConfig_busy busy), fun hs hc => ?faults, fun hs hc hw hn hg => ?taken⟩
    case faults =>
      have names : ∀ f, audioConfigFault q.body = some f →
          exec .audioConfig s = .next { s with req := answered q .outOfRange (.field f) s.req } := fun f hf =>
        act_serve_admitted (t := s) h (audioConfig_fault (s := popIntake s) hs hc hf)
      refine ⟨fun hw => names _ (audioConfigFault_width hw), fun hw hn => names _ (audioConfigFault_count hw hn),
        fun i hw hn hi bad first => names _ ?_⟩
      rw [audioConfigFault_slots hw hn, badChannelSlot_some hi bad first]
      rfl
    case taken =>
      have none : audioConfigFault q.body = none := by
        rw [audioConfigFault_slots hw hn, badChannelSlot_none hg]
        rfl
      exact act_serve_admitted (t := { s with audio := { s.audio with config := c } }) h (audioConfig_taken hs hc none)
  case start =>
    intro any t
    exact act_serve_admitted (t := t) h (audioStart_popIntake q s)
  case stop =>
    refine ⟨fun hs => act_serve_admitted (t := s) h (if_pos hs), fun hs => ?_⟩
    intro t
    refine act_serve_admitted (t := t) h ((if_neg hs).trans ?_)
    rw [stopPlayback_popIntake]
    rfl

end Sys2Proof.Machine
end

section
/-! PROOFS. Audio Engine: volume, mute and capture requests. -/
namespace Sys2Proof.Machine
open Sys2Proof

/-! ## AUDIO_VOLUME, AUDIO_MUTE, CAPTURE_START and CAPTURE_STOP (R116 to R119) -/

theorem audioMute_body {s : State} (h : (asked s).body ≠ []) :
    muteOnField (oldestBody s) = (byteAt (asked s).body 0 != 0) := by
  rw [← asked_body]
  cases hb : (asked s).body with
  | nil => exact absurd hb h
  | cons b rest => rfl

theorem audioMute_due {s : State} (hb : (asked s).body ≠ []) (on : Bool) (hon : (byteAt (asked s).body 0 != 0) = on) :
    exec .audioMuteOn s = act (kindDue .audioMute s && on) (serve audioMuteOn) s ∧
    exec .audioMuteOff s = act (kindDue .audioMute s && !on) (serve audioMuteOff) s := by
  rw [← hon, ← audioMute_body hb]
  exact ⟨rfl, rfl⟩

/-- Settles O48: each owner's answer, by the setting it finds. -/
theorem volumeMuteCapture : Obligations.VolumeMuteCapture := by
  unfold Obligations.VolumeMuteCapture
  intro s q a
  refine ⟨fun h => ?volume, fun h => ?mute, fun h => ?captureOn, fun h => ?captureOff⟩
  case volume =>
    intro given gain level
    have clamped : clampInt (-180) 0 given = gain := clampInt_eq (by decide) given
    have flag : (clampInt (-180) 0 given != given) = decide (given < -180 ∨ 0 < given) := by
      rw [clampInt_bne (by decide), Bool.decide_or]
    have requested : levelOf gain = level := levelOf_eq gain
    refine act_serve_admitted (t := { s with audio := { a with requested := gain } }) h ?_
    rw [← flag, ← requested, ← clamped]
    rfl
  case mute =>
    intro replied
    refine ⟨fun on hb => ?_, fun off hb => ?_⟩
    · rw [(audioMute_due hb true (by simpa using on)).1, Bool.and_true]
      refine act_serve_admitted (t := { s with audio := silenced .host a }) h ?_
      rw [← muteOn_eq]
      rfl
    · rw [(audioMute_due hb false (by simpa using off)).2, Bool.not_false, Bool.and_true]
      refine act_serve_admitted (t := { s with audio := unsilenced .host a }) h ?_
      rw [← muteOff_eq]
      rfl
  case captureOn =>
    refine act_serve_admitted (t := { s with
      audio := if a.capturing then a else { a with capturing := true, skip := true } }) h ?_
    cases on : a.capturing with
    | true => simp only [captureStart, popIntake_audio, show s.audio.capturing = true from on]; rfl
    | false => simp only [captureStart, popIntake_audio, show s.audio.capturing = false from on]; rfl
  case captureOff =>
    refine ⟨fun on => ?_, fun off => ?_⟩
    · exact act_serve_admitted (t := stopCapture s) h (if_pos on)
    · exact act_serve_admitted (t := s) h (if_neg (ne_true_of_eq_false off))

end Sys2Proof.Machine
end

section
/-! PROOFS. Audio Engine: gain steps, codec fault edges, and thresholds that come alone. -/
namespace Sys2Proof.Machine
open Sys2Proof

/-! ## The Audio Engine's own events (R107, R113, R114, R118) -/

theorem stepGain_eq (a : Audio) : a.stepGain = { a with gain :=
    if a.gain < a.target then a.gain + 1 else if a.target < a.gain then a.gain - 1 else a.gain } := by
  unfold Audio.stepGain
  split
  · rfl
  · split <;> rfl

/-- A level that repeats, or comes to a part held in reset, only stands at the pin (log 8, log 20). -/
theorem faultLevel_repeats {s : State} {b : Bool} (h : s.powered = false ∨ s.audio.mute.codec = b) :
    faultLevel b s = { s with pins := { s.pins with codecFault := b } } := by
  rcases h with h | rfl
  · simp [faultLevel, h, State.mapPins]
  · cases hc : s.audio.mute.codec <;> simp [faultLevel, faultDue, faultClearDue, hc, State.mapPins]

theorem faultLevel_asserts {s : State} (hp : s.powered = true) (hc : s.audio.mute.codec = false) :
    faultLevel true s = assertFault { s with pins := { s.pins with codecFault := true } } :=
  if_pos (Bool.and_eq_true_iff.2 ⟨hp, (faultDue_iff { s with pins := { s.pins with codecFault := true } }).2 ⟨rfl, hc⟩⟩)

theorem faultLevel_deasserts {s : State} (hp : s.powered = true) (hc : s.audio.mute.codec = true) :
    faultLevel false s = deassertFault { s with pins := { s.pins with codecFault := false } } :=
  (if_neg (by simp [faultDue])).trans (if_pos (Bool.and_eq_true_iff.2 ⟨hp,
    (faultClearDue_iff { s with pins := { s.pins with codecFault := false } }).2 ⟨rfl, hc⟩⟩))

theorem unsilenced_absent {c : MuteCause} {a : Audio} (h : a.mute.get c = false) : unsilenced c a = a :=
  if_neg (by simp [h])

theorem mutes_any_iff (m : Mutes) : m.any = true ↔ m.host = true ∨ m.link = true ∨ m.codec = true ∨ m.power = true := by
  simp only [Mutes.any, Bool.or_eq_true, or_assoc]

/-- Settles O51: each event by what makes it due. -/
theorem audioEvents : Obligations.AudioEvents := by
  unfold Obligations.AudioEvents
  intro s a target pinned
  refine ⟨fun hp ht hd => ?gain, fun hp hc => ?assert, fun h => ?asserted, fun hp => ?deassert, fun hp => ?held,
    fun hp hr => ?divider, fun hp hm hr => ?rampEnd⟩
  case gain =>
    refine act_eq hp ((multipleOf_pending_iff s 1000 _).2 ⟨ht, hd⟩) ?_
    rw [stepGain, State.mapAudio, stepGain_eq]
    rfl
  case assert =>
    refine congrArg Host.Outcome.next ((faultLevel_asserts hp hc).trans ?_)
    rw [assertFault, setMute, if_pos rfl, raise_eq, State.mapAudio, muteOn_eq]
    rfl
  case asserted => exact congrArg Host.Outcome.next (faultLevel_repeats h)
  case deassert =>
    refine congrArg Host.Outcome.next ?_
    cases hc : s.audio.mute.codec with
    | true =>
      refine (faultLevel_deasserts hp hc).trans ?_
      rw [deassertFault, setMute, if_neg (by decide), State.mapAudio, muteOff_eq]
    | false => rw [faultLevel_repeats (.inr hc), unsilenced_absent (c := .codec) hc]
  case held => exact congrArg Host.Outcome.next (faultLevel_repeats (.inl hp))
  case divider =>
    refine act_eq hp (decide_eq_true hr) ?_
    simp only [recomputeDivider, dividerOf_eq]
    rfl
  case rampEnd =>
    have due : rampReached s = true := Bool.and_eq_true_iff.2 ⟨beq_iff_eq.2 hm, decide_eq_true hr⟩
    refine act_eq hp due ?_
    simp only [← mutes_any_iff]
    rfl

end Sys2Proof.Machine
end

section
/-! PROOFS. The Power Manager beside the other blocks: what leaves it and the fixed loads as they are, and R142. -/
namespace Sys2Proof.Machine
open Sys2Proof

/-! ## The Power Manager and the fixed loads handed to it (R126) -/

/-- The Power Manager, and the fixed loads as their owners hand them to it (R126). -/
structure Supply where
  power : Power
  loads : FixedLoads

def supply (s : State) : Supply := ⟨s.power, s.fixedLoads⟩

theorem supply_of_parts {s t : State} (disp : t.disp = s.disp) (motion : t.motion = s.motion) (power : t.power = s.power) :
    supply t = supply s := by
  simp only [supply, State.fixedLoads, disp, motion, power]

section
variable (s : State)

/-- A change of the Display Output that leaves each panel as the load it was. -/
theorem supply_mapDisp {f : Display → Display}
    (h : ∀ e, ((f s.disp).eyes.get e).panel.powered = (s.disp.eyes.get e).panel.powered) :
    supply (s.mapDisp f) = supply s := by
  have left : (f s.disp).eyes.left.panel.powered = s.disp.eyes.left.panel.powered := h .left
  have right : (f s.disp).eyes.right.panel.powered = s.disp.eyes.right.panel.powered := h .right
  simp only [supply, State.fixedLoads, mapDisp_disp, left, right]
  rfl

theorem supply_mapEye (e : Eye) {f : EyeDisplay → EyeDisplay}
    (h : (f (s.disp.eyes.get e)).panel.powered = (s.disp.eyes.get e).panel.powered) : supply (s.mapEye e f) = supply s := by
  refine supply_mapDisp s fun k => ?_
  by_cases hk : k = e
  · rw [hk, PerEye_get_set_same, h]
  · rw [PerEye_get_set_other _ _ _ _ hk]

/-- A change of a camera channel that leaves its enable. -/
theorem supply_mapCam (c : Camera) {f : Cam → Cam}
    (h : (f (s.motion.cams.get c)).enabled = (s.motion.cams.get c).enabled) : supply (s.mapCam c f) = supply s := by
  have cams : anyCamera (s.mapCam c f).motion = anyCamera s.motion := by
    revert h
    match c with
    | 0 | 1 | 2 | 3 => intro h; simp only [anyCamera, mapCam_cams, PerCam.set]; rw [h]; rfl
  simp only [supply, State.fixedLoads, cams]
  rfl

theorem lightEye_panel (e : Eye) : (lightEye s e).panel = (s.disp.eyes.get e).panel := by
  unfold lightEye
  split <;> rfl

theorem supply_lights : supply (lights s) = supply s := by
  simp only [supply, State.fixedLoads, lights, lightEye_panel]
  rfl

theorem supply_raise (x : Source) (d : Detail) : supply (raise x d s) = supply s := rfl

theorem supply_raiseIf (c : Bool) (x : Source) (d : Detail) : supply (raiseIf c x d s) = supply s := by
  cases c <;> rfl

theorem supply_offer (r : Report) : supply (offer r s) = supply s :=
  supply_of_parts (offer_disp s r) (offer_motion s r) (offer_power s r)

theorem supply_blank (c : Cause) : supply (blank c s) = supply s := by
  unfold blank
  split
  · rfl
  · exact (supply_lights _).trans (supply_raiseIf _ _ _ _)

theorem supply_unblank (c : Cause) : supply (unblank c s) = supply s := rfl

theorem supply_setMute (c : MuteCause) (p : Bool) : supply (setMute c p s) = supply s := rfl

theorem supply_setBlank (c : Cause) (p : Bool) : supply (setBlank c p s) = supply s := by
  cases p
  · rfl
  · exact supply_blank s c

/-! ## Timebase and phase lock -/

theorem supply_changeSync (a : Sync) (c : SyncCause) (e : Option Int) : supply (changeSync a c e s) = supply s := by
  rw [changeSync_eq]
  rfl

theorem supply_changePhase (m : PhaseMode) (told : Bool) : supply (changePhase m told s) = supply s := by
  rw [changePhase_eq]
  rfl

theorem supply_loosenPhase : supply (loosenPhase s) = supply s := by
  rw [loosenPhase_eq]
  rfl

theorem supply_receiveMark (d : Tick) (p : List Byte) : supply (receiveMark d p s) = supply s := by
  have processed : ∀ h, supply (processMark d h s) = supply s := fun h => by
    unfold processMark
    split
    · exact supply_changeSync _ _ _ _
    · rfl
    · exact supply_changeSync _ _ _ _
    · rfl
    · exact supply_changeSync _ _ _ _
    · rw [updateMark, lockUpdate_eq]
      rfl
  unfold receiveMark
  split
  · exact processed _
  · rfl

/-! ## Packets handed to their owners (R50, R52, R109, R161) -/

theorem supply_receiveHead (p : List Byte) : supply (receiveHead p s) = supply s := by
  have taken : ∀ e h, supply (takeHead e h s) = supply s := fun e h => by
    have pending : supply ((s.mapDisp fun d => { d with headsReceived := d.headsReceived + 1 }).mapEye e fun d =>
        { d with pending := some h }) = supply s := supply_mapEye _ e rfl
    unfold takeHead
    dsimp only
    split <;> exact pending
  unfold receiveHead
  split
  · exact taken _ _
  · rfl

theorem supply_receiveRow (p : List Byte) : supply (receiveRow p s) = supply s := by
  unfold receiveRow
  split
  · unfold takeRow
    split
    · exact supply_mapEye s _ (f := fun d => { d with lines := d.lines.write _ _ }) rfl
    · rfl
  · rfl

theorem supply_receiveBlock (p : List Byte) : supply (receiveBlock p s) = supply s := by
  unfold receiveBlock
  split
  · unfold takeBlock
    dsimp only
    split
    · rfl
    · rfl
    all_goals exact supply_raiseIf _ _ _ _
  · rfl

theorem supply_admitCtrl (p : List Byte) : supply (admitCtrl p s) = supply s := by
  unfold admitCtrl
  split <;> rfl

/-! ## Sessions and the link state (R143 to R147) -/

theorem supply_startSession : supply (startSession s) = supply s := by
  have told : ∀ t, supply (phaseSessionStart (timebaseSessionStart t)) = supply t := fun _ =>
    (supply_changePhase _ _ _).trans (supply_changeSync _ _ _ _)
  unfold startSession
  exact (supply_raise _ _ _).trans ((supply_setMute _ _ _).trans ((supply_lights _).trans ((supply_unblank _ _).trans
    (told _))))

theorem supply_endSession : supply (endSession s) = supply s :=
  supply_blank (withdrawCommit ((s.mapLink Link.closeSession).mapReq Requests.flush)) .link

/-- A valid packet leaves what its owner leaves, whatever the Link Controller counts. -/
theorem supply_completeValid {hand : State → State} (h : ∀ t, supply (hand t) = supply t) (f : Link → Link) :
    supply (completeValid hand (s.mapLink f)) = supply s := by
  unfold completeValid
  dsimp only
  split
  · rfl
  · rfl
  · split
    · exact (h _).trans (supply_startSession _)
    · rfl
  · exact h _
  · exact h _

end

/-! ## The link session (R142) -/

/-- A command leaves what its effect leaves. -/
theorem supply_of_act {s t : State} {due : Bool} {f : State → State} (h : supply (f s) = supply s)
    (ht : act due f s = .next t) : supply t = supply s := by
  cases ht
  split
  · exact h
  · rfl

theorem supply_of_packet {s t : State} {hand : State → State} (h : ∀ u, supply (hand u) = supply u) (f : Link → Link)
    (ht : act true (fun s => completeValid hand (s.mapLink f)) s = .next t) : supply t = supply s :=
  supply_of_act (supply_completeValid s h f) ht

/-- A valid packet leaves the Power Manager and the fixed loads, whatever its class (R142). -/
theorem supply_packet {c : Instr} {s t : State} (hc : (packetCount c).isSome = true) (ht : exec c s = .next t) :
    supply t = supply s := by
  cases c with
  | frameHead p => exact supply_of_packet (fun u => supply_receiveHead u p) _ ht
  | row p => exact supply_of_packet (fun u => supply_receiveRow u p) _ ht
  | malformedVideoPacket => exact supply_of_packet (hand := countMalformed) (fun _ => rfl) _ ht
  | audioBlock p => exact supply_of_packet (fun u => supply_receiveBlock u p) _ ht
  | ctrl p => exact supply_of_packet (fun u => supply_admitCtrl u p) _ ht
  | timeMark age p => exact supply_of_packet (fun u => supply_receiveMark u (s.capturedTick age) p) _ ht
  | fill _ => exact supply_of_packet (hand := id) (fun _ => rfl) _ ht
  | unknownClassPacket => exact supply_of_packet (hand := id) (fun _ => rfl) _ ht
  | _ => exact absurd hc Bool.false_ne_true

/-- Settles O8: packets by `supply_packet`, the link's own events each by what it leaves. -/
theorem linkSparesPower : Obligations.LinkSparesPower := by
  unfold Obligations.LinkSparesPower
  intro c s t hc ht
  refine congrArg Supply.power (show supply t = supply s from ?_)
  rcases hc with packet | rfl | rfl | rfl | rfl
  case inl => exact supply_packet packet ht
  case inr.inl => exact supply_of_act (f := completeBad) rfl ht
  case inr.inr.inl => exact supply_of_act (supply_startSession s) ht
  case inr.inr.inr.inl => exact supply_of_act (f := enterHold) rfl ht
  case inr.inr.inr.inr => exact supply_of_act (supply_endSession s) ht

end Sys2Proof.Machine
end

section
/-! PROOFS. The Power Manager: the input monitor, the brownout and the derate level. -/
namespace Sys2Proof.Machine
open Sys2Proof

/-! ## The derate level (R133) -/

theorem derateUp_eq (s : State) : derateUp s = derated s := by
  simp only [derateUp, bump_eq_min, raise_eq]
  rfl

section
variable {p : Power}

theorem countAverage_above (h : p.contract < p.average) :
    p.countAverage = { p with overdraw := p.overdraw + 1, recovery := 0 } := if_pos h

theorem countAverage_between (h : p.average ≤ p.contract) (h95 : p.contract * 95 < p.average * 100) :
    p.countAverage = { p with overdraw := 0, recovery := 0 } :=
  (if_neg h.not_gt).trans (if_pos h95)

theorem countAverage_below (h : p.average * 100 ≤ p.contract * 95) :
    p.countAverage = { p with overdraw := 0, recovery := p.recovery + 1 } :=
  (if_neg (by omega)).trans (if_neg h.not_gt)

end

section
variable {s : State}

theorem closeAverage_none (h : s.power.count = 0) : closeAverage s = s := if_neg (by omega)

/-- A frame with samples closes its average, and the counts are judged (R132, R133). -/
theorem closeAverage_counted {p : Power} (h : 0 < s.power.count)
    (hp : Power.countAverage { s.power with average := s.power.sum / s.power.count, sum := 0, count := 0 } = p) :
    closeAverage s = if 4 ≤ p.overdraw then derated { s with power := p }
      else if 16 ≤ p.recovery then derateDown { s with power := p } else { s with power := p } := by
  subst hp
  rw [closeAverage, if_pos h, judgeAverage, ← derateUp_eq]
  simp only [overdrawReached, headroomReached, decide_eq_true_eq]
  rfl

end

/-- Settles O46: the counts by `Power.countAverage`, the level by the count that has reached its limit. -/
theorem derateLevel : Obligations.DerateLevel := by
  unfold Obligations.DerateLevel
  intro s average p
  refine ⟨closeAverage_none, fun some above => ?above, fun some within over95 => ?between, fun some below => ?below,
    fun hp h4 => ?up, fun hp h16 => act_eq hp (decide_eq_true h16) rfl⟩
  case above =>
    intro counted
    exact (closeAverage_counted some (countAverage_above (p := p) above)).trans
      (congrArg (ite _ _) (if_neg (show ¬ 16 ≤ 0 by decide)))
  case between =>
    exact (closeAverage_counted some (countAverage_between (p := p) within over95)).trans
      ((if_neg (show ¬ 4 ≤ 0 by decide)).trans (if_neg (show ¬ 16 ≤ 0 by decide)))
  case below =>
    refine (closeAverage_counted some (countAverage_below (p := p) below)).trans
      ((if_neg (show ¬ 4 ≤ 0 by decide)).trans ?_)
    split <;> rfl
  case up => exact act_eq hp (decide_eq_true h4) (derateUp_eq s)

/-! ## The brownout (R134, R135) -/

theorem strobeLit_brownout {s : State} (h : s.power.brownout = true) (e : Eye) : strobeLit s e = false := by
  simp [strobeLit, h]

theorem illumLit_brownout {s : State} (h : s.power.brownout = true) (c : Camera) : illumLit s c = false := by
  simp [illumLit, h]

/-- In a brownout the lights go dark (R134). -/
theorem lights_brownout {s : State} (h : s.power.brownout = true) : lights s = { s with
    disp := { s.disp with eyes := s.disp.eyes.map fun d => { d with drive := 0 } }
    motion := { s.motion with cams := s.motion.cams.map fun k => { k with drive := 0 } } } := by
  have eye : ∀ e, lightEye s e = { s.disp.eyes.get e with drive := 0 } := fun e =>
    lightEye_of_dark (strobeLit_brownout h e)
  have cam : ∀ c, lightCam s c = { s.motion.cams.get c with drive := 0 } := fun c => by
    rw [lightCam, illumLit_brownout h]
    rfl
  rw [lights, eye, eye, cam, cam, cam, cam]
  rfl

/-- A brownout begins at the voltage of the last sample (R134). -/
theorem beginBrownout_eq {s : State} {mv : Nat} (h : (s.power.sample.map InputSample.mv).getD 0 = mv) :
    beginBrownout s = brownoutBegun mv s := by
  let low : State := s.mapPower fun p => { p with brownout := true, highRun := 0 }
  have sound : blank .power (lights low) = blanked .power (lights low) := blank_of_sound .power (lights_sound low)
  have silent : (blanked .power (lights low)).audio = s.audio := by
    rw [← sound, blank_audio]
    rfl
  have now : (blanked .power (lights low)).now = s.now := by
    rw [← sound, blank_now]
    rfl
  have dark := lights_brownout (s := low) rfl
  calc beginBrownout s
      = raise .powerManager (.brownout mv) (setMute .power true (blanked .power (lights low))) := by
        rw [← sound, ← h]
        rfl
    _ = { blanked .power (lights low) with
          audio := silenced .power s.audio
          req := withEvent true .powerManager (.brownout mv) s.now (blanked .power (lights low)).req } := by
        rw [raise_eq, setMute, if_pos rfl, State.mapAudio, muteOn_eq, silent, ← now]
        rfl
    _ = brownoutBegun mv s := by
        rw [dark]
        rfl

/-- Lights that are dark, and stay dark by their conditions, are as they should be. -/
theorem lights_of_dark {s : State} (strobes : ∀ e, strobeLit s e = false ∧ (s.disp.eyes.get e).drive = 0)
    (illums : ∀ c, illumLit s c = false ∧ (s.motion.cams.get c).drive = 0) : lights s = s := by
  refine lights_of_sound ⟨fun e => ?_, fun c => ?_⟩
  · obtain ⟨dark, drive⟩ := strobes e
    rw [dark, drive]
    exact ⟨rfl, fun lit => absurd lit Bool.false_ne_true⟩
  · obtain ⟨dark, drive⟩ := illums c
    rw [dark, drive]
    rfl

/-- The POWER mute cause as the granted level asks for it (R113, R135). -/
theorem powerMuted_eq (l : Level) (a : Audio) : (if l == .l0 then Audio.muteOn .power else Audio.muteOff .power) a =
    if l = .l0 then silenced .power a else unsilenced .power a := by
  by_cases h : l = .l0
  · rw [if_pos (beq_iff_eq.2 h), if_pos h, muteOn_eq]
  · rw [if_neg (mt beq_iff_eq.1 h), if_neg h, muteOff_eq]

/-- A brownout ends: the POWER latch keeps the strobes dark, and the illuminators wait for the next frame start (R135). -/
theorem endBrownout_eq {s : State} (hs : LightsSound s) (hb : s.power.brownout = true)
    (present : s.disp.present.power = true) (latched : s.disp.latches.power = true) :
    endBrownout s = brownoutEnded s := by
  let ended : State := (s.mapPower fun p => { p with brownout := false, lowRun := 0 }).mapMotion fun m =>
    { m with darkened := true }
  have shown : setBlank .power s.power.overContract ended =
      { ended with disp := { s.disp with present := { s.disp.present with power := s.power.overContract } } } := by
    cases s.power.overContract with
    | false => rfl
    | true =>
      have stays : { s.disp.present with power := true } = s.disp.present := by rw [← present]
      rw [stays]
      exact if_pos present
  have heard : setMute .power (s.power.audioGrant == .l0) (setBlank .power s.power.overContract ended) = brownoutEnded s := by
    rw [shown]
    exact congrArg (fun a => ({ brownoutEnded s with audio := a } : State)) (powerMuted_eq s.power.audioGrant s.audio)
  refine (congrArg lights heard).trans (lights_of_dark (fun e => ⟨?_, ?_⟩) fun c => ⟨?_, ?_⟩)
  · have any : (brownoutEnded s).disp.latches.any = true := by simp [brownoutEnded, Causes.any, latched]
    simp [strobeLit, any]
  · exact (hs.1 e).1.trans (if_neg (by simp [strobeLit_brownout hb]))
  · simp [illumLit, brownoutEnded]
  · exact (hs.2 c).trans (if_neg (by simp [illumLit_brownout hb]))

/-! ## The input monitor (R132, R136) -/

/-- A voltage and a current at a time that is no sampling time only stand at the pins (log 8). -/
theorem inputLevel_ignored {s : State} {mv : Nat} (ma : Nat) (hv : 9000 ≤ mv)
    (h : s.powered = false ∨ s.now.toNat % 100 ≠ 0 ∨ s.clock.monitorDone = true) :
    inputLevel mv ma s = { s with pins := { s.pins with mv := mv, ma := ma } } := by
  refine (if_neg hv.not_gt).trans (if_neg fun due => ?_)
  obtain ⟨powered, due⟩ := Bool.and_eq_true_iff.1 due
  obtain ⟨sampling, notDone⟩ := (multipleOf_pending_iff s 100 _).1 due
  rcases h with h | h | h
  · exact Bool.noConfusion (h.symm.trans powered)
  · exact h sampling
  · exact Bool.noConfusion (h.symm.trans notDone)

/-- The state after a sample is taken, with the Power Manager but for it as `p` (R132). -/
def monitored (mv ma : Nat) (s : State) (p : Power) : State := { s with
  pins := { s.pins with mv := mv, ma := ma }
  clock := { s.clock with monitorDone := true }
  power := { p with
    sample := some ⟨mv, ma, mv * ma / 1000⟩
    sum := if s.tl.running then p.sum + mv * ma / 1000 else p.sum
    count := if s.tl.running then p.count + 1 else p.count } }

theorem addSample_eq (running : Bool) (x : InputSample) (p : Power) : p.addSample running x = { p with
    sample := some x
    sum := if running then p.sum + x.mw else p.sum
    count := if running then p.count + 1 else p.count } := by
  cases running <;> rfl

/-- At a sampling time the run that moves is the one of the brownout's state (R132, R134, R135). -/
theorem inputLevel_sampled {s : State} {mv : Nat} (ma : Nat) (hv : 9000 ≤ mv) (hp : s.powered = true)
    (hz : s.now.toNat % 100 = 0) (hd : s.clock.monitorDone = false) : inputLevel mv ma s =
      if s.power.brownout then countHigh mv (monitored mv ma s s.power) else countLow mv (monitored mv ma s s.power) := by
  have due : (s.powered && monitorDue s) = true :=
    Bool.and_eq_true_iff.2 ⟨hp, (multipleOf_pending_iff s 100 _).2 ⟨hz, hd⟩⟩
  refine ((if_neg hv.not_gt).trans (if_pos due)).trans ?_
  rw [takeSample, State.mapPower, addSample_eq]
  rfl

/-- The third sample of a low run begins a brownout (R134). -/
theorem countLow_monitored {s : State} (mv ma : Nat) (hb : s.power.brownout = false) :
    let low := if mv < 10800 then min 3 (s.power.lowRun + 1) else 0
    let t := monitored mv ma s { s.power with lowRun := low }
    countLow mv (monitored mv ma s s.power) = if low = 3 then brownoutBegun mv t else t := by
  intro low t
  have counted : (monitored mv ma s s.power).mapPower (fun p =>
      { p with lowRun := if mv < 10800 then bump 3 p.lowRun else 0 }) = t := by
    simp only [bump_eq_min]
    rfl
  have reached : brownoutReached t = true ↔ low = 3 := by
    have le : low ≤ 3 := by
      simp only [low]
      split <;> omega
    rw [brownoutReached, show t.power.brownout = false from hb, Bool.not_false, Bool.true_and, decide_eq_true_eq]
    exact ⟨fun h => le_antisymm le h, fun h => h.ge⟩
  rw [countLow, counted, beginBrownout_eq (s := t) (mv := mv) rfl]
  exact if_congr reached rfl rfl

/-- The 101st sample of a high run ends the brownout (R135). -/
theorem countHigh_monitored {s : State} (hs : LightsSound s) (mv ma : Nat) (hb : s.power.brownout = true)
    (present : s.disp.present.power = true) (latched : s.disp.latches.power = true) :
    let high := if 11200 ≤ mv then min 101 (s.power.highRun + 1) else 0
    let t := monitored mv ma s { s.power with highRun := high }
    countHigh mv (monitored mv ma s s.power) = if high = 101 then brownoutEnded t else t := by
  intro high t
  have counted : (monitored mv ma s s.power).mapPower (fun p =>
      { p with highRun := if 11200 ≤ mv then bump 101 p.highRun else 0 }) = t := by
    simp only [bump_eq_min]
    rfl
  have sound : LightsSound t := .via rfl hs
  have reached : recoveryReached t = true ↔ high = 101 := by
    have le : high ≤ 101 := by
      simp only [high]
      split <;> omega
    rw [recoveryReached, show t.power.brownout = true from hb, Bool.true_and, decide_eq_true_eq]
    exact ⟨fun h => le_antisymm le h, fun h => h.ge⟩
  rw [countHigh, counted, endBrownout_eq sound hb present latched]
  exact if_congr reached rfl rfl

/-- Settles O45: a sample by the run that moves, begin and end of a brownout by what they leave of the lights. -/
theorem inputMonitor : Obligations.InputMonitor := by
  unfold Obligations.InputMonitor
  refine fun s hs => ⟨fun mv ma => ?sample, fun hp hb h3 => ?begins, fun hp hb h101 present latched => ?ends⟩
  case sample =>
    refine ⟨fun held => congrArg Host.Outcome.next (if_pos held),
      fun hv early => congrArg Host.Outcome.next (inputLevel_ignored ma hv early), fun hv hp hz hd => ?_⟩
    have sampled := inputLevel_sampled ma hv hp hz hd
    refine ⟨fun hb => ?_, fun hb present latched => ?_⟩
    · exact congrArg Host.Outcome.next (sampled.trans ((if_neg (by simp [hb])).trans (countLow_monitored mv ma hb)))
    · exact congrArg Host.Outcome.next
        (sampled.trans ((if_pos hb).trans (countHigh_monitored hs mv ma hb present latched)))
  case begins =>
    have due : brownoutReached s = true := by simp [brownoutReached, hb, h3]
    exact act_eq hp due (beginBrownout_eq rfl)
  case ends =>
    have due : recoveryReached s = true := by simp [recoveryReached, hb, h101]
    exact act_eq hp due (endBrownout_eq hs hb present latched)

end Sys2Proof.Machine
end

section
/-! PROOFS. The contract: a grant computation keeps loads and grants within it, and what else leaves them alone (R129). -/
namespace Sys2Proof.Machine
open Sys2Proof

/-! ## What the bound reads (R126, R129) -/

/-- What the bound reads of the Power Manager: the contract, the consumer lines, the granted level and its cost. -/
def Power.grants (p : Power) : Nat × PerEye Consumer × PerCam Consumer × Level × Nat :=
  (p.contract, p.strobe, p.illum, p.audioGrant, p.audioCost)

/-- From `s` to `t` loads and grants that are within the contract stay within it. -/
def KeepsContract (s t : State) : Prop := WithinContract s → WithinContract t

theorem KeepsContract.refl (s : State) : KeepsContract s s := id

/-- A step that keeps the contract, after one that keeps it. -/
theorem KeepsContract.after {s t u : State} (k : KeepsContract t u) (h : KeepsContract s t) : KeepsContract s u := k ∘ h

/-- A step that ends within the contract keeps it, whatever came before. -/
theorem KeepsContract.of_within {s t : State} (h : WithinContract t) : KeepsContract s t := fun _ => h

theorem KeepsContract.of_grants {s t : State} (power : t.power.grants = s.power.grants) (loads : t.fixedLoads = s.fixedLoads) :
    KeepsContract s t := by
  simp only [Power.grants, Prod.mk.injEq] at power
  obtain ⟨contract, strobe, illum, grant, cost⟩ := power
  unfold KeepsContract WithinContract NothingGranted State.available State.fixedSum
  rw [loads, contract, strobe, illum, grant, cost]
  exact id

/-- A step that leaves the Power Manager and the fixed loads as they are. -/
theorem KeepsContract.of_supply {s t : State} (h : supply t = supply s) : KeepsContract s t := by
  have power : t.power = s.power := congrArg Supply.power h
  exact .of_grants (congrArg Power.grants power) (congrArg Supply.loads h)

/-- A last part that leaves the Power Manager and the fixed loads as they are. -/
theorem KeepsContract.via {s t u : State} (k : supply u = supply t) (h : KeepsContract s t) : KeepsContract s u :=
  .after (.of_supply k) h

theorem KeepsContract.ite {s t u : State} {c : Prop} [Decidable c] (h : KeepsContract s t) (k : KeepsContract s u) :
    KeepsContract s (if c then t else u) := by
  split
  · exact h
  · exact k

/-- A change of the Power Manager that spares contract and grants. -/
theorem keepsContract_mapPower (s : State) {f : Power → Power} (h : (f s.power).grants = s.power.grants) :
    KeepsContract s (s.mapPower f) := .of_grants h rfl

/-! ## The grant computation (R129) -/

theorem nothingGranted_refused {d : Demand} {fs fi : Nat} {above : Bool} {p : Power} :
    NothingGranted (Power.grant d noGrants fs fi above p) := by
  have illum : ∀ r on w, (illumLine r on w d.period 0).grant = 0 := fun r on w => by cases on <;> simp [illumLine]
  refine ⟨fun e => ?_, fun c => ?_, rfl⟩
  · cases e <;> simp [Power.grant, price, noGrants, strobeLine, PerEye.get]
  · match c with
    | 0 | 1 | 2 | 3 => exact illum _ _ _

/-- After a grant computation fixed loads and grants are within the contract, or nothing is granted (R129). -/
theorem computeGrants_within (s : State) : WithinContract (computeGrants s) := by
  rw [WithinContract, computeGrants_available, computeGrants_fixedSum, computeGrants_contract, computeGrants_power]
  split
  next enough =>
    obtain ⟨x, _, _, _, _, fits, granted⟩ := computePower_granted enough
    rw [granted]
    rw [State.available] at fits
    show s.fixedSum + (price (demand s) x).total ≤ s.power.contract
    omega
  next short =>
    obtain ⟨_, _, _, _, refused⟩ := computePower_refused (not_le.1 short)
    rw [refused]
    exact nothingGranted_refused

/-- A change that may move a fixed load keeps the contract, where the computation follows if one has moved (R126). -/
theorem keepsContract_computeIf {s t : State} {b : Bool} (h : b = false → KeepsContract s t) :
    KeepsContract s (computeIf b t) := by
  cases b with
  | false => exact h rfl
  | true => exact .of_within (computeGrants_within t)

/-- In a part held in reset nothing costs but CORE (R136). -/
theorem holdReset_within (s : State) : WithinContract (holdReset s) := by
  have reset : WithinContract State.reset := by
    rw [WithinContract, if_pos (by decide)]
    decide
  exact KeepsContract.of_supply rfl reset

/-! ## Requests taken (R162 to R167) -/

section
variable (s : State)

theorem supply_mapReq (f : Requests → Requests) : supply (s.mapReq f) = supply s := rfl

theorem supply_finishWaiting (p : Wait → Bool) (st : Status) (b : Entry → ReplyBody) :
    supply (finishWaiting p st b s) = supply s := rfl

theorem supply_refuse (q : Request) (g : Group) (st : Status) (b : ReplyBody) : supply (refuse q g st b s) = supply s := by
  have recorded : supply (recordFault q g s) = supply s := supply_of_parts (by simp) (by simp) (by simp)
  unfold refuse
  split
  · exact recorded
  · rfl

theorem keepsContract_checked (q : Request) (row : KindRow) {pass : State → State} (h : KeepsContract s (pass s)) :
    KeepsContract s (checked q row pass s) := by
  unfold checked
  split
  · exact .of_supply rfl
  · exact .of_supply (supply_refuse s _ _ _ _)
  · exact h

theorem keepsContract_serve {owner : Request → State → Done} (h : ∀ q t, KeepsContract t (owner q t).state) :
    KeepsContract s (serve owner s) := by
  unfold serve
  split
  · exact .after (keepsContract_checked _ _ _ (.via rfl (h _ _))) (.of_supply rfl)
  · exact .refl s

theorem supply_heldReply (q : Request) (w : Wait) (d : Held) : supply (d.reply q w) = supply d.state := by
  unfold Held.reply
  split <;> rfl

theorem keepsContract_serveHeld {wait : Request → Wait} {owner : Request → State → Held}
    (h : ∀ q t, KeepsContract t (owner q t).state) : KeepsContract s (serveHeld wait owner s) := by
  unfold serveHeld
  split
  · exact .after (keepsContract_checked _ _ _ (.via (supply_heldReply _ _ _) (.after (h _ _) (.of_supply rfl))))
      (.of_supply rfl)
  · exact .refl s

theorem supply_serveUnknown : supply (serveUnknown s) = supply s := by
  unfold serveUnknown
  split
  · dsimp only
    split <;> rfl
  · rfl

end

end Sys2Proof.Machine
end

section
/-! PROOFS. The contract: what the commands of each block do to loads and grants. -/
namespace Sys2Proof.Machine
open Sys2Proof

section
variable (s : State)

/-! ## Display Output and Late Shift Unit -/

theorem keepsContract_lateShift (q : Request) : KeepsContract s (lateShift q s).state := by
  have stored : ∀ (e : Eye) (o : Option LateOutcome) (t : State), supply (storeLate e o t) = supply t := fun e o t => by
    unfold storeLate
    split
    · exact supply_mapEye t e rfl
    · rfl
  unfold lateShift
  split
  · exact .refl s
  · dsimp only
    split
    · exact .refl s
    · exact .of_supply ((stored _ _ _).trans (stored _ _ _))

theorem keepsContract_panelOn (q : Request) : KeepsContract s (panelOn q s).state := by
  unfold panelOn
  split
  · exact .refl s
  · split
    · exact .refl s
    · split
      · exact .refl s
      · split
        · exact .refl s
        · exact .of_within (computeGrants_within _)

/-- Named eyes whose panels are no load and stay none. -/
theorem supply_mapNamed_off {n : PerEye Bool} {f : EyeDisplay → EyeDisplay} (hf : ∀ d, (f d).panel = .off)
    (h : anyNamed n (fun e => (s.panel e).powered) = false) : supply (mapNamed n f s) = supply s := by
  have off : ∀ e, n.get e = true → (s.disp.eyes.get e).panel.powered = false := fun e he => by
    obtain ⟨left, right⟩ := Bool.or_eq_false_iff.1 h
    cases e with
    | left => exact (Bool.and_eq_false_imp.1 left) he
    | right => exact (Bool.and_eq_false_imp.1 right) he
  refine supply_mapDisp s fun e => ?_
  show ((mapNamed n f s).disp.eyes.get e).panel.powered = _
  rw [mapNamed_get]
  split
  next he => rw [hf, off e he]; rfl
  next => rfl

theorem keepsContract_panelOff (q : Request) : KeepsContract s (panelOff q s).state := by
  unfold panelOff
  split
  · exact .refl s
  · exact .via rfl (keepsContract_computeIf fun off =>
      .of_supply ((supply_lights _).trans (supply_mapNamed_off s (fun _ => rfl) off)))

/-- A panel that has woken is the load it was (R126). -/
theorem keepsContract_wakeExpiry (e : Eye) (h : wakeDue s e = true) : KeepsContract s (wakeExpiry e s) := by
  have waking : (s.disp.eyes.get e).panel = .waking := ((wakeDue_iff s e).1 h).1
  have woken : supply (s.mapEye e fun d => { d with panel := .on }) = supply s :=
    supply_mapEye s e (by rw [waking]; rfl)
  unfold wakeExpiry
  exact .via (supply_finishWaiting _ _ _ _) (.via (supply_lights _) (.of_supply woken))

theorem keepsContract_displayConfig (q : Request) : KeepsContract s (displayConfig q s).state := by
  unfold displayConfig
  dsimp only
  split
  · exact .refl s
  · split
    · exact .refl s
    · exact .via (supply_lights _) (.via (supply_setBlank _ _ _) (.of_supply rfl))

theorem supply_stall (e : Eye) : supply (stall e s) = supply s := supply_blank s _

theorem supply_mapShift (f : ShiftUnit → ShiftUnit) : supply (s.mapShift f) = supply s := rfl

theorem supply_latchEye (e : Eye) : supply (latchEye e s) = supply s := by
  have bound : ∀ (h : Head) (t : State), supply (bindHead e h t) = supply t := fun h t =>
    (supply_lights _).trans ((supply_unblank _ _).trans ((supply_mapShift _ _).trans (supply_mapEye t e rfl)))
  have missed : ∀ t : State, supply (missFrame e t) = supply t := fun t => by
    have dark : supply (lights ((t.mapEye e fun d =>
        { d with bound := none, shift := .zero, missed := bump 65535 d.missed }).mapShift fun u =>
          { u with record := u.record.set e .zero })) = supply t :=
      (supply_lights _).trans ((supply_mapShift _ _).trans (supply_mapEye t e rfl))
    unfold missFrame
    dsimp only
    split
    · exact (supply_stall _ e).trans dark
    · exact dark
  unfold latchEye
  dsimp only
  split
  · exact bound _ _
  · exact missed _

theorem supply_openScan (e : Eye) : supply (openScan e s) = supply s := by
  unfold openScan
  dsimp only
  split
  · exact supply_mapEye (s.mapTl _) e rfl
  · rfl

theorem supply_scanEye (e : Eye) : supply (scanEye e s) = supply s := by
  unfold scanEye
  split
  · refine supply_mapEye s e ?_
    unfold EyeDisplay.scanRow
    split <;> rfl
  · rfl

/-! ## Power Manager -/

theorem keepsContract_powerContract (q : Request) : KeepsContract s (powerContract q s).state := by
  unfold powerContract
  dsimp only
  split
  · exact .refl s
  · exact .of_within (computeGrants_within _)

theorem countAverage_grants (p : Power) : p.countAverage.grants = p.grants := by
  unfold Power.countAverage
  split
  · rfl
  · split <;> rfl

/-- Closing the frame average moves the counts and the derate level, and no grant (R133). -/
theorem keepsContract_closeAverage : KeepsContract s (closeAverage s) := by
  have judged : ∀ t : State, KeepsContract t (judgeAverage t) := fun t =>
    .after (.ite (.of_grants rfl rfl) (.ite (.of_grants rfl rfl) (.refl _)))
      (keepsContract_mapPower t (countAverage_grants _))
  exact .ite (.after (judged _) (keepsContract_mapPower s rfl)) (.refl s)

theorem keepsContract_beginBrownout : KeepsContract s (beginBrownout s) := by
  unfold beginBrownout
  exact .via (supply_raise _ _ _) (.via (supply_setMute _ _ _) (.via (supply_blank _ _) (.via (supply_lights _)
    (.of_grants rfl rfl))))

theorem keepsContract_endBrownout : KeepsContract s (endBrownout s) := by
  unfold endBrownout
  exact .via (supply_lights _) (.via (supply_setMute _ _ _) (.via (supply_setBlank _ _ _)
    (.of_grants rfl rfl)))

theorem keepsContract_takeSample (mv ma : Nat) : KeepsContract s (takeSample mv ma s) := by
  have sampled : KeepsContract s ((s.mapPower (Power.addSample s.tl.running ⟨mv, ma, mv * ma / 1000⟩)).mapClock fun c =>
      { c with monitorDone := true }) := by
    rw [State.mapPower, addSample_eq]
    exact .of_grants rfl rfl
  have low : ∀ t : State, KeepsContract t (countLow mv t) := fun t =>
    .after (.ite (keepsContract_beginBrownout _) (.refl _)) (keepsContract_mapPower t rfl)
  have high : ∀ t : State, KeepsContract t (countHigh mv t) := fun t =>
    .after (.ite (keepsContract_endBrownout _) (.refl _)) (keepsContract_mapPower t rfl)
  exact .after (.ite (high _) (low _)) sampled

theorem keepsContract_inputLevel (mv ma : Nat) : KeepsContract s (inputLevel mv ma s) :=
  .ite (.of_within (holdReset_within _)) (.ite (.after (keepsContract_takeSample _ mv ma) (.of_supply rfl)) (.of_supply rfl))

/-- Sleep turns off the panels that are on, and computes where one is (R47, R138). -/
theorem keepsContract_goToSleep : KeepsContract s (goToSleep s) := by
  refine keepsContract_computeIf fun off =>
    .via (supply_raise _ _ _) (.via (supply_lights _) (.via (supply_finishWaiting _ _ _ _) ?_))
  have slept : ∀ t : State, anyNamed (poweredEyes t) (fun e => (t.panel e).powered) = false →
      supply (mapNamed (poweredEyes t) (fun d => { d.turnOff with sleepMark := true }) t) = supply t := fun t =>
    supply_mapNamed_off t fun _ => rfl
  refine .after (.of_supply (slept _ ?_)) (keepsContract_mapPower s rfl)
  obtain ⟨left, right⟩ := Bool.or_eq_false_iff.1 off
  show ((s.panel .left).powered && (s.panel .left).powered || (s.panel .right).powered && (s.panel .right).powered) = false
  rw [left, right]
  rfl

/-- A wake restores the panels that sleep marked, and computes where one is (R47, R139). -/
theorem keepsContract_wakePart (cause : SleepCause) : KeepsContract s (wakePart cause s) := by
  have unmarked : ∀ d : EyeDisplay, d.sleepMark = false → d.restore = d := fun d h => if_neg (by simp [h])
  refine keepsContract_computeIf fun unmarkedEyes => .via (supply_raise _ _ _) (.via (supply_lights _) ?_)
  obtain ⟨left, right⟩ := Bool.or_eq_false_iff.1 unmarkedEyes
  refine .after (.of_supply (supply_mapDisp _ fun e => ?_)) (keepsContract_mapPower s rfl)
  cases e with
  | left => exact congrArg (fun d : EyeDisplay => d.panel.powered) (unmarked _ left)
  | right => exact congrArg (fun d : EyeDisplay => d.panel.powered) (unmarked _ right)

theorem keepsContract_wearToPower (w : Wear) : KeepsContract s (wearToPower w s) := by
  cases w with
  | unknown => exact keepsContract_mapPower s rfl
  | worn => exact .ite (keepsContract_wakePart s _) (keepsContract_mapPower s rfl)
  | removed => exact .ite (.refl s) (keepsContract_mapPower s rfl)

theorem keepsContract_powerPolicy (q : Request) : KeepsContract s (powerPolicy q s).state := by
  have policy : ∀ t : State, KeepsContract t (applyPolicy t) := fun t =>
    .ite (.ite (keepsContract_wakePart t _) (.refl t)) (.ite (keepsContract_goToSleep t) (.refl t))
  unfold powerPolicy
  dsimp only
  split
  · exact .refl s
  · exact .after (policy _) (keepsContract_mapPower s rfl)

/-! ## Motion Hub: the IMU port and wear -/

/-- A restart of a port that was RUNNING leaves it the load it was (R126). -/
theorem keepsContract_motionConfig (q : Request) : KeepsContract s (motionConfig q s).state := by
  unfold motionConfig
  dsimp only
  split
  · exact .refl s
  · split
    · exact .refl s
    · refine keepsContract_computeIf fun powered => .of_supply ?_
      have load : s.motion.port.powered = true := by simpa using powered
      simp only [supply, State.fixedLoads, load]
      rfl

theorem keepsContract_startExpiry (h : startDue s = true) : KeepsContract s (startExpiry s) := by
  have starting : s.motion.port = .starting := ((startDue_iff s).1 h).1
  have started : supply (s.mapMotion fun m => { m with port := .running }) = supply s := by
    simp only [supply, State.fixedLoads, starting]
    rfl
  exact .via rfl (.of_supply started)

theorem supply_dataReady : supply (dataReady s) = supply s := by
  have handled : ∀ t, supply (handleEdge t) = supply t := fun t => by
    unfold handleEdge
    split <;> rfl
  unfold dataReady captureEdge
  split
  · split
    · rfl
    · exact handled _
  · rfl

theorem supply_nextRead : supply (nextRead s) = supply s := by
  unfold nextRead
  split
  · split <;> rfl
  · rfl

theorem keepsContract_failRead (cause : ReadCause) : KeepsContract s (failRead cause s) :=
  .ite (.of_within (computeGrants_within _)) (.of_supply (supply_nextRead _))

theorem supply_sensorIsDue : supply (sensorIsDue s) = supply s := by
  obtain ⟨_, _, _, eq, _⟩ := sensorIsDue_changes s
  rw [eq]
  rfl

theorem keepsContract_readAnswer (began : Tick) (a : ImuAnswer) : KeepsContract s (readAnswer began a s) := by
  have stored : ∀ (x : Sample) (t : State), supply (storeSample x t) = supply t := fun x t => by
    obtain ⟨_, _, _, eq, _⟩ := storeSample_changes t x
    rw [eq]
    rfl
  unfold readAnswer
  split
  · exact .ite (.ite (.of_supply ((supply_nextRead _).trans (stored _ _))) (keepsContract_failRead s _)) (.refl s)
  · exact .refl s

theorem keepsContract_changeWear (w : Wear) : KeepsContract s (changeWear w s) :=
  .after (keepsContract_wearToPower _ w) (.via (supply_setBlank _ _ _) (.of_supply rfl))

theorem keepsContract_proximityLevel (active : Bool) : KeepsContract s (proximityLevel active s) := by
  have debounced : ∀ t : State, supply ((t.mapMotion (Motion.debounce active)).mapClock fun c =>
      { c with proximityDone := true }) = supply t := fun t => by
    rw [State.mapMotion, debounce_eq]
    rfl
  have sampled : ∀ t : State, KeepsContract t (sampleProximity active t) := fun t =>
    .after (.ite (keepsContract_changeWear _ _) (.refl _)) (.of_supply (debounced t))
  exact .ite (.after (sampled _) (.of_supply rfl)) (.of_supply rfl)

/-! ## Motion Hub: cameras -/

theorem supply_setChannel (c : Camera) {x : Channel} (hx : x ≠ .disabled) (h : (s.motion.cams.get c).enabled = true) :
    supply (setChannel c x s) = supply s := by
  refine supply_mapCam s c ?_
  rw [h]
  exact bne_iff_ne.2 hx

/-- An exposure closed by its deadline leaves an enabled camera enabled (R81). -/
theorem supply_closeByDeadline (c : Camera) (h : (s.motion.cams.get c).state = .closing) :
    supply (closeByDeadline c s) = supply s := by
  have idle : ∀ t : State, t.motion = s.motion → supply t = supply s → supply (setChannel c .idle t) = supply s :=
    fun t ht hv => (supply_setChannel t c (by decide) (by rw [ht, Cam.enabled, h]; rfl)).trans hv
  unfold closeByDeadline
  split
  · split
    · exact idle _ (offer_motion s _) (supply_offer s _)
    · exact idle _ (offer_motion s _) (supply_offer s _)
    · exact idle s rfl rfl
  · exact idle s rfl rfl

/-- A window that opens finds its channel IDLE or CLOSING, and leaves a disabled one (R79). -/
theorem supply_openExposure (c : Camera) : supply (openExposure c s) = supply s := by
  have opened : ∀ t : State, (t.motion.cams.get c).enabled = true → supply (openChannel c t) = supply t := fun t h =>
    supply_mapCam t c (by rw [h]; rfl)
  have idle : ∀ t : State, ((closeByDeadline c t).motion.cams.get c).enabled = true := fun t => by
    unfold closeByDeadline setChannel
    split <;> rw [mapCam_cams, PerCam_get_set_same] <;> rfl
  unfold openExposure
  dsimp only
  refine (supply_lights _).trans ?_
  split
  next h => exact opened _ (by rw [Cam.enabled, h]; rfl)
  next h => exact (opened _ (idle _)).trans (supply_closeByDeadline _ c h)
  next => rfl
  next => rfl

theorem supply_closeExposure (c : Camera) : supply (closeExposure c s) = supply s := by
  have closed : ∀ (now : Tick) (k : Cam), (k.close now).enabled = k.enabled := fun now k => by
    unfold Cam.close
    split
    next h _ =>
      split <;> rw [Cam.enabled, Cam.enabled, h] <;> rfl
    next h _ => rw [Cam.enabled, Cam.enabled, h]; rfl
    next => rfl
  exact (supply_lights _).trans (supply_mapCam (s.mapTl _) c (closed _ _))

theorem supply_validRise (c : Camera) : supply (validRise c s) = supply s := by
  unfold validRise
  split
  · split
    · exact supply_mapCam s c rfl
    · rfl
  · rfl

theorem supply_validFall (c : Camera) : supply (validFall c s) = supply s := by
  have ended : ∀ (x : Exposure) (k : Cam), (k.ended x).enabled = k.enabled := fun x k => by
    unfold Cam.ended
    split
    next h => rw [Cam.enabled, Cam.enabled, h]; rfl
    next => rfl
  unfold validFall
  split
  · split
    · exact (supply_mapCam _ c (ended _ _)).trans (supply_offer s _)
    · rfl
  · rfl

theorem keepsContract_cameraConfig (q : Request) : KeepsContract s (cameraConfig q s).state := by
  have enabled : ∀ (c : Camera) (on : Bool) (t : State), KeepsContract t (enableCamera c on t) := fun c on t =>
    .ite (.refl t) (.of_within (computeGrants_within _))
  unfold cameraConfig
  dsimp only
  split
  · exact .refl s
  · exact .after (enabled _ _ _) (.of_supply (supply_mapCam s _ rfl))

/-! ## Frame Timeline -/

theorem keepsContract_timelineCommit (q : Request) : KeepsContract s (timelineCommit q s).state := by
  unfold timelineCommit
  dsimp only
  split
  · exact .refl s
  · split
    · exact .refl s
    · split
      · exact .of_supply rfl
      · exact .of_within (computeGrants_within _)

theorem keepsContract_timelineSet (q : Request) : KeepsContract s (timelineSet q s).state := by
  unfold timelineSet
  split
  · exact .refl s
  · exact .of_supply rfl

theorem keepsContract_frameAnchor (q : Request) : KeepsContract s (frameAnchor q s).state := by
  unfold frameAnchor
  split
  · exact .of_supply (supply_changePhase _ _ _)
  · exact .refl s

theorem supply_recordDue : supply (recordDue s) = supply s := by
  unfold recordDue
  dsimp only
  split
  · exact supply_offer _ _
  · rfl

theorem keepsContract_timelineRun (q : Request) : KeepsContract s (timelineRun q s).state := by
  unfold timelineRun
  split
  · exact .refl s
  · split
    · exact .refl s
    · exact .of_within (computeGrants_within _)

/-- A stop leaves every panel, and every camera enabled or not as it was (R14, R82). -/
theorem supply_stopped : supply (stopped s) = supply s := by
  have cam : ∀ k : Cam, (if k.state = .disabled then { k with drive := 0 }
      else { k with state := .idle, context := none, drive := 0 } : Cam).enabled = k.enabled := fun k => by
    split
    next => rfl
    next h => exact (bne_iff_ne.2 h).symm
  simp only [supply, State.fixedLoads, anyCamera, stopped, PerCam.map, cam]
  rfl

/-- A stop moves no fixed load, and a commit it applies computes the grants (R14, R128). -/
theorem keepsContract_timelineStop (q : Request) : KeepsContract s (timelineStop q s).state := by
  have commit : ∀ t : State, KeepsContract t (commitAtStop t) := fun t =>
    .ite (.of_within (computeGrants_within _)) (.refl t)
  have latched : ∀ (e : Eye) (t : State), supply (latchAtStart e t) = supply t := fun e t => by
    unfold latchAtStart
    split
    · exact supply_latchEye t e
    · rfl
  refine .ite ?_ (.refl s)
  rw [stopTimeline_eq, endTimeline_stopped]
  refine .after (commit _) (.via (supply_loosenPhase _) (.after (keepsContract_closeAverage _) (.of_supply ?_)))
  exact (supply_stopped _).trans ((latched _ _).trans (latched _ _))

/-! ## Audio Engine -/

theorem supply_captureLevel (slots : List (BitVec 32)) : supply (captureLevel slots s) = supply s := by
  unfold captureLevel
  dsimp only
  split
  · rw [frameBoundary_eq]
    rfl
  · rfl

theorem keepsContract_audioConfig (q : Request) : KeepsContract s (audioConfig q s).state := by
  unfold audioConfig
  split
  · exact .refl s
  · split
    · exact .refl s
    · exact .of_supply rfl

theorem keepsContract_audioStart (q : Request) : KeepsContract s (audioStart q s).state :=
  .ite (.of_within (computeGrants_within _)) (.refl s)

theorem keepsContract_audioStop (q : Request) : KeepsContract s (audioStop q s).state := by
  unfold audioStop
  split
  · exact .refl s
  · exact .of_within (computeGrants_within _)

theorem keepsContract_captureStop (q : Request) : KeepsContract s (captureStop q s).state := by
  unfold captureStop
  split
  · exact .of_supply rfl
  · exact .refl s

theorem supply_faultLevel (asserted : Bool) : supply (faultLevel asserted s) = supply s := by
  unfold faultLevel
  dsimp only
  split
  · rfl
  · split <;> rfl

/-! ## Tether Link -/

theorem supply_startSuperframe : supply (startSuperframe s) = supply s := by
  unfold startSuperframe
  dsimp only
  split
  · exact supply_raiseIf _ _ _ _
  · rfl

theorem supply_beginSlot : supply (beginSlot s) = supply s := by
  have placed : ∀ (rs : List Report) (t : State), supply (placeReports rs t).2 = supply t := fun rs => by
    induction rs with
    | nil => exact fun _ => rfl
    | cons r rs ih => exact fun t => ih (afterPlacing r t)
  have filled : ∀ c, supply (fillSlot c s).2 = supply s := fun c => by
    unfold fillSlot
    split
    · rfl
    · rfl
    · exact placed _ _
    · rfl
    · rfl
    · rfl
  exact filled _

theorem keepsContract_linkSlots (q : Request) : KeepsContract s (linkSlots q s).state := by
  unfold linkSlots
  split
  · exact .refl s
  · dsimp only
    split
    · exact .of_supply rfl
    · exact .refl s

theorem keepsContract_grantSet (q : Request) : KeepsContract s (grantSet q s).state := by
  unfold grantSet
  dsimp only
  split
  · exact .refl s
  · split
    · exact .refl s
    · exact .of_supply rfl

end

end Sys2Proof.Machine
end

section
/-! PROOFS. The contract: every step keeps it (R129). -/
namespace Sys2Proof.Machine
open Sys2Proof

section
variable (s : State)

/-! ## Every command -/

/-- An outcome whose next state keeps the contract. -/
def ContractKeptBy (s : State) (o : Host.Outcome State Fault Refusal) : Prop := ∀ t, o = .next t → KeepsContract s t

theorem contractKeptBy_next {t : State} (h : KeepsContract s t) : ContractKeptBy s (.next t) := fun _ ht => by
  cases ht
  exact h

theorem contractKeptBy_act_due {due : Bool} {f : State → State} (h : due = true → KeepsContract s (f s)) :
    ContractKeptBy s (act due f s) := by
  refine contractKeptBy_next s ?_
  split
  next hd => exact h (Bool.and_eq_true_iff.1 hd).2
  next => exact .refl s

theorem contractKeptBy_act {due : Bool} {f : State → State} (h : KeepsContract s (f s)) : ContractKeptBy s (act due f s) :=
  contractKeptBy_act_due s fun _ => h

/-- A command that ends in a grant computation. -/
theorem contractKeptBy_computed {due : Bool} {f : State → State} (t : State) (h : f s = computeGrants t) :
    ContractKeptBy s (act due f s) := contractKeptBy_act s (.of_within (h ▸ computeGrants_within t))

/-- A command that leaves the Power Manager and the fixed loads as they are. -/
theorem contractKeptBy_supply {due : Bool} {f : State → State} (h : supply (f s) = supply s) :
    ContractKeptBy s (act due f s) := contractKeptBy_act s (.of_supply h)

/-- The taking of a request whose owner keeps the contract. -/
theorem contractKeptBy_serve {due : Bool} {owner : Request → State → Done} (h : ∀ q t, KeepsContract t (owner q t).state) :
    ContractKeptBy s (act due (serve owner) s) := contractKeptBy_act s (keepsContract_serve s h)

theorem contractKeptBy_serveHeld {due : Bool} {wait : Request → Wait} {owner : Request → State → Held}
    (h : ∀ q t, KeepsContract t (owner q t).state) : ContractKeptBy s (act due (serveHeld wait owner) s) :=
  contractKeptBy_act s (keepsContract_serveHeld s h)

/-- A request that only reads. -/
theorem contractKeptBy_read {due : Bool} (body : State → ReplyBody) :
    ContractKeptBy s (act due (serve fun _ t => .ok t (body t)) s) := contractKeptBy_serve s fun _ t => .refl t

/-- A valid packet (R142). -/
theorem contractKeptBy_packet {c : Instr} (hc : (packetCount c).isSome = true) : ContractKeptBy s (exec c s) :=
  fun _ ht => .of_supply (supply_packet hc ht)

/-- Every command keeps the contract. -/
theorem contractKeptBy_exec (i : Instr) : ContractKeptBy s (exec i s) := by
  cases i with
  | startUp mv =>
    exact contractKeptBy_next s (.ite (.refl s) (.ite (.of_within (computeGrants_within _)) (.of_supply rfl)))
  | powerOnReset mv => exact contractKeptBy_next s (.ite (.of_within (holdReset_within _)) (.refl s))
  | frameHead _ => exact contractKeptBy_packet s rfl
  | row _ => exact contractKeptBy_packet s rfl
  | audioBlock _ => exact contractKeptBy_packet s rfl
  | timeMark _ _ => exact contractKeptBy_packet s rfl
  | syncLock e => exact contractKeptBy_supply s (supply_changeSync s _ _ _)
  | ctrl _ => exact contractKeptBy_packet s rfl
  | fill _ => exact contractKeptBy_packet s rfl
  | unknownClassPacket => exact contractKeptBy_packet s rfl
  | malformedVideoPacket => exact contractKeptBy_packet s rfl
  | badPacket => exact contractKeptBy_supply s (f := completeBad) rfl
  | sessionStart => exact contractKeptBy_supply s (supply_startSession s)
  | silenceTimerExpiry => exact contractKeptBy_supply s (f := enterHold) rfl
  | holdTimerExpiry => exact contractKeptBy_supply s (supply_endSession s)
  | superframeStart => exact contractKeptBy_supply s (supply_startSuperframe s)
  | badPacketWindowEnd => exact contractKeptBy_supply s (f := endWindow) (supply_raiseIf _ _ _ _)
  | upstreamSlot => exact contractKeptBy_supply s (supply_beginSlot s)
  | unknownKind => exact contractKeptBy_supply s (supply_serveUnknown s)
  | deviceIdentify => exact contractKeptBy_read s fun _ => .identity identity
  | deviceStatus => exact contractKeptBy_read s fun t => .deviceStatus (deviceStatusOf t)
  | systemReset => exact contractKeptBy_serve s fun _ _ => .via (supply_mapReq _ _) (.of_within (computeGrants_within _))
  | grantSet => exact contractKeptBy_serve s fun q t => keepsContract_grantSet t q
  | faultRead => exact contractKeptBy_read s fun t => .fault t.req.fault
  | faultClear => exact contractKeptBy_serve s fun _ _ => .of_supply rfl
  | linkSlots => exact contractKeptBy_serve s fun q t => keepsContract_linkSlots t q
  | linkStatus => exact contractKeptBy_read s fun t => .linkStatus (linkStatusOf t)
  | timeStatus => exact contractKeptBy_read s fun t => .timeStatus (timeStatusOf t)
  | timelineSet => exact contractKeptBy_serve s fun q t => keepsContract_timelineSet t q
  | timelineCommit => exact contractKeptBy_serveHeld s fun q t => keepsContract_timelineCommit t q
  | timelineRun => exact contractKeptBy_serve s fun q t => keepsContract_timelineRun t q
  | timelineStop => exact contractKeptBy_serve s fun q t => keepsContract_timelineStop t q
  | frameAnchor => exact contractKeptBy_serve s fun q t => keepsContract_frameAnchor t q
  | timelineStatus => exact contractKeptBy_read s fun t => .timelineStatus (timelineStatusOf t)
  | displayConfig => exact contractKeptBy_serve s fun q t => keepsContract_displayConfig t q
  | displayDrive => exact contractKeptBy_serve s fun _ _ => .of_supply rfl
  | panelPowerOn => exact contractKeptBy_serveHeld s fun q t => keepsContract_panelOn t q
  | panelPowerOff => exact contractKeptBy_serve s fun q t => keepsContract_panelOff t q
  | displayBlank => exact contractKeptBy_serve s fun _ t => .of_supply (supply_blank t .host)
  | displayResume => exact contractKeptBy_serve s fun _ _ => .via (supply_lights _) (.of_supply rfl)
  | displayStatus => exact contractKeptBy_read s fun t => .displayStatus (displayStatusOf t)
  | lateShift => exact contractKeptBy_serve s fun q t => keepsContract_lateShift t q
  | motionConfig => exact contractKeptBy_serveHeld s fun q t => keepsContract_motionConfig t q
  | cameraConfig => exact contractKeptBy_serve s fun q t => keepsContract_cameraConfig t q
  | motionStatus => exact contractKeptBy_read s fun t => .motionStatus (motionStatusOf t)
  | audioConfig => exact contractKeptBy_serve s fun q t => keepsContract_audioConfig t q
  | audioStart => exact contractKeptBy_serve s fun q t => keepsContract_audioStart t q
  | audioStop => exact contractKeptBy_serve s fun q t => keepsContract_audioStop t q
  | audioVolume => exact contractKeptBy_serve s fun _ _ => .of_supply rfl
  | audioMuteOn => exact contractKeptBy_serve s fun _ t => .of_supply (supply_setMute t .host true)
  | audioMuteOff => exact contractKeptBy_serve s fun _ t => .of_supply (supply_setMute t .host false)
  | captureStart => exact contractKeptBy_serve s fun _ t => .ite (.refl t) (.of_supply rfl)
  | captureStop => exact contractKeptBy_serve s fun q t => keepsContract_captureStop t q
  | audioStatus => exact contractKeptBy_read s fun t => .audioStatus (audioStatusOf t)
  | powerContract => exact contractKeptBy_serve s fun q t => keepsContract_powerContract t q
  | powerPolicy => exact contractKeptBy_serve s fun q t => keepsContract_powerPolicy t q
  | powerStatus => exact contractKeptBy_read s fun t => .powerStatus (powerStatusOf t)
  | frameStart => exact contractKeptBy_computed s _ rfl
  | phaseLocked => exact contractKeptBy_supply s (supply_changePhase s _ _)
  | frameRecordDue => exact contractKeptBy_supply s (supply_recordDue s)
  | derateUp => exact contractKeptBy_act s (f := derateUp) (.of_grants rfl rfl)
  | derateDown => exact contractKeptBy_act s (f := derateDown) (.of_grants rfl rfl)
  | latch e => exact contractKeptBy_supply s (supply_latchEye s e)
  | videoStall e => exact contractKeptBy_supply s (supply_stall s e)
  | scanWindowOpen e => exact contractKeptBy_supply s (supply_openScan s e)
  | scanRow e => exact contractKeptBy_supply s (supply_scanEye s e)
  | strobeWindowOpen e => exact contractKeptBy_supply s (f := openStrobe e) (supply_lights _)
  | strobeWindowClose e => exact contractKeptBy_supply s (f := closeStrobe e) (supply_lights _)
  | exposureWindowOpen c => exact contractKeptBy_supply s (supply_openExposure s c)
  | exposureWindowClose c => exact contractKeptBy_supply s (supply_closeExposure s c)
  | exposureDeadline c =>
    exact contractKeptBy_act_due s fun hd => .of_supply (supply_closeByDeadline s c ((deadlineDue_iff s c).1 hd).1)
  | frameValidRise c => exact contractKeptBy_supply s (supply_validRise s c)
  | frameValidFall c => exact contractKeptBy_supply s (supply_validFall s c)
  | wakeTimerExpiry e => exact contractKeptBy_act_due s fun hd => keepsContract_wakeExpiry s e hd
  | startTimerExpiry => exact contractKeptBy_act_due s fun hd => keepsContract_startExpiry s hd
  | dataReadyEdge => exact contractKeptBy_supply s (supply_dataReady s)
  | imuReadAnswer began a => exact contractKeptBy_act s (keepsContract_readAnswer s began a)
  | imuReadTimeout => exact contractKeptBy_act s (keepsContract_failRead s _)
  | imuPortFailed => exact contractKeptBy_computed s _ rfl
  | sensorDue => exact contractKeptBy_supply s (supply_sensorIsDue s)
  | proximitySample a => exact contractKeptBy_next s (keepsContract_proximityLevel s a)
  | wearChanged => exact contractKeptBy_act s (keepsContract_changeWear s _)
  | sleepTimerExpiry => exact contractKeptBy_act s (keepsContract_goToSleep s)
  | holdoverCoarse => exact contractKeptBy_supply s (supply_changeSync _ _ _ _)
  | holdoverUnsynced => exact contractKeptBy_supply s ((supply_loosenPhase _).trans (supply_changeSync _ _ _ _))
  | audioFrameBoundary slots => exact contractKeptBy_next s (.of_supply (supply_captureLevel s slots))
  | dividerRecompute => exact contractKeptBy_supply s (f := recomputeDivider) rfl
  | muteRampEnd => exact contractKeptBy_supply s (f := endRamp) rfl
  | gainStep => exact contractKeptBy_supply s (f := stepGain) rfl
  | codecFaultAssert => exact contractKeptBy_next s (.of_supply (supply_faultLevel s _))
  | codecFaultDeassert => exact contractKeptBy_next s (.of_supply (supply_faultLevel s _))
  | inputMonitorSample mv ma => exact contractKeptBy_next s (keepsContract_inputLevel s mv ma)
  | brownoutBegin => exact contractKeptBy_act s (keepsContract_beginBrownout s)
  | brownoutEnd => exact contractKeptBy_act s (keepsContract_endBrownout s)

/-! ## Every step -/

/-- A tick moves no panel, no port and no camera, and of the Power Manager the sleep timer alone (R138). -/
theorem keepsContract_advance : KeepsContract s (advance s) := by
  refine .of_grants rfl ?_
  simp only [State.fixedLoads, advance, PerEye.map, eyeDisplay_advance, motion_advance]
  rfl

/-- Every step keeps the contract. -/
theorem keepsContract_step {t : State} (h : step s = .next t) : KeepsContract s t := by
  unfold step at h
  split at h
  · exact .after (contractKeptBy_exec _ _ t h) (.of_supply rfl)
  · unfold idle at h
    split at h
    · unfold runPart at h
      split at h
      · exact contractKeptBy_next s (keepsContract_advance s) t h
      · exact contractKeptBy_exec s _ t h
      · exact .after (contractKeptBy_exec _ _ t h) (.of_supply rfl)
    · split at h
      · exact contractKeptBy_exec s _ t h
      · exact contractKeptBy_next s (.refl s) t h

end

/-- Settles O55: a command ends in a grant computation, which comes out within the contract, or moves neither a fixed load
nor a grant. -/
theorem contractKept : Obligations.ContractKept := by
  unfold Obligations.ContractKept
  exact fun s t hs h => keepsContract_step s h hs

end Sys2Proof.Machine
end

section
/-! PROOFS. Tether Link: valid and bad packets by the link's state, and HOLD. -/
namespace Sys2Proof.Machine
open Sys2Proof

/-! ## Valid packets, whatever their class (R143, R144, R149) -/

/-- A valid packet counts among the valid or the unknown ones and writes nothing else of the Link Controller (R149). -/
theorem packetCount_counters {c : Instr} {f : Link → Link} (h : packetCount c = some f) :
    ∃ (valid : ValidCounts → ValidCounts) (unknown : BitVec 32 → BitVec 32), f = fun l => { l with valid := valid l.valid, unknown := unknown l.unknown } := by
  cases c <;> cases h
  case frameHead | row | malformedVideoPacket => exact ⟨fun v => { v with video := v.video + 1 }, id, rfl⟩
  case audioBlock => exact ⟨fun v => { v with audio := v.audio + 1 }, id, rfl⟩
  case ctrl => exact ⟨fun v => { v with ctrl := v.ctrl + 1 }, id, rfl⟩
  case timeMark => exact ⟨fun v => { v with mark := v.mark + 1 }, id, rfl⟩
  case fill => exact ⟨fun v => { v with fill := v.fill + 1 }, id, rfl⟩
  case unknownClassPacket => exact ⟨id, fun n => n + 1, rfl⟩

/-- What the owner of a valid packet does with it, arrived in state `s`; FILL and packets of unknown class have no
owner (R149, R150). -/
def ownerTakes (s : State) : Instr → State → State
  | .frameHead p => receiveHead p
  | .row p => receiveRow p
  | .malformedVideoPacket => countMalformed
  | .audioBlock p => receiveBlock p
  | .ctrl p => admitCtrl p
  | .timeMark age p => receiveMark (s.capturedTick age) p
  | _ => id

/-- Of the state a packet arrives in, its owner is told the captured tick alone (R26). -/
theorem ownerTakes_congr {s t : State} (h : t.clock = s.clock) (c : Instr) : ownerTakes t c = ownerTakes s c := by
  cases c with
  | timeMark age p => simp only [ownerTakes, State.capturedTick, State.now, h]
  | _ => rfl

/-- A valid packet is counted and acts on the link state, with its owner to take it where the link is then UP. -/
theorem exec_packet {c : Instr} {f : Link → Link} {s : State} (h : packetCount c = some f) (hp : s.powered = true) :
    exec c s = .next (completeValid (ownerTakes s c) (s.mapLink f)) := by
  cases c <;> cases h <;> exact act_of hp rfl

/-- Settles O4: packets outside a hand-over by `completeValid_down` and `completeValid_acquire`, in UP by
`completeValid_up`. -/
theorem packetsAndLinkState : Obligations.PacketsAndLinkState := by
  unfold Obligations.PacketsAndLinkState
  refine ⟨fun c f s h hp => ?valid, fun s hp => ⟨fun up p => ?fill, fun up => ?unknown, ?bad⟩⟩
  case valid =>
    rw [exec_packet h hp]
    obtain ⟨valid, unknown, rfl⟩ := packetCount_counters h
    exact ⟨fun down => congrArg _ (completeValid_down _ (s.mapLink _) down),
      fun acquire short => congrArg _ (completeValid_acquire _ (s.mapLink _) acquire short)⟩
  case fill => exact act_eq hp rfl (fillPacket_up s up)
  case unknown => exact act_eq hp rfl (completeValid_up id (s.mapLink _) up)
  case bad => exact act_eq hp rfl rfl

/-! ## HOLD (R144) -/

/-- A valid packet that ends a HOLD acts as in the UP it returns to. -/
theorem exec_packet_resumes {c : Instr} {f : Link → Link} {s : State} (h : packetCount c = some f)
    (hp : s.powered = true) (hold : s.link.state = .hold) : exec c s = exec c (resumeLink s) := by
  rw [exec_packet h hp, exec_packet (s := resumeLink s) h hp, ownerTakes_congr (s := s) (t := resumeLink s) rfl]
  obtain ⟨valid, unknown, rfl⟩ := packetCount_counters h
  rw [completeValid_hold, completeValid_up]
  exacts [rfl, rfl, hold]

/-- Settles O6: the timer by `enterHold`, the resume by `exec_packet_resumes`. -/
theorem holdAndResume : Obligations.HoldAndResume := by
  unfold Obligations.HoldAndResume
  refine fun s hp => ⟨fun up silent => ?silence, fun hold c f h => exec_packet_resumes h hp hold, fun hold p => ?fill⟩
  case silence => exact act_eq hp ((silenceDue_iff s).2 ⟨up, silent⟩) rfl
  case fill =>
    rw [exec_packet_resumes (c := .fill p) rfl hp hold]
    exact act_eq (s := resumeLink s) hp rfl (fillPacket_up (resumeLink s) rfl)

end Sys2Proof.Machine
end

section
/-! PROOFS. Tether Link: superframe starts and bad-packet windows. -/
namespace Sys2Proof.Machine
open Sys2Proof

theorem windowEndReached_iff (s : State) : windowEndReached s = true ↔
    s.link.superframe.toNat % 4 = 0 ∧ s.link.windowFirst ≠ some s.link.superframe := by
  simp only [windowEndReached, Bool.and_eq_true, beq_iff_eq, bne_iff_ne]

/-- The end of a window tells its bad packets from 16 up, where a superframe began it (R151). -/
theorem endWindow_eq (s : State) : endWindow s = { s with
    link := { s.link with badCount := 0, windowFirst := some s.link.superframe }
    req := withEvent (decide (16 ≤ s.link.badCount) && s.link.windowFirst.isSome) .linkController
      (.linkDegraded s.link.badCount (s.link.windowFirst.getD 0)) s.now s.req } := raiseIf_eq _ _ _ _

/-- Settles O9: the window by `endWindow_eq`, in a superframe start and alone. -/
theorem superframesAndWindows : Obligations.SuperframesAndWindows := by
  unfold Obligations.SuperframesAndWindows
  refine fun s hp => ⟨fun multiple pending => ?start, fun fourth unjudged => ?alone⟩
  case alone => exact act_eq hp ((windowEndReached_iff s).2 ⟨fourth, unjudged⟩) (endWindow_eq s)
  case start =>
    intro started
    have runs : exec .superframeStart s =
        .next (if windowEndReached started then endWindow started else started) :=
      act_of hp ((multipleOf_pending_iff s 250 s.clock.superframeDone).2 ⟨multiple, pending⟩)
    rw [runs]
    split
    · next ends =>
      rw [if_pos ((windowEndReached_iff started).1 ends), endWindow_eq]
      rfl
    · next goes => rw [if_neg fun ends => goes ((windowEndReached_iff started).2 ends)]

end Sys2Proof.Machine
end

section
/-! PROOFS. GRANT_SET, FAULT_CLEAR and LINK_SLOTS. -/
namespace Sys2Proof.Machine
open Sys2Proof

/-! ## Permission bytes (R169) -/

/-- The permission that a byte of at most 2 codes. -/
def permOf (n : Nat) : Perm := if n = 0 then .none else if n = 1 then .read else .write

theorem permCode_good {b : Byte} (h : b.toNat ≤ 2) : permCode b = some (permOf b.toNat) := by
  have codes : b = 0 ∨ b = 1 ∨ b = 2 := by bv_omega
  rcases codes with rfl | rfl | rfl <;> rfl

theorem permCode_bad {b : Byte} (h : 2 < b.toNat) : permCode b = none := by
  rw [permCode, if_neg (by bv_omega), if_neg (by bv_omega), if_neg (by bv_omega)]

theorem permCode_isNone (b : Byte) : (permCode b).isNone = decide (2 < b.toNat) := by
  by_cases h : 2 < b.toNat
  · simp [permCode_bad h, h]
  · simp [permCode_good (Nat.le_of_not_lt h), h]

/-- The group of a permission byte of a GRANT_SET body. -/
def permGroup (n : Nat) : Group :=
  if n = 1 then .device else if n = 2 then .link else if n = 3 then .display else if n = 4 then .motion
  else if n = 5 then .audio else .power

/-- The group refused is that of the first of the six bytes that codes no permission. -/
theorem badPermGroup_eq (body : List Byte) : badPermGroup body =
    ((List.range' 1 6).find? fun i => decide (2 < (byteAt body i).toNat)).map permGroup := by
  simp only [badPermGroup, permCode_isNone, List.range', List.find?]
  grind [permGroup]

theorem badPermGroup_none {body : List Byte} (good : ∀ i, 1 ≤ i → i ≤ 6 → (byteAt body i).toNat ≤ 2) :
    badPermGroup body = none := by
  rw [badPermGroup_eq, Option.map_eq_none_iff, List.find?_range'_eq_none]
  intro i low high
  simpa using good i low (by omega)

theorem badPermGroup_some {body : List Byte} {n : Nat} (low : 1 ≤ n) (high : n ≤ 6) (bad : 2 < (byteAt body n).toNat)
    (first : ∀ i, 1 ≤ i → i < n → (byteAt body i).toNat ≤ 2) : badPermGroup body = some (permGroup n) := by
  have found : (List.range' 1 6).find? (fun i => decide (2 < (byteAt body i).toNat)) = some n :=
    List.find?_range'_eq_some.2 ⟨decide_eq_true bad, List.mem_range'_1.2 ⟨low, by omega⟩, fun i hi hn => by
      simpa using first i hi hn⟩
  rw [badPermGroup_eq, found]
  rfl

theorem parsePerms_good {body : List Byte} (good : ∀ i, 1 ≤ i → i ≤ 6 → (byteAt body i).toNat ≤ 2) :
    parsePerms body =
      let p i := permOf (byteAt body i).toNat
      ⟨p 1, p 2, p 3, p 4, p 5, p 6⟩ := by
  have code : ∀ i, 1 ≤ i → i ≤ 6 → (permCode (byteAt body i)).getD .none = permOf (byteAt body i).toNat :=
    fun i low high => by rw [permCode_good (good i low high), Option.getD_some]
  simp only [parsePerms, code, Nat.le_refl, Nat.reduceLeDiff]

/-! ## GRANT_SET (R169; log 42) -/

theorem Grants.get_client (g : Grants) {c : Nat} (low : 1 ≤ c) (high : c ≤ 3) :
    g.get c = if c = 1 then g.client1 else if c = 2 then g.client2 else g.client3 := by
  have clients : c = 1 ∨ c = 2 ∨ c = 3 := by omega
  rcases clients with rfl | rfl | rfl <;> rfl

theorem Grants.set_client (g : Grants) (p : Perms) {c : Nat} (low : 1 ≤ c) (high : c ≤ 3) :
    g.set c p = if c = 1 then { g with client1 := p } else if c = 2 then { g with client2 := p }
      else { g with client3 := p } := by
  have clients : c = 1 ∨ c = 2 ∨ c = 3 := by omega
  rcases clients with rfl | rfl | rfl <;> rfl

section
variable {q : Request} {s : State}

theorem grantSet_client (h : (byteAt q.body 0).toNat = 0 ∨ 3 < (byteAt q.body 0).toNat) :
    grantSet q s = ⟨s, .outOfRange, .client (byteAt q.body 0).toNat⟩ := if_pos h

theorem grantSet_group (low : 1 ≤ (byteAt q.body 0).toNat) (high : (byteAt q.body 0).toNat ≤ 3) {g : Group}
    (hg : badPermGroup q.body = some g) : grantSet q s = ⟨s, .outOfRange, .group g⟩ := by
  rw [grantSet, if_neg (by omega), hg]
  rfl

theorem grantSet_taken (low : 1 ≤ (byteAt q.body 0).toNat) (high : (byteAt q.body 0).toNat ≤ 3)
    (hg : badPermGroup q.body = none) : grantSet q s =
      ⟨s.mapReq fun r => { r with grants := r.grants.set (byteAt q.body 0).toNat (parsePerms q.body) }, .ok,
        .grants (s.req.grants.get (byteAt q.body 0).toNat) (parsePerms q.body)⟩ := by
  rw [grantSet, if_neg (by omega), hg]
  rfl

end

/-! ## Slot classes (R180) -/

/-- The slot class that a byte of at most 4 codes. -/
def slotClassOf (n : Nat) : SlotClass :=
  if n = 0 then .opened else if n = 1 then .sensor else if n = 2 then .capture else if n = 3 then .reply else .event

theorem slotCode_cases {b : Byte} (h : b.toNat ≤ 4) : b = 0 ∨ b = 1 ∨ b = 2 ∨ b = 3 ∨ b = 4 := by bv_omega

theorem slotClass_good {b : Byte} (h : b.toNat ≤ 4) : slotClass b = some (slotClassOf b.toNat) := by
  rcases slotCode_cases h with rfl | rfl | rfl | rfl | rfl <;> rfl

theorem slotClass_bad {b : Byte} (h : 4 < b.toNat) : slotClass b = none := by
  rw [slotClass, if_neg (by bv_omega), if_neg (by bv_omega), if_neg (by bv_omega), if_neg (by bv_omega),
    if_neg (by bv_omega)]

/-- REPLY has code 3. -/
theorem slotClassOf_reply {b : Byte} (h : b.toNat ≤ 4) : slotClassOf b.toNat = .reply ↔ b = 3 := by
  rcases slotCode_cases h with rfl | rfl | rfl | rfl | rfl <;> decide

/-- EVENT has code 4. -/
theorem slotClassOf_event {b : Byte} (h : b.toNat ≤ 4) : slotClassOf b.toNat = .event ↔ b = 4 := by
  rcases slotCode_cases h with rfl | rfl | rfl | rfl | rfl <;> decide

/-! ## LINK_SLOTS (R153; log 34) -/

section
variable {body : List Byte}

theorem badSlot_some {n : Nat} (hn : n < 16) (bad : 4 < (byteAt body n).toNat)
    (first : ∀ i, i < n → (byteAt body i).toNat ≤ 4) : badSlot body = some n := by
  rw [badSlot, List.find?_range_eq_some]
  refine ⟨by rw [slotClass_bad bad, Option.isNone_none], List.mem_range.2 hn, fun i hi => ?_⟩
  rw [slotClass_good (first i hi), Option.isNone_some, Bool.not_false]

section
variable (good : ∀ i, i < 16 → (byteAt body i).toNat ≤ 4)
include good

theorem badSlot_none : badSlot body = none := by
  rw [badSlot, List.find?_range_eq_none]
  intro i hi
  rw [slotClass_good (good i hi), Option.isNone_some, Bool.not_false]

theorem parseSlots_good : parseSlots body = (List.range 16).map fun i => slotClassOf (byteAt body i).toNat :=
  List.map_congr_left fun i hi => by rw [slotClass_good (good i (List.mem_range.1 hi)), Option.getD_some]

/-- A table names a class exactly where one of its sixteen bytes codes it. -/
theorem parseSlots_contains {c : SlotClass} {code : Byte}
    (codes : ∀ b : Byte, b.toNat ≤ 4 → (slotClassOf b.toNat = c ↔ b = code)) :
    (parseSlots body).contains c = true ↔ ∃ i, i < 16 ∧ byteAt body i = code := by
  rw [parseSlots_good good, List.contains_iff_mem, List.mem_map]
  exact exists_congr fun i => by
    rw [List.mem_range]
    exact and_congr_right fun hi => codes _ (good i hi)

/-- A table of classes is in order where it names a REPLY and an EVENT slot. -/
theorem parseSlots_names : ((parseSlots body).contains .reply && (parseSlots body).contains .event) = true ↔
    (∃ i, i < 16 ∧ byteAt body i = 3) ∧ ∃ i, i < 16 ∧ byteAt body i = 4 := by
  rw [Bool.and_eq_true, parseSlots_contains good fun _ => slotClassOf_reply,
    parseSlots_contains good fun _ => slotClassOf_event]

end

end

section
variable {q : Request} {s : State}

theorem linkSlots_slot {n : Nat} (h : badSlot q.body = some n) : linkSlots q s = ⟨s, .outOfRange, .slot n⟩ := by
  rw [linkSlots, h]
  rfl

theorem linkSlots_taken (good : badSlot q.body = none)
    (named : ((parseSlots q.body).contains .reply && (parseSlots q.body).contains .event) = true) :
    linkSlots q s = ⟨s.mapLink fun l => { l with pendingTable := some (parseSlots q.body) }, .ok,
      .superframe (s.link.superframe + 1)⟩ := by
  simp only [linkSlots, good, named, if_true]
  rfl

theorem linkSlots_unnamed (good : badSlot q.body = none)
    (named : ¬ ((parseSlots q.body).contains .reply && (parseSlots q.body).contains .event) = true) :
    linkSlots q s = ⟨s, .outOfRange, .empty⟩ := by
  simp only [linkSlots, good, named]
  rfl

end

/-- Settles O19: the permissions by `permCode`, the slots by `slotClass`, each answer by the owner's check that decides. -/
theorem grantsFaultsAndSlots : Obligations.GrantsFaultsAndSlots := by
  unfold Obligations.GrantsFaultsAndSlots
  intro s q c ok code perm perms slot
  refine ⟨fun h => ⟨fun low high good => ?taken, fun outside => ?client, fun low high n hl hh bad first => ?group⟩,
    fun h => ?fault, fun h => ⟨fun good reply event => ?table, fun n hn bad first => ?slot, fun good missing => ?unnamed⟩⟩
  case taken =>
    have parsed : parsePerms q.body = perms := parsePerms_good good
    rw [← Grants.get_client s.req.grants low high, ← Grants.set_client s.req.grants perms low high, ← parsed]
    exact act_serve_admitted (t := s.mapReq fun r => { r with grants := r.grants.set c (parsePerms q.body) }) h
      (grantSet_taken low high (badPermGroup_none good))
  case client => exact act_serve_admitted (t := s) h (grantSet_client outside)
  case group => exact act_serve_admitted (t := s) h (grantSet_group low high (badPermGroup_some hl hh bad first))
  case fault => exact act_serve_admitted (t := s.mapReq fun r => { r with fault := none }) h rfl
  case table =>
    have owner := linkSlots_taken (s := popIntake s) (badSlot_none good) ((parseSlots_names good).2 ⟨reply, event⟩)
    rw [parseSlots_good good] at owner
    exact act_serve_admitted (t := s.mapLink fun l => { l with pendingTable := _ }) h owner
  case slot => exact act_serve_admitted (t := s) h (linkSlots_slot (badSlot_some hn bad first))
  case unnamed =>
    refine act_serve_admitted (t := s) h (linkSlots_unnamed (badSlot_none good) fun named => ?_)
    obtain ⟨⟨i, hi, reply⟩, j, hj, event⟩ := (parseSlots_names good).1 named
    exact missing.elim (fun none => none i hi reply) (fun none => none j hj event)

end Sys2Proof.Machine
end

section
/-! PROOFS. The checks at the taking of a request. -/
namespace Sys2Proof.Machine
open Sys2Proof

/-! ## Kinds and headers (R163, R179, R182) -/

/-- No two rows of the table of request kinds have the same code (section 10.5). -/
theorem kindRow_of_mem {row : KindRow} (h : row ∈ kindRows) {code : Byte} (hc : code.toNat = row.code) :
    kindRow code = some row := by
  have distinct : ∀ row ∈ kindRows, kindRows.find? (fun r => r.code == row.code) = some row := by decide
  rw [kindRow, hc]
  exact distinct row h

theorem kindRow_eq_none {code : Byte} (h : ∀ row ∈ kindRows, code.toNat ≠ row.code) : kindRow code = none :=
  List.find?_eq_none.2 fun row hr => by simpa using (h row hr).symm

theorem oldestRow_eq {s : State} {p : List Byte} (h : oldest s = some p) : oldestRow s = kindRow (asked s).kind := by
  rw [asked_eq h, oldestRow, h]
  rfl

theorem oldestRow_mem {s : State} {row : KindRow} (h : oldestRow s = some row) : row ∈ kindRows := by
  obtain ⟨p, hp⟩ := oldest_of_row h
  rw [oldestRow_eq hp] at h
  exact List.mem_of_find?_eq_some h

theorem oldest_of_takeDue {s : State} (h : takeDue s = true) : ∃ p, oldest s = some p := by
  obtain ⟨waiting, _⟩ := (takeDue_iff s).1 h
  exact ⟨_, List.head?_eq_some_head waiting⟩

/-- A byte that the packet carries is read from it. -/
theorem headerByte_carried {p : List Byte} {i : Nat} (h : i < p.length) : headerByte p i = byteAt p i := by
  simp [headerByte, byteAt, h]

/-- The fields of a request stand in its header, and its body follows (R179). -/
theorem asked_header {s : State} {p : List Byte} (h : oldest s = some p) (long : 4 ≤ p.length) :
    (asked s).tag.toNat = (byteAt p 0).toNat % 16 ∧ (asked s).client.toNat = (byteAt p 0).toNat / 16 % 4 ∧
      (asked s).kind = byteAt p 1 ∧ (asked s).length = (byteAt p 2).toNat ∧ (asked s).carried = (p.length : Int) - 4 ∧
      (asked s).body = p.drop 4 ∧ (asked s).taken = s.now ∧ oldestBody s = p.drop 4 := by
  have carried : ∀ i, i < 4 → headerByte p i = byteAt p i := fun i hi => headerByte_carried (by omega)
  simp only [oldestBody, h, Option.getD_some, asked_eq h, parseRequest, carried, Nat.reduceLT, BitVec.extractLsb'_toNat,
    Nat.shiftRight_eq_div_pow, Nat.reducePow, Nat.div_one, and_self]

theorem powerOnField_iff (body : List Byte) : powerOnField body = true ↔ body[1]? ≠ some 0 := by
  unfold powerOnField
  cases body[1]? <;> simp

theorem muteOnField_iff (body : List Byte) : muteOnField body = true ↔ body[0]? ≠ some 0 := by
  unfold muteOnField
  cases body[0]? <;> simp

/-- The commands of PANEL_POWER and AUDIO_MUTE by their fields, of the other kinds by the kind alone. -/
theorem takingOf_eq (k : Kind) (body : List Byte) : takingOf k body =
    if k = .panelPower ∧ body[1]? = some 0 then .panelPowerOff
    else if k = .audioMute ∧ body[0]? = some 0 then .audioMuteOff
    else takingOf k [] := by
  cases k
  case panelPower => by_cases h : body[1]? = some 0 <;> simp [takingOf, powerOnField_iff, h]
  case audioMute => by_cases h : body[0]? = some 0 <;> simp [takingOf, muteOnField_iff, h]
  all_goals simp [takingOf]

/-! ## The five checks (R163, R166, R168) -/

theorem waits_iff (r : Requests) (c : BitVec 2) (g : BitVec 4) :
    r.waits c g = true ↔ ∃ e ∈ r.table, e.client = c ∧ e.tag = g := by
  simp only [Requests.waits, List.any_eq_true, holds_iff]

theorem replied_iff (r : Requests) (c : BitVec 2) (g : BitVec 4) :
    r.replied c g = true ↔ ∃ p ∈ r.replies, p.client = c ∧ p.tag = g := by
  simp only [Requests.replied, List.any_eq_true, Bool.and_eq_true, beq_iff_eq]

theorem canWait_iff (k : Kind) (body : List Byte) : canWait k body = true ↔
    k = .timelineCommit ∨ k = .motionConfig ∨ (k = .panelPower ∧ body[1]? ≠ some 0) := by
  cases k
  case panelPower => simpa [canWait] using powerOnField_iff body
  all_goals simp [canWait]

theorem lengthGood_iff (q : Request) (row : KindRow) :
    lengthGood q row = true ↔ (q.length : Int) = q.carried ∧ q.length = row.length := by
  simp only [lengthGood, Bool.and_eq_true, decide_eq_true_eq, beq_iff_eq]

/-- READ or WRITE passes a read, and WRITE alone a write (R168). -/
theorem passes_iff {held need : Perm} (h : need ≠ .none) :
    held.passes need = true ↔ held = .write ∨ (need = .read ∧ held = .read) := by
  cases need
  case none => exact absurd rfl h
  all_goals cases held <;> simp [Perm.passes]

/-- Every kind needs READ or WRITE (section 9.8). -/
theorem perm_ne_none {row : KindRow} (h : row ∈ kindRows) : row.perm ≠ .none := by
  have needs : ∀ row ∈ kindRows, row.perm ≠ .none := by decide
  exact needs row h

/-- The checks in their order, as R163 says them. -/
theorem judge_eq {row : KindRow} (h : row ∈ kindRows) (q : Request) (r : Requests) : judge q row r =
    let waits := row.kind = .timelineCommit ∨ row.kind = .motionConfig ∨ (row.kind = .panelPower ∧ q.body[1]? ≠ some 0)
    let held := (r.grants.get q.client.toNat).get row.group
    if ∃ e ∈ r.table, e.client = q.client ∧ e.tag = q.tag then .duplicate
    else if waits ∧ ∃ p ∈ r.replies, p.client = q.client ∧ p.tag = q.tag then .refuse .tagInUse (.duplicates 1)
    else if ¬ ((q.length : Int) = q.carried ∧ q.length = row.length) then .refuse .badLength (.required row.length)
    else if ¬ (held = .write ∨ (row.perm = .read ∧ held = .read)) then .refuse .noAccess (.needs row.group row.perm)
    else if waits ∧ 16 ≤ r.table.length then .refuse .busy (.entries r.table.length)
    else .pass := by
  simp only [judge, permitted, Bool.and_eq_true, Bool.not_eq_true', ← Bool.not_eq_true, decide_eq_true_eq, waits_iff,
    replied_iff, canWait_iff, lengthGood_iff, passes_iff (perm_ne_none h)]

/-! ## Requests refused (R163, R166, R170) -/

theorem recordDuplicate_popIntake (q : Request) (s : State) : recordDuplicate q (popIntake s) = { s with req := { s.req with
    intake := s.req.intake.drop 1
    taken := s.req.taken + 1
    refused := s.req.refused + 1
    table := s.req.table.map fun e => if e.client = q.client ∧ e.tag = q.tag then
      { e with dups := min 255 (e.dups + 1), dupKind := q.kind } else e } } := by
  simp only [recordDuplicate, Entry.duplicate, holds_iff, bump_eq_min]
  rfl

theorem refuse_popIntake {st : Status} (h : st ≠ .noAccess) (q : Request) (g : Group) (b : ReplyBody) (s : State) :
    refuse q g st b (popIntake s) = { s with req := answered q st b s.req } := by
  rw [refuse, if_neg h, answer_popIntake]

/-- The first request that lacks a permission fills the fault record and raises ACCESS_FAULT (R170). -/
theorem refuse_noAccess_first {s : State} (h : s.req.fault = none) (q : Request) (g : Group) (b : ReplyBody) :
    refuse q g .noAccess b (popIntake s) = { s with
      req := answered q .noAccess b (withEvent true .requestController (.accessFault q.client q.kind g) s.now
        { s.req with fault := some ⟨q.client, q.tag, q.kind, q.taken, false, 0⟩ }) } := by
  rw [refuse, if_pos rfl, recordFault, show (popIntake s).req.fault = none from h]
  rfl

/-- Each further one is counted in the record, which stays (R170). -/
theorem refuse_noAccess_again {s : State} {f : FaultRecord} (h : s.req.fault = some f) (q : Request) (g : Group)
    (b : ReplyBody) : refuse q g .noAccess b (popIntake s) = { s with
      req := answered q .noAccess b
        { s.req with fault := some { f with more := true, count := min 255 (f.count + 1) } } } := by
  rw [refuse, if_pos rfl, recordFault, show (popIntake s).req.fault = some f from h, ← bump_eq_min]
  rfl

/-! ## The command that takes the oldest request (R162, R163) -/

section
variable {s : State} {row : KindRow}

/-- What a command does that puts the oldest request to the checks. -/
def Checks (s : State) (row : KindRow) (o : Host.Outcome State Fault Refusal) : Prop :=
  ∃ pass, o = .next (checked (asked s) row pass (popIntake s))

theorem act_serve_checks {due : Bool} (hp : s.powered = true) (hd : due = true) (hr : oldestRow s = some row)
    (owner : Request → State → Done) : Checks s row (act due (serve owner) s) := by
  obtain ⟨p, oldest⟩ := oldest_of_row hr
  refine ⟨fun t => (owner (asked s) t).reply (asked s), act_eq hp hd ?_⟩
  rw [serve, oldest, hr, asked_eq oldest]

theorem act_serveHeld_checks {due : Bool} (hp : s.powered = true) (hd : due = true) (hr : oldestRow s = some row)
    (wait : Request → Wait) (owner : Request → State → Held) : Checks s row (act due (serveHeld wait owner) s) := by
  obtain ⟨p, oldest⟩ := oldest_of_row hr
  refine ⟨fun t => (owner (asked s) (addEntry (asked s) (wait (asked s)) t)).reply (asked s) (wait (asked s)),
    act_eq hp hd ?_⟩
  rw [serveHeld, oldest, hr, asked_eq oldest]

theorem kindDue_of_row (ht : takeDue s = true) (hr : oldestRow s = some row) : kindDue row.kind s = true := by
  rw [kindDue, ht, hr, Option.map_some, Bool.true_and, beq_self_eq_true]

/-- The command by which the oldest request is taken puts it to the checks. -/
theorem exec_takingOf_checks (hp : s.powered = true) (ht : takeDue s = true) (hr : oldestRow s = some row) :
    Checks s row (exec (takingOf row.kind (oldestBody s)) s) := by
  have due := kindDue_of_row ht hr
  have atOnce := fun {due : Bool} (hd : due = true) => act_serve_checks hp hd hr
  have held := fun {due : Bool} (hd : due = true) => act_serveHeld_checks hp hd hr
  generalize row.kind = k at due ⊢
  cases k
  case timelineCommit | motionConfig => exact held due _ _
  case panelPower =>
    rw [takingOf]
    split
    next on => exact held (Bool.and_eq_true_iff.2 ⟨due, on⟩) _ _
    next off => exact atOnce (Bool.and_eq_true_iff.2 ⟨due, by simpa using off⟩) _
  case audioMute =>
    rw [takingOf]
    split
    next on => exact atOnce (Bool.and_eq_true_iff.2 ⟨due, on⟩) _
    next off => exact atOnce (Bool.and_eq_true_iff.2 ⟨due, by simpa using off⟩) _
  all_goals exact atOnce due _

section
variable {o : Host.Outcome State Fault Refusal} (h : Checks s row o)
include h

theorem Checks.duplicate (hj : judge (asked s) row s.req = .duplicate) :
    o = .next (recordDuplicate (asked s) (popIntake s)) := by
  obtain ⟨pass, rfl⟩ := h
  rw [checked, show judge (asked s) row (popIntake s).req = .duplicate from hj]

theorem Checks.refused {st : Status} {b : ReplyBody} (hj : judge (asked s) row s.req = .refuse st b) :
    o = .next (refuse (asked s) row.group st b (popIntake s)) := by
  obtain ⟨pass, rfl⟩ := h
  rw [checked, show judge (asked s) row (popIntake s).req = .refuse st b from hj]

theorem Checks.answered {st : Status} (hs : st ≠ .noAccess) {b : ReplyBody}
    (hj : judge (asked s) row s.req = .refuse st b) :
    o = .next { s with req := Machine.answered (asked s) st b s.req } := by
  rw [h.refused hj, refuse_popIntake hs]

end

end

/-! ## Unknown kinds (R163) -/

theorem exec_unknownKind {s : State} (hp : s.powered = true) (ht : takeDue s = true) (hr : oldestRow s = none) :
    exec .unknownKind s = .next (if s.req.waits (asked s).client (asked s).tag then recordDuplicate (asked s) (popIntake s)
      else answer (asked s) .unknownKind .empty (popIntake s)) := by
  obtain ⟨p, oldest⟩ := oldest_of_takeDue ht
  refine act_eq hp (by rw [unknownDue, ht, hr]; rfl) ?_
  rw [serveUnknown, oldest, asked_eq oldest]
  rfl

/-- Settles O16: the checks by `judge_eq`, and each verdict's effect by the command that takes the request. -/
theorem requestChecks : Obligations.RequestChecks := by
  unfold Obligations.RequestChecks
  intro read write device link display motion audio power table
  have table_eq : table = kindRows.map fun row => (takingOf row.kind [], row) := rfl
  clear_value table
  subst table_eq
  refine ⟨List.forall_mem_map.2 fun row _ body => takingOf_eq row.kind body, fun g => ⟨rfl, rfl, rfl, rfl⟩,
    fun s hp ht => ?_⟩
  intro q r
  obtain ⟨p, front⟩ := oldest_of_takeDue ht
  have found : oldestRow s = kindRow q.kind := oldestRow_eq front
  refine ⟨fun _ carries long => asked_header carries long,
    List.forall_mem_map.2 fun row mem code => found.trans (kindRow_of_mem mem code),
    fun other => found.trans (kindRow_eq_none fun row mem => other _ (List.mem_map_of_mem mem)), ?_⟩
  intro marked twin
  refine ⟨fun unknown => ?unknown, fun row hr => ?known⟩
  case unknown =>
    have runs := exec_unknownKind hp ht unknown
    refine ⟨fun same => ?_, fun new => ?_⟩
    · rw [runs, if_pos ((waits_iff _ _ _).2 same), recordDuplicate_popIntake]
    · rw [runs, if_neg (mt (waits_iff _ _ _).1 new), answer_popIntake]
  case known =>
    intro c waits replied long held allowed
    have checks : Checks s row (exec c s) := exec_takingOf_checks hp ht hr
    have verdict := judge_eq (oldestRow_mem hr) q r
    have fresh := fun new : ¬ twin => verdict.trans (if_neg new)
    have unused := fun new (apart : ¬ replied) => (fresh new).trans (if_neg apart)
    have measured := fun new apart (fits : long) => (unused new apart).trans (if_neg (not_not.2 fits))
    have granted := fun new apart fits (may : allowed) => (measured new apart fits).trans (if_neg (not_not.2 may))
    refine ⟨fun same => ?duplicate, fun new again => checks.answered (by decide) ((fresh new).trans (if_pos again)),
      fun new apart short => checks.answered (by decide) ((unused new apart).trans (if_pos short)),
      fun new apart fits denied => ?access,
      fun new apart fits may wait full =>
        checks.answered (by decide) ((granted new apart fits may).trans (if_pos ⟨wait, full⟩)),
      fun new apart fits may room =>
        ⟨hp, kindDue_of_row ht hr, row, hr, (granted new apart fits may).trans (if_neg room)⟩⟩
    case duplicate => rw [checks.duplicate (verdict.trans (if_pos same)), recordDuplicate_popIntake]
    case access =>
      have refused := checks.refused ((measured new apart fits).trans (if_pos denied))
      exact ⟨fun empty => refused.trans (congrArg _ (refuse_noAccess_first empty _ _ _)),
        fun record filled => refused.trans (congrArg _ (refuse_noAccess_again filled _ _ _))⟩

end Sys2Proof.Machine
end

section
/-! PROOFS. START_UP, POWER_ON_RESET, the intake, and the reset state. -/
namespace Sys2Proof.Machine
open Sys2Proof

/-! ## The first grant computation (R141, R176) -/

/-- The part at the end of settling, short of the first grant computation. -/
def settled (s : State) : State := { holdReset s with powered := true }

theorem settled_available (s : State) : (settled s).available = (1800 : Nat) := by
  rw [State.available, show (settled s).fixedSum = 700 from rfl, show (settled s).power.contract = 2500 from rfl]
  rfl

/-- The power-on values ask for nothing, and the Power Manager's power-on values say what is granted then. -/
theorem computePower_settled (s : State) : computePower (settled s) = settled s := by
  have idle := price_idle (d := demand (settled s)) rfl rfl rfl rfl ⟨16, 16, .l1⟩
  have chosen : chooseSetting (demand (settled s)) (settled s).power.derate 1800 = ⟨16, 16, .l1⟩ :=
    chooseSetting_first (derate := 0) ((congrArg Priced.total idle).trans_le (Nat.zero_le _))
  rw [computePower, settled_available, if_neg (by decide), Int.toNat_natCast, chosen]
  simp only [State.mapPower, Power.grant, idle]
  rfl

/-- Of the power-on values the first grant computation changes the audio ceiling alone. -/
theorem startPart_eq (s : State) :
    startPart s = { settled s with audio := { Audio.reset with ceiling := .l1 } } := by
  have unlimited : raiseLimited (settled s).power (settled s).available (settled s) = settled s := rfl
  rw [startPart, computeGrants, show { holdReset s with powered := true } = settled s from rfl, computePower_settled,
    unlimited]
  rfl

/-- Settles O3: the start by `startPart_eq`, the reset by the values of the part held in reset. -/
theorem startAndPowerOnReset : Obligations.StartAndPowerOnReset := by
  unfold Obligations.StartAndPowerOnReset
  intro mv s
  have start : exec (.startUp mv) s =
      .next (if s.powered then s else if 9000 < mv then startPart (setVoltage mv s) else setVoltage mv s) := rfl
  have reset : exec (.powerOnReset mv) s = .next (if mv < 9000 then holdReset (setVoltage mv s) else s) := rfl
  refine ⟨fun held high => ⟨_, ?starts, ?available, rfl⟩, fun runs => ?runs, fun held low => ?low, fun low => ?resets,
    fun high => ?spared⟩
  case starts => rw [start, if_neg (by simp [held]), if_pos high, startPart_eq]; rfl
  case available => exact settled_available s
  case runs => rw [start, if_pos runs]
  case low => rw [start, if_neg (by simp [held]), if_neg (by omega)]; rfl
  case resets => rw [reset, if_pos low]; rfl
  case spared => rw [reset, if_neg (by omega)]

/-! ## The intake (R161) -/

theorem admitCtrl_room {s : State} (h : s.req.intake.length < 2) (p : List Byte) :
    admitCtrl p s = { s with req := { s.req with intake := s.req.intake ++ [p] } } := if_pos h

theorem admitCtrl_full {s : State} (h : 2 ≤ s.req.intake.length) (p : List Byte) :
    admitCtrl p s = { s with
      req := withEvent true .requestController (.ctrlOverrun (s.req.discarded + 1)) s.now
        { s.req with discarded := s.req.discarded + 1 } } := if_neg (Nat.not_lt.2 h)

/-- Settles O17: a packet heard in UP, by the room of the intake. -/
theorem ctrlIntake : Obligations.CtrlIntake := by
  unfold Obligations.CtrlIntake
  intro s p hp up
  have heard : exec (.ctrl p) s = .next (admitCtrl p { s with link := heardCtrl s }) := act_eq hp rfl (ctrlPacket_up p s up)
  exact ⟨fun room => heard.trans (congrArg _ (admitCtrl_room (s := { s with link := heardCtrl s }) room p)),
    fun full => heard.trans (congrArg _ (admitCtrl_full (s := { s with link := heardCtrl s }) full p))⟩

/-! ## The reset state (R136, R176) -/

/-- Settles O54: every queue is empty, the settings are those of the power-on values, and in a part held in reset
nothing is lit and nothing but CORE costs. -/
theorem resetSound : Obligations.ResetSound := by
  unfold Obligations.ResetSound
  intro s
  have bounded : QueuesBounded s := ⟨by decide, by decide, by decide, by decide, by decide⟩
  have table : TableSound s := ⟨by decide, .nil, fun _ h => absurd h List.not_mem_nil, by decide⟩
  have samples : SamplesRise s := ⟨rising_nil _, fun h => absurd h List.not_mem_nil, fun _ => rfl⟩
  have capture : CaptureRises s := ⟨rising_nil _, fun h => absurd h List.not_mem_nil, by decide⟩
  exact ⟨.nil, bounded, table, ⟨by decide, by decide⟩, (rangesSound_iff s).2 rangesSound_reset, ⟨rfl, rfl⟩,
    (shiftSound_iff s).2 shiftSound_reset, holdReset_within s, (guardSound_iff s).2 guardSound_reset, holdReset_sound s,
    samples, capture⟩

end Sys2Proof.Machine
end

section
/-! PROOFS. The bytes of an event record. -/
namespace Sys2Proof.Machine
open Sys2Proof

/-! ## Bytes laid out as fields (00, Byte order; section 10.4) -/

/-- Fields one after another, each of a size and a value. -/
def pack : List (Nat × Nat) → List Byte
  | [] => []
  | (n, v) :: fs => leBytes n v ++ pack fs

/-- The field that begins at an offset. -/
def fieldAt : List (Nat × Nat) → Nat → Option (Nat × Nat)
  | [], _ => none
  | f :: fs, i => if i = 0 then some f else if i < f.1 then none else fieldAt fs (i - f.1)

theorem pack_length : ∀ fs : List (Nat × Nat), (pack fs).length = (fs.map Prod.fst).sum
  | [] => rfl
  | (n, v) :: fs => by simp [pack, leBytes_length, pack_length fs]

theorem byteAt_skip (l r : List Byte) (i : Nat) : byteAt (l ++ r) (l.length + i) = byteAt r i := by
  simp [byteAt, List.getElem?_append_right]

theorem field_skip (l r : List Byte) : ∀ n i : Nat, field (l ++ r) (l.length + i) n = field r i n
  | 0, _ => rfl
  | n + 1, i => by rw [field, field, byteAt_skip, Nat.add_assoc, field_skip l r n (i + 1)]

/-- A reader takes each field's value from the field's offset, as far as its size holds it. -/
theorem field_pack (r : List Byte) : ∀ {fs : List (Nat × Nat)} {i n v : Nat}, fieldAt fs i = some (n, v) →
    field (pack fs ++ r) i n = v % 256 ^ n
  | (m, u) :: fs, i, n, v, h => by
    rw [pack, List.append_assoc]
    rw [fieldAt] at h
    split at h
    next first =>
      cases h
      rw [first]
      exact field_leBytes m u [] _
    next =>
      split at h
      · cases h
      next beyond =>
        obtain ⟨j, rfl⟩ := Nat.exists_eq_add_of_le (not_lt.1 beyond)
        rw [Nat.add_sub_cancel_left] at h
        rw [← field_pack r h, ← field_skip (leBytes m u) (pack fs ++ r) n j, leBytes_length]

/-! ## The layout of an event record (sections 10.4 and 10.5) -/

/-- A signed value in two's complement. -/
def signed (n : Nat) (v : Int) : Nat := (BitVec.ofInt (8 * n) v).toNat

theorem signed_eq (n : Nat) (v : Int) : (signed n v : Int) = v % ((256 ^ n : Nat) : Int) := by
  have size : 2 ^ (8 * n) = 256 ^ n := pow_mul 2 8 n
  rw [signed, BitVec.toNat_ofInt, size, Int.toNat_of_nonneg (Int.emod_nonneg _ (by positivity))]

theorem saturate32_eq (x : Int) : saturate32 x = max (-2147483648) (min 2147483647 x) := clampInt_eq (by decide) x

/-- The fields of the detail of an event. -/
def Detail.layout : Detail → List (Nat × Nat)
  | .linkUp session resumed held => [(1, session.toNat), (1, if resumed then 2 else 1), (4, held)]
  | .linkHold last => [(6, last.toNat)]
  | .linkLost session requests replies reports => [(1, session.toNat), (1, requests), (1, replies), (1, reports)]
  | .linkDegraded count first => [(2, count), (2, first.toNat)]
  | .syncChanged before after cause error =>
    [(1, before.code), (1, after.code), (1, cause.code), (1, flag error.isSome 0),
      (4, signed 4 (saturate32 (error.getD 0)))]
  | .markRejected spacing difference => [(4, signed 4 spacing), (4, signed 4 difference)]
  | .phaseLockChanged mode error => [(1, mode.code), (1, flag error.isSome 0), (2, signed 2 (error.getD 0))]
  | .displayBlanked cause => [(1, cause.code)]
  | .videoStall run => [(2, run)]
  | .frameDropped dropped new => [(2, dropped.toNat), (2, new.toNat)]
  | .wearChanged before after => [(1, before.code), (1, after.code)]
  | .cameraNoResponse frame trigger => [(4, frame.toNat), (4, (trigger.setWidth 32).toNat)]
  | .imuFault cause count port => [(1, cause.code), (1, count), (1, port.code)]
  | .audioUnderrun underruns => [(4, underruns.toNat)]
  | .audioOverflow sequence discarded => [(2, sequence.toNat), (1, discarded)]
  | .audioFault tick => [(6, tick.toNat)]
  | .captureDiscard tick => [(6, tick.toNat)]
  | .powerLimited fs fi level derate available overContract =>
    [(1, fs), (1, fi), (1, level.rank), (1, derate), (2, signed 2 available), (1, flag overContract 0)]
  | .brownout mv => [(2, mv)]
  | .overdraw average contract derate => [(4, average), (2, contract), (1, derate)]
  | .sleepChanged asleep cause => [(1, flag asleep 0), (1, cause.code)]
  | .accessFault client kind group => [(1, client.toNat), (1, kind.toNat), (1, group.code)]
  | .ctrlOverrun discarded => [(4, discarded.toNat)]

theorem Detail.bytes_eq (d : Detail) : d.bytes = pack d.layout := by
  cases d
  case accessFault client kind group => simp [Detail.bytes, Detail.layout, pack, bvBytes, leBytes]
  all_goals rfl

/-- The fields of an event record. -/
def Event.layout (e : Event) : List (Nat × Nat) :=
  [(1, e.detail.code), (1, e.source.code), (1, e.count), (1, 0), (6, e.first.toNat), (6, e.last.toNat)] ++
    e.detail.layout

theorem eventBytes_eq (e : Event) :
    eventBytes e = pack e.layout ++ List.replicate (8 - e.detail.bytes.length) 0 := by
  simp only [eventBytes, padTo, Event.layout, pack, bvBytes, List.append_assoc, List.cons_append,
    List.nil_append, ← Detail.bytes_eq]

theorem Detail.bytes_length_le (d : Detail) : d.bytes.length ≤ 8 := by
  rw [d.bytes_eq, pack_length]
  cases d <;> exact Nat.le_of_ble_eq_true rfl

theorem eventBytes_length (e : Event) : (eventBytes e).length = 24 := by
  have := e.detail.bytes_length_le
  simp [eventBytes, padTo, bvBytes, leBytes_length]
  omega

section
variable {e : Event} {i n : Nat}

/-- After its detail the record is padded with zeros (R181). -/
theorem event_rest (h : e.detail.bytes.length = n) : (eventBytes e).drop (16 + n) = List.replicate (8 - n) 0 := by
  have covered : (pack e.layout).length = 16 + n := by
    rw [← h, e.detail.bytes_eq, pack_length, pack_length]
    simp only [Event.layout, List.map_append, List.map_cons, List.map_nil, List.sum_append, List.sum_cons, List.sum_nil,
      Nat.reduceAdd]
  rw [eventBytes_eq, List.drop_left' covered, h]

theorem event_reads {v : Nat} (h : fieldAt e.layout i = some (n, v)) : field (eventBytes e) i n = v % 256 ^ n := by
  rw [eventBytes_eq, field_pack _ h]

/-- A value within its field is read back as it is. -/
theorem event_holds {v : Nat} (h : fieldAt e.layout i = some (n, v)) (fits : v < 256 ^ n) :
    field (eventBytes e) i n = v := (event_reads h).trans (Nat.mod_eq_of_lt fits)

theorem event_signed {v : Int} (h : fieldAt e.layout i = some (n, signed n v)) :
    (field (eventBytes e) i n : Int) = v % ((256 ^ n : Nat) : Int) := by
  rw [event_reads h, Int.natCast_mod, signed_eq, Int.emod_emod]

end

/-! ## Codes fit a byte (section 10.5) -/

theorem Source.code_lt (x : Source) : x.code < 256 := by
  cases x
  case eye e => cases e <;> decide
  case camera c =>
    show 32 + c.val < 256
    omega
  all_goals decide

theorem Sync.code_lt (x : Sync) : x.code < 256 := by cases x <;> decide
theorem SyncCause.code_lt (x : SyncCause) : x.code < 256 := by cases x <;> decide
theorem PhaseMode.code_lt (x : PhaseMode) : x.code < 256 := by cases x <;> decide
theorem Cause.code_lt (x : Cause) : x.code < 256 := by cases x <;> decide
theorem Wear.code_lt (x : Wear) : x.code < 256 := by cases x <;> decide
theorem ReadCause.code_lt (x : ReadCause) : x.code < 256 := by cases x <;> decide
theorem Port.code_lt (x : Port) : x.code < 256 := by cases x <;> decide
theorem Level.rank_lt (x : Level) : x.rank < 256 := by cases x <;> decide
theorem SleepCause.code_lt (x : SleepCause) : x.code < 256 := by cases x <;> decide
theorem Group.code_lt (x : Group) : x.code < 256 := by cases x <;> decide
theorem flag_lt (b : Bool) : flag b 0 < 256 := by cases b <;> decide

/-- Settles O53: the record by its layout, each field by what a reader takes at its offset. -/
theorem Event.eventBytes : Obligations.EventBytes := by
  unfold Obligations.EventBytes
  intro e b source sync wear bit byte word long tick kind rest
  refine ⟨eventBytes_length e, event_holds rfl e.source.code_lt, event_reads rfl, event_holds rfl (by decide),
    event_holds rfl e.first.isLt, event_holds rfl e.last.isLt, ?_⟩
  rcases e with ⟨src, d, count, first, last⟩
  cases d with
  | linkUp session resumed held =>
    exact ⟨rfl, event_holds rfl session.isLt, by cases resumed <;> rfl, event_reads rfl, event_rest rfl⟩
  | linkHold last => exact ⟨rfl, event_holds rfl last.isLt, event_rest rfl⟩
  | linkLost session requests replies reports =>
    exact ⟨rfl, event_holds rfl session.isLt, event_reads rfl, event_reads rfl, event_reads rfl, event_rest rfl⟩
  | linkDegraded count first => exact ⟨rfl, event_reads rfl, event_holds rfl first.isLt, event_rest rfl⟩
  | syncChanged before after cause error =>
    refine ⟨rfl, event_holds rfl before.code_lt, event_holds rfl after.code_lt, event_holds rfl cause.code_lt,
      event_holds rfl (flag_lt _), ?_⟩
    rw [← saturate32_eq]
    exact event_signed rfl
  | markRejected spacing difference => exact ⟨rfl, event_signed rfl, event_signed rfl⟩
  | phaseLockChanged mode error =>
    exact ⟨rfl, event_holds rfl mode.code_lt, event_holds rfl (flag_lt _), event_signed rfl, event_rest rfl⟩
  | displayBlanked cause => exact ⟨rfl, event_holds rfl cause.code_lt, event_rest rfl⟩
  | videoStall run => exact ⟨rfl, event_reads rfl, event_rest rfl⟩
  | frameDropped dropped new => exact ⟨rfl, event_holds rfl dropped.isLt, event_holds rfl new.isLt, event_rest rfl⟩
  | wearChanged before after =>
    exact ⟨rfl, event_holds rfl before.code_lt, event_holds rfl after.code_lt, event_rest rfl⟩
  | cameraNoResponse frame trigger =>
    exact ⟨rfl, event_holds rfl frame.isLt,
      (event_holds rfl (trigger.setWidth 32).isLt).trans (BitVec.toNat_setWidth 32 trigger)⟩
  | imuFault cause count port =>
    exact ⟨rfl, event_holds rfl cause.code_lt, event_reads rfl, event_holds rfl port.code_lt, event_rest rfl⟩
  | audioUnderrun underruns => exact ⟨rfl, event_holds rfl underruns.isLt, event_rest rfl⟩
  | audioOverflow sequence discarded =>
    exact ⟨rfl, event_holds rfl sequence.isLt, event_reads rfl, event_rest rfl⟩
  | audioFault t => exact ⟨rfl, event_holds rfl t.isLt, event_rest rfl⟩
  | captureDiscard t => exact ⟨rfl, event_holds rfl t.isLt, event_rest rfl⟩
  | powerLimited fs fi level derate available overContract =>
    exact ⟨rfl, event_reads rfl, event_reads rfl, event_holds rfl level.rank_lt, event_reads rfl, event_signed rfl,
      event_holds rfl (flag_lt _), event_rest rfl⟩
  | brownout mv => exact ⟨rfl, event_reads rfl, event_rest rfl⟩
  | overdraw average contract derate =>
    exact ⟨rfl, event_reads rfl, event_reads rfl, event_reads rfl, event_rest rfl⟩
  | sleepChanged asleep cause =>
    exact ⟨rfl, event_holds rfl (flag_lt _), event_holds rfl cause.code_lt, event_rest rfl⟩
  | accessFault client k group =>
    exact ⟨rfl, event_holds rfl (client.isLt.trans (by decide)), event_holds rfl k.isLt,
      event_holds rfl group.code_lt, event_rest rfl⟩
  | ctrlOverrun discarded => exact ⟨rfl, event_holds rfl discarded.isLt, event_rest rfl⟩

end Sys2Proof.Machine
end

section
/-! PROOFS. The bytes of the upstream lane: superframe headers, slots, replies, report records and CAPTURE blocks. -/
namespace Sys2Proof.Machine
open Sys2Proof

/-! ## Fields at the front of a record -/

section
variable {fs : List (Nat × Nat)} {b : List Byte} {i n : Nat}

/-- A reader takes each field of a layout that the bytes begin with, as far as its size holds the value. -/
theorem front_reads (hb : pack fs <+: b) {v : Nat} (h : fieldAt fs i = some (n, v)) : field b i n = v % 256 ^ n := by
  obtain ⟨r, rfl⟩ := hb
  exact field_pack r h

theorem front_holds (hb : pack fs <+: b) {v : Nat} (h : fieldAt fs i = some (n, v)) (fits : v < 256 ^ n) :
    field b i n = v := (front_reads hb h).trans (Nat.mod_eq_of_lt fits)

theorem front_signed (hb : pack fs <+: b) {v : Int} (h : fieldAt fs i = some (n, signed n v)) :
    (field b i n : Int) = v % ((256 ^ n : Nat) : Int) := by
  rw [front_reads hb h, Int.natCast_mod, signed_eq, Int.emod_emod]

theorem front_of_eq (h : b = pack fs) : pack fs <+: b := h ▸ List.prefix_rfl

theorem length_of_eq (h : b = pack fs) : b.length = (fs.map Prod.fst).sum := h ▸ pack_length fs

end

/-- Past some bytes a reader takes what the bytes after them say. -/
theorem field_past {l : List Byte} {off : Nat} (h : l.length = off) (r : List Byte) (i n : Nat) :
    field (l ++ r) (off + i) n = field r i n := h ▸ field_skip l r n i

/-- Of pieces of one size, one after another, a reader at the place of the `i`-th takes that piece. -/
theorem field_flatMap {α : Type} (f : α → List Byte) (m : Nat) (r : List Byte) : ∀ {l : List α} {i : Nat} {x : α},
    (∀ y ∈ l, (f y).length = m) → l[i]? = some x →
      ∃ rest, ∀ k n, field (l.flatMap f ++ r) (m * i + k) n = field (f x ++ rest) k n
  | y :: l, 0, x, _, h => by
    cases h
    exact ⟨l.flatMap f ++ r, fun k n => by rw [List.flatMap_cons, List.append_assoc, Nat.mul_zero, Nat.zero_add]⟩
  | y :: l, i + 1, x, size, h => by
    obtain ⟨rest, reads⟩ := field_flatMap f m r (l := l) (i := i) (fun z hz => size z (List.mem_cons_of_mem y hz)) h
    refine ⟨rest, fun k n => ?_⟩
    rw [← reads, List.flatMap_cons, List.append_assoc, Nat.mul_succ, Nat.add_comm (m * i), Nat.add_assoc,
      field_past (size y List.mem_cons_self)]

theorem flatMap_length {α : Type} {f : α → List Byte} {m : Nat} {l : List α} (size : ∀ y ∈ l, (f y).length = m) :
    (l.flatMap f).length = m * l.length := by
  rw [List.length_flatMap, List.map_congr_left size, List.map_const', List.sum_replicate, smul_eq_mul, Nat.mul_comm]

theorem leBytes_zero : ∀ n : Nat, leBytes n 0 = List.replicate n 0
  | 0 => rfl
  | n + 1 => by rw [leBytes, Nat.zero_div, leBytes_zero n, List.replicate_succ]; rfl

theorem padTo_length {n : Nat} {l : List Byte} (h : l.length ≤ n) : (padTo n l).length = n := by
  rw [padTo, List.length_append, List.length_replicate, Nat.add_sub_cancel' h]

/-- The check value of the CRC-32 of R178: that of the digits 1 to 9. -/
theorem crc32_check : crc32 [0x31, 0x32, 0x33, 0x34, 0x35, 0x36, 0x37, 0x38, 0x39] = 3421780262 := by decide +kernel

/-- The CRC-32 that follows some bytes is that of those bytes (R178). -/
theorem crc_reads {body b : List Byte} {n : Nat} (hb : b = body ++ bvBytes 4 (crc32 body)) (h : body.length = n) :
    field b n 4 = (crc32 (b.take n)).toNat := by
  rw [hb, List.take_left' h, ← h]
  exact Packet.field_word _ _

/-! ## Codes and flags (section 10.5) -/

theorem Status.code_lt (x : Status) : x.code < 256 := by cases x <;> decide
theorem ShiftSource.code_lt (x : ShiftSource) : x.code < 256 := by cases x <;> decide
theorem Sync.code_le (x : Sync) : x.code ≤ 2 := by cases x <;> decide
theorem SlotClass.code_le (x : SlotClass) : x.code ≤ 4 := by cases x <;> decide
theorem Content.code_lt (x : Content) : x.code < 256 := by cases x <;> simp [Content.code]

theorem flag_le (b : Bool) (i : Nat) : flag b i ≤ 2 ^ i := by cases b <;> simp [flag]

/-- Flags in the lower bits of a byte fit it. -/
theorem flags_lt (b0 b1 b2 b3 b4 : Bool) : flag b0 0 + flag b1 1 + flag b2 2 + flag b3 3 + flag b4 4 < 256 := by
  have bit0 := flag_le b0 0
  have bit1 := flag_le b1 1
  have bit2 := flag_le b2 2
  have bit3 := flag_le b3 3
  have bit4 := flag_le b4 4
  omega

/-! ## Superframe headers (R180) -/

/-- The fields of a superframe header before its CRC-32. -/
def SuperframeHeader.layout (h : SuperframeHeader) : List (Nat × Nat) :=
  [(1, h.session.toNat), (1, h.sync.code), (2, h.number.toNat), (6, h.tick.toNat), (2, 0)]

theorem SuperframeHeader.body_eq (h : SuperframeHeader) : h.body = pack h.layout := by
  simp only [SuperframeHeader.body, SuperframeHeader.layout, pack, bvBytes, List.append_assoc, List.append_nil]

theorem SuperframeHeader.bytes_front (h : SuperframeHeader) : pack h.layout <+: h.bytes :=
  h.body_eq ▸ List.prefix_append _ _

theorem SuperframeHeader.body_length (h : SuperframeHeader) : h.body.length = 12 := length_of_eq h.body_eq

theorem SuperframeHeader.bytes_length (h : SuperframeHeader) : h.bytes.length = 16 := by
  rw [SuperframeHeader.bytes, List.length_append, h.body_length, bvBytes, leBytes_length]

/-! ## Slots (R180) -/

/-- The fields of a slot's header. -/
def Slot.layout (x : Slot) : List (Nat × Nat) :=
  [(1, x.content.code), (1, x.number % 16 + x.cls.code * 16), (1, x.content.count), (1, 0)]

theorem Slot.body_eq (x : Slot) : x.body = pack x.layout ++ padTo 120 x.content.bytes := by
  simp only [Slot.body, Slot.layout, pack, List.append_assoc, List.append_nil]

theorem Slot.bytes_eq (x : Slot) :
    x.bytes = pack x.layout ++ (padTo 120 x.content.bytes ++ bvBytes 4 (crc32 x.body)) := by
  rw [Slot.bytes, ← List.append_assoc, ← x.body_eq]

theorem Slot.layout_length (x : Slot) : (pack x.layout).length = 4 := pack_length _

theorem Slot.bytes_front (x : Slot) : pack x.layout <+: x.bytes := x.bytes_eq ▸ List.prefix_append _ _

theorem Slot.body_length {x : Slot} (fits : x.content.bytes.length ≤ 120) : x.body.length = 124 := by
  rw [x.body_eq, List.length_append, x.layout_length, padTo_length fits]

theorem Slot.bytes_length {x : Slot} (fits : x.content.bytes.length ≤ 120) : x.bytes.length = 128 := by
  rw [Slot.bytes, List.length_append, Slot.body_length fits, bvBytes, leBytes_length]

theorem Slot.bytes_payload {x : Slot} (fits : x.content.bytes.length ≤ 120) :
    (x.bytes.drop 4).take 120 = padTo 120 x.content.bytes := by
  rw [x.bytes_eq, List.drop_left' x.layout_length, List.take_left' (padTo_length fits)]

/-- A slot's number and class share a byte. -/
theorem Slot.place_eq {x : Slot} (h : x.number < 16) :
    x.number % 16 + x.cls.code * 16 = x.number + 16 * x.cls.code := by omega

/-! ## Replies (section 10.3) -/

theorem clientTag_toNat (client : BitVec 2) (tag : BitVec 4) :
    (clientTag client tag).toNat = tag.toNat + 16 * client.toNat := by
  rw [clientTag, toNat_append_low, toNat_append_low]
  simp

/-- The fields of a reply before its body. -/
def Reply.layout (r : Reply) : List (Nat × Nat) :=
  [(1, (clientTag r.client r.tag).toNat), (1, r.kind.toNat), (1, r.status.code), (1, r.length),
    (4, (r.taken.setWidth 32).toNat)]

theorem replyBytes_eq (r : Reply) :
    replyBytes r = pack r.layout ++ (List.range r.length).map (Config.replyBodyByte r.serial) := by
  simp [replyBytes, Reply.layout, pack, bvBytes, leBytes]

theorem replyBytes_front (r : Reply) : pack r.layout <+: replyBytes r := replyBytes_eq r ▸ List.prefix_append _ _

theorem replyBytes_length (r : Reply) : (replyBytes r).length = 8 + r.length := by
  rw [replyBytes_eq, List.length_append, pack_length, List.length_map, List.length_range]
  rfl

/-! ## Report records (section 10.4) -/

/-- The fields of a SENSOR record. -/
def sensorLayout (p : Placed) (r : SensorRecord) : List (Nat × Nat) :=
  let x := r.sample
  [(1, 1), (1, flag p.adjusted 0), (1, p.sync.code), (6, x.tick.toNat), (2, r.missed), (8, p.host.toNat),
    (3, signed 3 x.gyro.yaw), (3, signed 3 x.gyro.pitch), (3, signed 3 x.gyro.roll), (2, signed 2 x.accel.yaw),
    (2, signed 2 x.accel.pitch), (2, signed 2 x.accel.roll), (2, signed 2 x.temperature), (4, p.tally)]

theorem placedBytes_sensor {p : Placed} {r : SensorRecord} (h : p.report = .sensor r) :
    placedBytes p = pack (sensorLayout p r) := by
  rw [placedBytes, h]
  simp only [sensorBytes, sensorLayout, pack, bvBytes, leSigned, signed, List.append_assoc, List.append_nil]

/-- The fields of an EXPOSURE record. -/
def exposureLayout (p : Placed) (r : ExposureRecord) : List (Nat × Nat) :=
  [(1, 2),
    (1, flag p.adjusted 0 + flag r.noResponse 1 + flag r.noEnd 2 + flag r.cutShort 3 + flag r.lateStart 4),
    (1, p.sync.code), (1, r.camera.val), (4, r.frame.toNat), (6, r.start.toNat), (6, r.trigger.toNat),
    (6, (r.stop.getD 0).toNat), (2, r.drive), (8, p.host.toNat), (4, p.tally)]

theorem placedBytes_exposure {p : Placed} {r : ExposureRecord} (h : p.report = .exposure r) :
    placedBytes p = pack (exposureLayout p r) := by
  rw [placedBytes, h]
  simp only [exposureBytes, exposureLayout, pack, bvBytes, List.append_assoc, List.append_nil]

/-- A value that is absent is sent as 0. -/
theorem toNat_getD {w : Nat} (x : Option (BitVec w)) : (x.getD 0).toNat = (x.map BitVec.toNat).getD 0 :=
  (Option.getD_map BitVec.toNat 0 x).symm

/-- The fields of the eye block of a FRAME record. -/
def EyeFrame.layout (f : EyeFrame) : List (Nat × Nat) :=
  [(1, flag f.id.isSome 0 + flag f.lit 1), (1, f.shift.source.code),
    (1, flag f.shift.clamp 0 + flag f.shift.short 1 + flag f.shift.limit 2 + flag f.shift.noData 3 +
      flag f.shift.noSync 4), (1, 0), (2, (f.id.getD 0).toNat), (2, signed 2 f.shift.sx), (2, signed 2 f.shift.sy),
    (2, f.repeats)]

theorem eyeBytes_eq (f : EyeFrame) : eyeBytes f = pack f.layout := by
  simp only [eyeBytes, EyeFrame.layout, pack, bvBytes, leSigned, signed, List.append_assoc, List.append_nil]

theorem eyeBytes_length (f : EyeFrame) : (eyeBytes f).length = 12 := length_of_eq (eyeBytes_eq f)

/-- An eye block, as a reader takes its fields from its offset. -/
theorem eye_reads {b l r : List Byte} {off : Nat} {f : EyeFrame} (hb : b = l ++ (eyeBytes f ++ r))
    (h : l.length = off) :
    field b off 1 = flag f.id.isSome 0 + flag f.lit 1 ∧ field b (off + 1) 1 = f.shift.source.code ∧
      field b (off + 2) 1 = flag f.shift.clamp 0 + flag f.shift.short 1 + flag f.shift.limit 2 +
        flag f.shift.noData 3 + flag f.shift.noSync 4 ∧
      field b (off + 3) 1 = 0 ∧ field b (off + 4) 2 = (f.id.map BitVec.toNat).getD 0 ∧
      (field b (off + 6) 2 : Int) = f.shift.sx % 65536 ∧ (field b (off + 8) 2 : Int) = f.shift.sy % 65536 ∧
      field b (off + 10) 2 = f.repeats % 65536 := by
  have front : pack f.layout <+: eyeBytes f ++ r := eyeBytes_eq f ▸ List.prefix_append _ _
  have at_eye (i n : Nat) : field b (off + i) n = field (eyeBytes f ++ r) i n := hb ▸ field_past h _ i n
  have shown := flags_lt f.id.isSome f.lit false false false
  simp only [at_eye, ← toNat_getD]
  exact ⟨(at_eye 0 1).trans (front_holds front rfl shown), front_holds front rfl f.shift.source.code_lt,
    front_holds front rfl (flags_lt _ _ _ _ _), front_holds front rfl (by decide),
    front_holds front rfl (f.id.getD 0).isLt, front_signed front rfl, front_signed front rfl, front_reads front rfl⟩

/-- The fields of a FRAME record before its eye blocks. -/
def frameLayout (p : Placed) (r : FrameRecord) : List (Nat × Nat) :=
  [(1, 3), (1, flag p.adjusted 0 + flag r.cutShort 1 + flag r.newBank 2 + flag r.error.isSome 3), (1, p.sync.code),
    (1, r.phase.code), (4, r.frame.toNat), (6, r.tick.toNat), (8, p.host.toNat), (2, r.length), (2, r.period),
    (1, signed 1 r.adj), (1, 0), (2, signed 2 (r.error.getD 0)), (4, p.tally)]

section
variable {p : Placed} {r : FrameRecord}

theorem placedBytes_frame (h : p.report = .frame r) :
    placedBytes p = pack (frameLayout p r) ++ (eyeBytes r.eyes.left ++ (eyeBytes r.eyes.right ++ leBytes 22 0)) := by
  rw [placedBytes, h]
  simp only [frameBytes, frameLayout, pack, bvBytes, leSigned, signed, List.append_assoc, List.append_nil]

theorem placedBytes_frame_right (h : p.report = .frame r) :
    placedBytes p = (pack (frameLayout p r) ++ eyeBytes r.eyes.left) ++ (eyeBytes r.eyes.right ++ leBytes 22 0) := by
  rw [placedBytes_frame h, List.append_assoc]

theorem frameLayout_length : (pack (frameLayout p r)).length = 34 := pack_length _

theorem placedBytes_frame_length (h : p.report = .frame r) : (placedBytes p).length = 80 := by
  rw [placedBytes_frame h]
  simp only [List.length_append, frameLayout_length, eyeBytes_length, leBytes_length]

/-- A FRAME record ends in zeros. -/
theorem placedBytes_frame_rest (h : p.report = .frame r) : (placedBytes p).drop 58 = List.replicate 22 0 := by
  rw [placedBytes_frame_right h, ← List.append_assoc, ← leBytes_zero]
  refine List.drop_left' ?_
  simp only [List.length_append, frameLayout_length, eyeBytes_length]

end

/-! ## CAPTURE blocks (section 10.4) -/

/-- The fields of a CAPTURE block before its samples. -/
def CaptureBlock.layout (c : CaptureBlock) : List (Nat × Nat) :=
  [(1, c.channels - 1 + flag c.adjusted 2 + flag (decide (0 < c.discard)) 3 + c.sync.code * 16),
    (1, c.frames.length), (2, c.discard), (4, (c.tick.setWidth 32).toNat), (8, c.host.toNat)]

theorem captureBytes_eq (c : CaptureBlock) :
    captureBytes c = pack c.layout ++ c.frames.flatMap fun f => f.flatMap (bvBytes 3) := by
  simp only [captureBytes, CaptureBlock.layout, pack, bvBytes, List.append_assoc, List.append_nil]

theorem CaptureBlock.layout_length (c : CaptureBlock) : (pack c.layout).length = 16 := pack_length _

theorem captureBytes_front (c : CaptureBlock) : pack c.layout <+: captureBytes c :=
  captureBytes_eq c ▸ List.prefix_append _ _

theorem samples_length (f : List (BitVec 24)) : (f.flatMap (bvBytes 3)).length = 3 * f.length :=
  flatMap_length fun x _ => leBytes_length 3 x.toNat

section
variable {c : CaptureBlock} (uniform : ∀ f ∈ c.frames, f.length = c.channels)
include uniform

theorem frames_length : ∀ f ∈ c.frames, (f.flatMap (bvBytes 3)).length = 3 * c.channels :=
  fun f hf => by rw [samples_length, uniform f hf]

theorem captureBytes_length : (captureBytes c).length = 16 + 3 * c.channels * c.frames.length := by
  rw [captureBytes_eq, List.length_append, c.layout_length, flatMap_length (frames_length uniform)]

/-- The samples of a block stand frame after frame, and in a frame channel after channel (R121). -/
theorem capture_reads {i j : Nat} {f : List (BitVec 24)} {x : BitVec 24} (hf : c.frames[i]? = some f)
    (hx : f[j]? = some x) : field (captureBytes c) (16 + 3 * (c.channels * i + j)) 3 = x.toNat := by
  obtain ⟨_, frame⟩ := field_flatMap _ (3 * c.channels) [] (frames_length uniform) hf
  obtain ⟨rest, sample⟩ := field_flatMap (bvBytes 3) 3 _ (fun y _ => leBytes_length 3 y.toNat) hx
  calc field (captureBytes c) (16 + 3 * (c.channels * i + j)) 3
      = field ((c.frames.flatMap fun f => f.flatMap (bvBytes 3)) ++ []) (3 * c.channels * i + (3 * j + 0)) 3 := by
        rw [captureBytes_eq, field_past c.layout_length, List.append_nil, Nat.mul_add, ← Nat.mul_assoc, Nat.add_zero]
    _ = field (bvBytes 3 x ++ rest) 0 3 := by rw [frame, sample]
    _ = x.toNat := (field_leBytes 3 x.toNat [] rest).trans (Nat.mod_eq_of_lt x.isLt)

end

/-! ## The lane in progress (R152, R154) -/

/-- A superframe's start puts its header on the lane, and no slot yet. -/
theorem startSuperframe_sent (s : State) :
    ∃ h, (startSuperframe s).link.header = some h ∧ (startSuperframe s).link.slots = [] := by
  rw [startSuperframe]
  split
  · rw [endWindow_eq]
    exact ⟨_, rfl, rfl⟩
  · exact ⟨_, rfl, rfl⟩

theorem sendReports_sent (s : State) : (sendReports s).2.link.header = s.link.header ∧
    (sendReports s).2.link.slots = s.link.slots := by
  rw [sendReports_eq]
  exact ⟨rfl, rfl⟩

/-- Filling a slot leaves what the lane has sent. -/
theorem fillSlot_sent (c : SlotClass) (s : State) :
    (fillSlot c s).2.link.header = s.link.header ∧ (fillSlot c s).2.link.slots = s.link.slots := by
  rw [fillSlot]
  split
  exacts [⟨rfl, rfl⟩, ⟨rfl, rfl⟩, sendReports_sent s, ⟨rfl, rfl⟩, ⟨rfl, rfl⟩, ⟨rfl, rfl⟩]

theorem beginSlot_sent (s : State) :
    (beginSlot s).link.header = s.link.header ∧
      (beginSlot s).link.slots =
        s.link.slots ++ [⟨s.link.nextSlot, nextClass s.link, (fillSlot (nextClass s.link) s).1⟩] := by
  obtain ⟨header, slots⟩ := fillSlot_sent (nextClass s.link) s
  exact ⟨header, congrArg (· ++ _) slots⟩

theorem lane_start {t : State} {h : SuperframeHeader} (header : t.link.header = some h) (slots : t.link.slots = []) :
    t.lane = h.bytes := by
  rw [State.lane, header, slots]
  exact List.append_nil _

theorem lane_append {s t : State} {x : Slot} (header : t.link.header = s.link.header)
    (slots : t.link.slots = s.link.slots ++ [x]) : t.lane = s.lane ++ x.bytes := by
  rw [State.lane, State.lane, header, slots, List.flatMap_append, List.flatMap_singleton, List.append_assoc]

/-- Settles O52: each record by its layout, the CRC-32 by `crc_reads`, the samples by `capture_reads`, the lane by
`startSuperframe_sent` and `beginSlot_sent`. -/
theorem laneBytes : Obligations.LaneBytes := by
  unfold Obligations.LaneBytes
  intro sync bit
  refine ⟨crc32_check, fun h => ?header, fun x number fits => ?slot, fun r short => ?reply, fun p r sensor => ?sensor,
    fun p r exposure => ?exposure, fun p r frame => ?frame, fun c one four uniform => ?capture,
    fun s t hp multiple pending ht => ?start, fun s t hp hn due ht => ?next⟩
  case header =>
    have front := h.bytes_front
    exact ⟨h.bytes_length, front_holds front rfl h.session.isLt, front_holds front rfl h.sync.code_lt,
      front_holds front rfl h.number.isLt, front_holds front rfl h.tick.isLt, front_holds front rfl (by decide),
      crc_reads rfl h.body_length⟩
  case slot =>
    have front := x.bytes_front
    have cls := x.cls.code_le
    have place : field x.bytes 1 1 = x.number % 16 + x.cls.code * 16 := front_holds front rfl (by omega)
    exact ⟨Slot.bytes_length fits, front_holds front rfl x.content.code_lt,
      place.trans (Slot.place_eq number), front_reads front rfl, front_holds front rfl (by decide),
      Slot.bytes_payload fits, crc_reads rfl (Slot.body_length fits)⟩
  case reply =>
    have front := replyBytes_front r
    exact ⟨replyBytes_length r,
      (front_holds front rfl (clientTag r.client r.tag).isLt).trans (clientTag_toNat r.client r.tag),
      front_holds front rfl r.kind.isLt, front_holds front rfl r.status.code_lt, front_holds front rfl (by omega),
      (front_holds front rfl (r.taken.setWidth 32).isLt).trans (BitVec.toNat_setWidth 32 r.taken)⟩
  case sensor =>
    have bytes := placedBytes_sensor sensor
    have front := front_of_eq bytes
    exact ⟨length_of_eq bytes, front_holds front rfl (by decide), front_holds front rfl (flag_lt _),
      front_holds front rfl p.sync.code_lt, front_holds front rfl r.sample.tick.isLt, front_reads front rfl,
      front_holds front rfl p.host.isLt, front_signed front rfl, front_signed front rfl, front_signed front rfl,
      front_signed front rfl, front_signed front rfl, front_signed front rfl, front_signed front rfl,
      front_reads front rfl⟩
  case exposure =>
    have bytes := placedBytes_exposure exposure
    have front := front_of_eq bytes
    have flags := flags_lt p.adjusted r.noResponse r.noEnd r.cutShort r.lateStart
    exact ⟨length_of_eq bytes, front_holds front rfl (by decide), front_holds front rfl flags,
      front_holds front rfl p.sync.code_lt, front_holds front rfl (r.camera.isLt.trans (by decide)),
      front_holds front rfl r.frame.isLt, front_holds front rfl r.start.isLt, front_holds front rfl r.trigger.isLt,
      (front_holds front rfl (r.stop.getD 0).isLt).trans (toNat_getD r.stop), front_reads front rfl,
      front_holds front rfl p.host.isLt, front_reads front rfl⟩
  case frame =>
    have bytes := placedBytes_frame frame
    have front : pack (frameLayout p r) <+: placedBytes p := bytes ▸ List.prefix_append _ _
    have flags := flags_lt p.adjusted r.cutShort r.newBank r.error.isSome false
    have right : (pack (frameLayout p r) ++ eyeBytes r.eyes.left).length = 46 := by
      rw [List.length_append, frameLayout_length, eyeBytes_length]
    exact ⟨placedBytes_frame_length frame, front_holds front rfl (by decide), front_holds front rfl flags,
      front_holds front rfl p.sync.code_lt, front_holds front rfl r.phase.code_lt, front_holds front rfl r.frame.isLt,
      front_holds front rfl r.tick.isLt, front_holds front rfl p.host.isLt, front_reads front rfl,
      front_reads front rfl, front_signed front rfl, front_holds front rfl (by decide), front_signed front rfl,
      front_reads front rfl, eye_reads bytes frameLayout_length, eye_reads (placedBytes_frame_right frame) right,
      placedBytes_frame_rest frame⟩
  case capture =>
    have front := captureBytes_front c
    have adjusted := flag_le c.adjusted 2
    have lost := flag_le (decide (0 < c.discard)) 3
    have state := c.sync.code_le
    refine ⟨captureBytes_length uniform,
      (front_holds front rfl (by omega)).trans (congrArg (_ + ·) (Nat.mul_comm c.sync.code 16)), front_reads front rfl,
      front_reads front rfl, (front_holds front rfl (c.tick.setWidth 32).isLt).trans (BitVec.toNat_setWidth 32 c.tick),
      front_holds front rfl c.host.isLt, fun i j x hx => ?_⟩
    obtain ⟨f, hf, hx⟩ := Option.bind_eq_some_iff.1 hx
    exact capture_reads uniform hf hx
  case start =>
    have runs : exec .superframeStart s = .next (startSuperframe s) :=
      act_of hp ((multipleOf_pending_iff s 250 s.clock.superframeDone).2 ⟨multiple, pending⟩)
    cases runs.symm.trans ht
    obtain ⟨h, header, slots⟩ := startSuperframe_sent s
    exact ⟨h, header, lane_start header slots⟩
  case next =>
    have runs : exec .upstreamSlot s = .next (beginSlot s) := act_of hp ((slotDue_iff s).2 ⟨hn, due⟩)
    cases runs.symm.trans ht
    obtain ⟨header, slots⟩ := beginSlot_sent s
    exact ⟨_, rfl, rfl, slots, header, lane_append header slots⟩

end Sys2Proof.Machine
end

section
/-! PROOFS. One step with a command waiting. -/
namespace Sys2Proof.Machine
open Sys2Proof

/-- Settles O1: with the front of the queue known, `step` takes its first branch (`step_idle` is the other one). -/
theorem stepRunsFront : Obligations.StepRunsFront := by
  unfold Obligations.StepRunsFront
  intro c rest s front
  rw [step, front]

end Sys2Proof.Machine
end
